-- ==== Sys2Proof/Word.lean ====
section
/-! DEFINITION. The word types of the device. -/

namespace Sys2Proof

/-- A 64-bit register value (R10). A 32-bit register holds its value in the low half. -/
abbrev Word := BitVec 64

/-- One byte of the scratchpad. -/
abbrev Byte := BitVec 8

end Sys2Proof
end

