-- ==== Sys2Proof/Machine/Bits.lean ====
section
/-! DEFINITION. Bit fields of words, bytes of words, and saturating counts. -/

namespace Sys2Proof.Machine

/-- Bits hi to lo of a word, as a number. -/
def bitsOf (w : Word) (hi lo : Nat) : Nat := w.toNat / 2 ^ lo % 2 ^ (hi + 1 - lo)

/-- Bit n of a word. -/
def bitOf (w : Word) (n : Nat) : Bool := w.getLsbD n

/-- The word whose bits hi to lo are all 1 and whose other bits are 0. -/
def maskOf (hi lo : Nat) : Word := BitVec.ofNat 64 ((2 ^ (hi + 1 - lo) - 1) * 2 ^ lo)

/-- A word with bits hi to lo replaced by the low bits of n. -/
def putBits (w : Word) (hi lo n : Nat) : Word :=
  (w &&& ~~~(maskOf hi lo)) ||| (BitVec.ofNat 64 (2 ^ lo * n) &&& maskOf hi lo)

/-- The low 32 bits. -/
def lowHalf (w : Word) : Word := BitVec.ofNat 64 (w.toNat % 2 ^ 32)

/-- The high 32 bits, moved down. -/
def highHalf (w : Word) : Word := BitVec.ofNat 64 (w.toNat / 2 ^ 32)

/-- A word from its two halves. -/
def joinHalves (hi lo : Word) : Word := BitVec.ofNat 64 (2 ^ 32 * (hi.toNat % 2 ^ 32) + lo.toNat % 2 ^ 32)

/-- A number as a word. -/
def wordOf (n : Nat) : Word := BitVec.ofNat 64 n

/-- Byte k of a word, byte 0 the least significant (00_scope: the management space is little-endian). -/
def byteOf (w : Word) (k : Nat) : Byte := BitVec.ofNat 8 (w.toNat / 256 ^ k)

/-- The number that a list of bytes spells, first byte least significant. -/
def natOfBytes : List Byte → Nat
  | [] => 0
  | b :: bs => b.toNat + 256 * natOfBytes bs

/-- The low n bytes of a word, least significant first. -/
def bytesOf (w : Word) (n : Nat) : List Byte := (List.range n).map (byteOf w)

/-- A counter that stops at its maximum (R573, "saturates"). -/
def satAdd (max n k : Nat) : Nat := min max (n + k)

/-- A signed number of w bits as a word field. -/
def intField (w : Nat) (z : Int) : Nat := (BitVec.ofInt w z).toNat

/-- The signed reading of the low w bits of a number. -/
def signedOf (w n : Nat) : Int := (BitVec.ofNat w n).toInt

/-- 1 for true, 0 for false. -/
def bit (b : Bool) : Nat := if b then 1 else 0

end Sys2Proof.Machine
end

