-- ==== Sys2Proof/Machine/RegMap.lean ====
section
/-! DEFINITION. The register map of the management space (spec/24_register_map.md, R569, R570, R578): every
register by the name the spec gives it, where its instances stand, its width, its reset domain (R9), and which of
its bits take a plain write, are cleared or set by a write of 1 (R6), or are cleared whole by any write (R573). -/

namespace Sys2Proof.Machine

/-- The registers of the concordance of R578, in its order. The words of a skein entry are SKN_W0 to SKN_W3 and the
words of a remote entry PRT_REXT_W0 and PRT_REXT_W1. -/
inductive Reg where
  | GLB_ID | GLB_LIFECYCLE | GLB_RST_CTL | GLB_RST_STS | GLB_CLK_STS | GLB_BOOT_STS | GLB_BOOT_HOST | GLB_PWR_STS
  | GLB_THERM_STS | GLB_TEMP | FLT_CTL | FLT_GSTS | FLT_SAFE_LOG | FLT_SAFE_VEC | FLT_REFUSE_CNT | FLT_FQ_POP
  | FLT_SQ_POP | FLT_FQ_CNT | FLT_FQ_STS | FLT_SQ_CNT | FLT_SQ_STS | FLT_SRC_CFG | FLT_SRC_STS | FLT_SRC_TOT
  | ICF_CTL | ICF_TVEC | ICF_SEAT_CTL | ICF_SEAT_STS | ICF_SEAT_CMD | ICF_UGRANT | ICF_FN_QRY | ICF_FN_QRES
  | ICF_LOAD_CTL | ICF_LOAD_STS | ICF_DMA_STS | ICF_DMA_CNT | SPD_SEC_LOCK | SPD_TAMP_STS | SPD_ECC | SPD_LOST_CNT
  | SPD_ECC_LOG | SPD_DBG_CTL | ICF_EVQ_CNT | ICF_EVQ_STS | MPU_RGN | MPU_VIOL | MPU_VCNT | PRT_CTL
  | PRT_STS | PRT_MTMO | PRT_MEM_CAP | PRT_MEM_ID | PRT_BIND | PRT_CTO_CNT | PRT_SWP_CNT | PRT_DCR
  | PRT_DC_STS | PRT_DCE | PRT_RDCE | PRT_AF_LOG | PRT_AF_CNT | PRT_SCRB_CTL | PRT_SCRB_PAT | PRT_SCRB_STS
  | PRT_RETRY_CNT | PRT_BICONF_CNT | PRT_SNP_DISC | PRT_TM | PRT_EPT_CNT | PRT_EPT_STS | PRT_REXT_W0 | PRT_REXT_W1
  | PRT_EXT_SLC | PRT_EXT | LN_CTL | LN_STS | LN_TXEQ | LN_EQ_CFG | LN_RXEQ | LN_DFE0
  | LN_DFE1 | LN_CDR | LN_DET | LN_LOS_CNT | LN_LOL_CNT | LN_LB | LN_LB_SLIP | LN_PAT_USR
  | LN_PAT_ERR | LN_PAT_BITS | LN_SS_CTL | LN_SS_EYE | LFL_CTL | LFL_CRD_TMO | LFL_CRD_INIT | LFL_STS
  | LFL_SEQ | LFL_CW_CNT | LFL_CORR_CNT | LFL_UNC_CNT | LFL_CRC_CNT | LFL_RPL_CNT | LFL_TRN_FAIL | LFL_LDN_DISC
  | LFL_BYP_DISC | LFL_CORR_HIST | LFL_SP_STS | LFL_SP_CTL | LFL_HT_CTL | LFL_HT_THR | LFL_HT_STS | LFL_HT_CNT
  | LFL_HT_MARG | CORE_CTL | CORE_OQ_LIM | CORE_ERR_LOG | CORE_FTHR_CNT | CORE_MC_CNT | CORE_RSM_CNT | CORE_BAD_CNT
  | CORE_LATE_CNT | CORE_PL_STS | CORE_PL_ECC | CORE_PL_WHLD | CORE_SKN_ERR | CORE_FAB_ID | CORE_FAB_DISC | CORE_FAB_LL_CNT
  | CORE_FAB_LL_LOG | CORE_FEID_MAP | CORE_SW_RT | CORE_RACL | SKN_W0 | SKN_W1 | SKN_W2 | SKN_W3
  | CRW_CTL | CRW_CMD | CRW_STS | CRW_SKN_CNT | CRW_ENT_CNT | CRW_FINFO | CRW_MEM | DIR_EIDX
  | DIR_EDATA | DIR_ECC_CNT | DIR_PIN_CNT | DIR_EVICT_CNT | DIR_OCC | DIR_NACK_CNT | DIR_PARK_CNT | DIR_STRAY_CNT
  | DIR_RQ_STS | DIR_TD_CTL | DIR_TD_CYC | DIR_TD_RET | DIR_TD_WST | DIR_TD_FST | DIR_TD_BST | DIR_RCRED
  | TM_CTL | TM_ECC | TM_MTR_RATE | TM_MTR_BKT | TM_MTR_TOK | TM_MTR_GRN | TM_MTR_YEL | TM_MTR_RED
  | TM_MTR_DRP | TM_QRATE | TM_QBKT | TM_QTOK | TM_QSTS | TM_QHD | TM_QHL | SLC_CTL
  | SLC_CMD | SLC_STS | SLC_MTR | SLC_TM | SLC_MB_STS | SLC_MB_DONE | SLC_MB_CA | SLC_MB_RA
  | BAY_CFG | BAY_LIM | BAY_VWIN | BAY_MODEL | BAY_FB | BAY_STS | BAY_MEAS | BAY_HOLD
  | BAY_IND | BAY_TRIP_CNT | BAY_NM_CNT | BAY_AMB | PMC_CTL | PMC_STS | PMC_GSEL | PMC_GCNT
  | PMC_SLC_UEN | PMC_PSEL | PMC_PCNT | PMC_SSEL | PMC_SCNT | PMC_NM | PMC_LATE | NOC_CTL
  | NOC_ERR_LOG | NOC_ERR_CNT | NOC_BR_STS | NOC_NODE | NOC_ST_REQ | NOC_ST_BYTES | NOC_ST_HIST | NOC_RT
  | HSF_CFG | HSF_CTL | HSF_SUBSYS | HSF_FW | HSF_CMD | HSF_STS | HSF_ERR_LOG | HSF_CTO_CNT
  | FUSE_STS | FUSE_PGM | FUSE_BOOT | FUSE_LN_REP | FUSE_SRAM_NUM | FUSE_SRAM_REP
  deriving DecidableEq, Repr

/-- The reset domains of R9. -/
inductive Domain where
  | cold | warm | flr | fuse
  deriving DecidableEq, Repr

/-- What the map says of one register: address of instance 0, count and stride of its instances, the stride between
the two halves of a Lafoush octet where instance i is half i mod 2 of octet i div 2 (else 0), count and stride of its
inner index, its width, its domain, its masks and the constant part of its reset value. -/
structure RegRow where
  base : Nat
  count : Nat := 1
  stride : Nat := 0
  sub : Nat := 0
  inner : Nat := 1
  innerStride : Nat := 0
  wide : Bool := false
  domain : Domain := .warm
  rw : Nat := 0
  w1c : Nat := 0
  w1s : Nat := 0
  anyWriteClears : Bool := false
  reset : Nat := 0
  deriving DecidableEq, Repr

/-- The concordance of R578 with the access codes of the owning chapters. -/
def Reg.row : Reg → RegRow
  | .GLB_ID => { base := 0x0, domain := .fuse, reset := 0x512B100 }
  | .GLB_LIFECYCLE => { base := 0x4, domain := .fuse, rw := 0xF000000, reset := 0x3 }
  | .GLB_RST_CTL => { base := 0x10 }
  | .GLB_RST_STS => { base := 0x14, domain := .cold }
  | .GLB_CLK_STS => { base := 0x20, domain := .cold, w1c := 0xC0FF0000 }
  | .GLB_BOOT_STS => { base := 0x30, reset := 0xFFF0 }
  | .GLB_BOOT_HOST => { base := 0x38, wide := true, rw := 0xFFFFFFFFFFFFF, w1s := 0x8000000000000000 }
  | .GLB_PWR_STS => { base := 0x40, domain := .cold, w1c := 0x40000000 }
  | .GLB_THERM_STS => { base := 0x44, domain := .cold, w1c := 0x40000000 }
  | .GLB_TEMP => { base := 0x60, count := 11, stride := 0x4 }
  | .FLT_CTL => { base := 0x100000 }
  | .FLT_GSTS => { base := 0x100004 }
  | .FLT_SAFE_LOG => { base := 0x100008, wide := true, domain := .cold, w1c := 0x8000000000000000 }
  | .FLT_SAFE_VEC => { base := 0x100010, rw := 0x8007FFF8 }
  | .FLT_REFUSE_CNT => { base := 0x100014, anyWriteClears := true }
  | .FLT_FQ_POP => { base := 0x100100, wide := true }
  | .FLT_SQ_POP => { base := 0x100110, wide := true }
  | .FLT_FQ_CNT => { base := 0x100108 }
  | .FLT_FQ_STS => { base := 0x10010C, w1c := 0x40000000 }
  | .FLT_SQ_CNT => { base := 0x100118 }
  | .FLT_SQ_STS => { base := 0x10011C, w1c := 0x40000000 }
  | .FLT_SRC_CFG => { base := 0x101000, count := 1536, stride := 0x10, wide := true, rw := 0xFFFFFFFFF0000000, reset := 0xC700220000000000 }
  | .FLT_SRC_STS => { base := 0x101008, count := 1536, stride := 0x10, w1c := 0x80000000 }
  | .FLT_SRC_TOT => { base := 0x10100C, count := 1536, stride := 0x10, anyWriteClears := true }
  | .ICF_CTL => { base := 0x200000, rw := 0xFF, reset := 0x40 }
  | .ICF_TVEC => { base := 0x200008, rw := 0x7FFF8 }
  | .ICF_SEAT_CTL => { base := 0x200100, count := 16, stride := 0x20, rw := 0x80FF0000, reset := 0x80C00000 }
  | .ICF_SEAT_STS => { base := 0x200104, count := 16, stride := 0x20, w1c := 0x10000000 }
  | .ICF_SEAT_CMD => { base := 0x200108, count := 16, stride := 0x20 }
  | .ICF_UGRANT => { base := 0x200400, count := 64, stride := 0x8, wide := true, rw := 0xFFFF0000F3FF03FF }
  | .ICF_FN_QRY => { base := 0x200500, rw := 0xFFFF }
  | .ICF_FN_QRES => { base := 0x200504, reset := 0x80000000 }
  | .ICF_LOAD_CTL => { base := 0x200700, rw := 0x41FF007F }
  | .ICF_LOAD_STS => { base := 0x200704, w1c := 0x40000000 }
  | .ICF_DMA_STS => { base := 0x200800, count := 4, stride := 0x10 }
  | .ICF_DMA_CNT => { base := 0x200804, count := 4, stride := 0x10 }
  | .SPD_SEC_LOCK => { base := 0x201000, domain := .cold, w1s := 0x80000000 }
  | .SPD_TAMP_STS => { base := 0x201004, domain := .cold, rw := 0xE0000000 }
  | .SPD_ECC => { base := 0x201008, anyWriteClears := true }
  | .SPD_LOST_CNT => { base := 0x20100C, anyWriteClears := true }
  | .SPD_ECC_LOG => { base := 0x201010, wide := true, w1c := 0x8000000000000000 }
  | .SPD_DBG_CTL => { base := 0x201018, rw := 0x80000000 }
  | .ICF_EVQ_CNT => { base := 0x201100 }
  | .ICF_EVQ_STS => { base := 0x201104, w1c := 0x40000000 }
  | .MPU_RGN => { base := 0x202000, count := 7, stride := 0x100, inner := 16, innerStride := 0x8, wide := true, rw := 0xFFFFEFFFFFFFFFFF }
  | .MPU_VIOL => { base := 0x202800, count := 7, stride := 0x10, wide := true, w1c := 0x8000000000000000 }
  | .MPU_VCNT => { base := 0x202808, count := 7, stride := 0x10, anyWriteClears := true }
  | .PRT_CTL => { base := 0x800000, count := 256, stride := 0x1000, rw := 0xFFFC0000, reset := 0x5580000 }
  | .PRT_STS => { base := 0x800004, count := 256, stride := 0x1000 }
  | .PRT_MTMO => { base := 0x80000C, count := 256, stride := 0x1000, rw := 0x3, reset := 0x2 }
  | .PRT_MEM_CAP => { base := 0x800010, count := 256, stride := 0x1000 }
  | .PRT_MEM_ID => { base := 0x800014, count := 256, stride := 0x1000 }
  | .PRT_BIND => { base := 0x800018, count := 256, stride := 0x1000, rw := 0x8000FF0F }
  | .PRT_CTO_CNT => { base := 0x80001C, count := 256, stride := 0x1000, anyWriteClears := true }
  | .PRT_SWP_CNT => { base := 0x800020, count := 256, stride := 0x1000, anyWriteClears := true }
  | .PRT_DCR => { base := 0x800100, count := 256, stride := 0x1000, rw := 0x7FFFF }
  | .PRT_DC_STS => { base := 0x800104, count := 256, stride := 0x1000, w1c := 0xC0000000 }
  | .PRT_DCE => { base := 0x800110, count := 256, stride := 0x1000 }
  | .PRT_RDCE => { base := 0x800114, count := 256, stride := 0x1000 }
  | .PRT_AF_LOG => { base := 0x800120, count := 256, stride := 0x1000, wide := true, w1c := 0x8000000000000000 }
  | .PRT_AF_CNT => { base := 0x800128, count := 256, stride := 0x1000, anyWriteClears := true }
  | .PRT_SCRB_CTL => { base := 0x800130, count := 256, stride := 0x1000, rw := 0xFFFF }
  | .PRT_SCRB_PAT => { base := 0x800134, count := 256, stride := 0x1000, rw := 0xFFFFFFFF }
  | .PRT_SCRB_STS => { base := 0x800138, count := 256, stride := 0x1000, w1c := 0x60000000 }
  | .PRT_RETRY_CNT => { base := 0x800140, count := 256, stride := 0x1000, wide := true, anyWriteClears := true }
  | .PRT_BICONF_CNT => { base := 0x800148, count := 256, stride := 0x1000, anyWriteClears := true }
  | .PRT_SNP_DISC => { base := 0x80014C, count := 256, stride := 0x1000, anyWriteClears := true }
  | .PRT_TM => { base := 0x800150, count := 256, stride := 0x1000, rw := 0x3F }
  | .PRT_EPT_CNT => { base := 0x800160, count := 256, stride := 0x1000 }
  | .PRT_EPT_STS => { base := 0x800164, count := 256, stride := 0x1000, w1c := 0x40000000 }
  | .PRT_REXT_W0 => { base := 0x800200, count := 256, stride := 0x1000, inner := 32, innerStride := 0x10, wide := true, rw := 0xCFFFFFFFFFF0FFFF }
  | .PRT_REXT_W1 => { base := 0x800208, count := 256, stride := 0x1000, inner := 32, innerStride := 0x10, wide := true, rw := 0x80000000000003FF }
  | .PRT_EXT_SLC => { base := 0x800400, count := 256, stride := 0x1000, inner := 256, innerStride := 0x4, rw := 0x800003FF }
  | .PRT_EXT => { base := 0x800800, count := 256, stride := 0x1000, inner := 256, innerStride := 0x8, wide := true, rw := 0xBFFFFFFFF0000000 }
  | .LN_CTL => { base := 0xA00000, count := 576, stride := 0x400, rw := 0xFF000000 }
  | .LN_STS => { base := 0xA00004, count := 576, stride := 0x400, reset := 0x40000FF }
  | .LN_TXEQ => { base := 0xA00010, count := 576, stride := 0x400, rw := 0x80001F0F, reset := 0x280800 }
  | .LN_EQ_CFG => { base := 0xA00014, count := 576, stride := 0x400, rw := 0x7FF0F00, reset := 0x4140800 }
  | .LN_RXEQ => { base := 0xA00020, count := 576, stride := 0x400, rw := 0xC01F0F00, reset := 0x100800 }
  | .LN_DFE0 => { base := 0xA00024, count := 576, stride := 0x400 }
  | .LN_DFE1 => { base := 0xA00028, count := 576, stride := 0x400 }
  | .LN_CDR => { base := 0xA00030, count := 576, stride := 0x400, rw := 0x3, reset := 0x1 }
  | .LN_DET => { base := 0xA00040, count := 576, stride := 0x400, rw := 0xFF, w1c := 0xC0000000, reset := 0x40 }
  | .LN_LOS_CNT => { base := 0xA00044, count := 576, stride := 0x400, anyWriteClears := true }
  | .LN_LOL_CNT => { base := 0xA00048, count := 576, stride := 0x400, anyWriteClears := true }
  | .LN_LB => { base := 0xA00060, count := 576, stride := 0x400, rw := 0xE0FF0000 }
  | .LN_LB_SLIP => { base := 0xA00064, count := 576, stride := 0x400, anyWriteClears := true }
  | .LN_PAT_USR => { base := 0xA00070, count := 576, stride := 0x400, wide := true, rw := 0xFFFFFFFFFFFFFFFF }
  | .LN_PAT_ERR => { base := 0xA00078, count := 576, stride := 0x400, wide := true, anyWriteClears := true }
  | .LN_PAT_BITS => { base := 0xA00080, count := 576, stride := 0x400, wide := true, anyWriteClears := true }
  | .LN_SS_CTL => { base := 0xA00100, count := 576, stride := 0x400, rw := 0x7, w1c := 0x10000000, reset := 0x2 }
  | .LN_SS_EYE => { base := 0xA00110, count := 576, stride := 0x400, inner := 3, innerStride := 0x4 }
  | .LFL_CTL => { base := 0xC00000, count := 128, stride := 0x2000, sub := 0x400, rw := 0xC0FFFF00, reset := 0x80403200 }
  | .LFL_CRD_TMO => { base := 0xC00004, count := 128, stride := 0x2000, sub := 0x400, rw := 0xF, reset := 0x3 }
  | .LFL_CRD_INIT => { base := 0xC00010, count := 128, stride := 0x2000, sub := 0x400, inner := 5, innerStride := 0x4, rw := 0x1FFF }
  | .LFL_STS => { base := 0xC00040, count := 128, stride := 0x2000, sub := 0x400 }
  | .LFL_SEQ => { base := 0xC00044, count := 128, stride := 0x2000, sub := 0x400 }
  | .LFL_CW_CNT => { base := 0xC00080, count := 128, stride := 0x2000, sub := 0x400, wide := true, anyWriteClears := true }
  | .LFL_CORR_CNT => { base := 0xC00088, count := 128, stride := 0x2000, sub := 0x400, wide := true, anyWriteClears := true }
  | .LFL_UNC_CNT => { base := 0xC00090, count := 128, stride := 0x2000, sub := 0x400, anyWriteClears := true }
  | .LFL_CRC_CNT => { base := 0xC00094, count := 128, stride := 0x2000, sub := 0x400, anyWriteClears := true }
  | .LFL_RPL_CNT => { base := 0xC00098, count := 128, stride := 0x2000, sub := 0x400, anyWriteClears := true }
  | .LFL_TRN_FAIL => { base := 0xC0009C, count := 128, stride := 0x2000, sub := 0x400, anyWriteClears := true }
  | .LFL_LDN_DISC => { base := 0xC000A0, count := 128, stride := 0x2000, sub := 0x400, anyWriteClears := true }
  | .LFL_BYP_DISC => { base := 0xC000A4, count := 128, stride := 0x2000, sub := 0x400, anyWriteClears := true }
  | .LFL_CORR_HIST => { base := 0xC000C0, count := 128, stride := 0x2000, sub := 0x400, inner := 9, innerStride := 0x4, anyWriteClears := true }
  | .LFL_SP_STS => { base := 0xC00800, count := 64, stride := 0x2000 }
  | .LFL_SP_CTL => { base := 0xC00804, count := 64, stride := 0x2000, rw := 0x3 }
  | .LFL_HT_CTL => { base := 0xC00900, count := 128, stride := 0x2000, sub := 0x80, rw := 0x3FFFF00, reset := 0x40FF00 }
  | .LFL_HT_THR => { base := 0xC00904, count := 128, stride := 0x2000, sub := 0x80, rw := 0xFFFFFFFF, reset := 0x140C0C08 }
  | .LFL_HT_STS => { base := 0xC00908, count := 128, stride := 0x2000, sub := 0x80 }
  | .LFL_HT_CNT => { base := 0xC0090C, count := 128, stride := 0x2000, sub := 0x80, anyWriteClears := true }
  | .LFL_HT_MARG => { base := 0xC00940, count := 128, stride := 0x2000, sub := 0x80, inner := 8, innerStride := 0x4 }
  | .CORE_CTL => { base := 0x1000000, rw := 0xFFC001FF, reset := 0x1F400010 }
  | .CORE_OQ_LIM => { base := 0x1000004, rw := 0x7FF, reset := 0x400 }
  | .CORE_ERR_LOG => { base := 0x1000010, wide := true, w1c := 0x8000000000000000 }
  | .CORE_FTHR_CNT => { base := 0x1000020, wide := true, anyWriteClears := true }
  | .CORE_MC_CNT => { base := 0x1000028, wide := true, anyWriteClears := true }
  | .CORE_RSM_CNT => { base := 0x1000030, anyWriteClears := true }
  | .CORE_BAD_CNT => { base := 0x1000034, anyWriteClears := true }
  | .CORE_LATE_CNT => { base := 0x1000038, anyWriteClears := true }
  | .CORE_PL_STS => { base := 0x1000100, count := 16, stride := 0x10, reset := 0x10000 }
  | .CORE_PL_ECC => { base := 0x1000104, count := 16, stride := 0x10, anyWriteClears := true }
  | .CORE_PL_WHLD => { base := 0x1000108, count := 16, stride := 0x10, anyWriteClears := true }
  | .CORE_SKN_ERR => { base := 0x100F000, w1c := 0x80000000 }
  | .CORE_FAB_ID => { base := 0x1020000, rw := 0x800003FF }
  | .CORE_FAB_DISC => { base := 0x1020010, anyWriteClears := true }
  | .CORE_FAB_LL_CNT => { base := 0x1020014, anyWriteClears := true }
  | .CORE_FAB_LL_LOG => { base := 0x1020018, wide := true, w1c := 0x8000000000000000 }
  | .CORE_FEID_MAP => { base := 0x1024000, count := 4096, stride := 0x4, rw := 0x83FF00FF }
  | .CORE_SW_RT => { base := 0x1028000, count := 1024, stride := 0x8, wide := true, rw := 0x80FFC0FFFFFFFC00 }
  | .CORE_RACL => { base := 0x102A000, count := 1024, stride := 0x8, wide := true, rw := 0xCFFF00000000FFFF }
  | .SKN_W0 => { base := 0x1900000, count := 65536, stride := 0x20, wide := true, rw := 0xF0FFF0FFFFFF1FFF, reset := 0xFF000000000000 }
  | .SKN_W1 => { base := 0x1900008, count := 65536, stride := 0x20, wide := true, rw := 0xFFFFFFFFF3FF }
  | .SKN_W2 => { base := 0x1900010, count := 65536, stride := 0x20, wide := true, rw := 0xFFFFFFFFFFFFFFFF }
  | .SKN_W3 => { base := 0x1900018, count := 65536, stride := 0x20, wide := true, rw := 0xFFFFFFFFFFFFFFFF }
  | .CRW_CTL => { base := 0x1800000, count := 256, stride := 0x400, rw := 0x8FFFFF00, reset := 0x6800800 }
  | .CRW_CMD => { base := 0x1800004, count := 256, stride := 0x400 }
  | .CRW_STS => { base := 0x1800008, count := 256, stride := 0x400, w1c := 0x8000000 }
  | .CRW_SKN_CNT => { base := 0x180000C, count := 256, stride := 0x400 }
  | .CRW_ENT_CNT => { base := 0x1800010, count := 256, stride := 0x400 }
  | .CRW_FINFO => { base := 0x1800014, count := 256, stride := 0x400 }
  | .CRW_MEM => { base := 0x1800200, count := 256, stride := 0x400, inner := 128, innerStride := 0x4, rw := 0xFFFFFFFF }
  | .DIR_EIDX => { base := 0x1400100, count := 64, stride := 0x10000, rw := 0x7FFF }
  | .DIR_EDATA => { base := 0x1400110, count := 64, stride := 0x10000, inner := 5, innerStride := 0x4 }
  | .DIR_ECC_CNT => { base := 0x1400200, count := 64, stride := 0x10000, anyWriteClears := true }
  | .DIR_PIN_CNT => { base := 0x1400210, count := 64, stride := 0x10000, anyWriteClears := true }
  | .DIR_EVICT_CNT => { base := 0x1400218, count := 64, stride := 0x10000, wide := true, anyWriteClears := true }
  | .DIR_OCC => { base := 0x1400220, count := 64, stride := 0x10000 }
  | .DIR_NACK_CNT => { base := 0x1400228, count := 64, stride := 0x10000, wide := true, anyWriteClears := true }
  | .DIR_PARK_CNT => { base := 0x1400230, count := 64, stride := 0x10000, wide := true, anyWriteClears := true }
  | .DIR_STRAY_CNT => { base := 0x1400238, count := 64, stride := 0x10000, anyWriteClears := true }
  | .DIR_RQ_STS => { base := 0x1400240, count := 64, stride := 0x10000 }
  | .DIR_TD_CTL => { base := 0x1400300, count := 64, stride := 0x10000, rw := 0x20000000, reset := 0x20000000 }
  | .DIR_TD_CYC => { base := 0x1400308, count := 64, stride := 0x10000, wide := true }
  | .DIR_TD_RET => { base := 0x1400310, count := 64, stride := 0x10000, wide := true }
  | .DIR_TD_WST => { base := 0x1400318, count := 64, stride := 0x10000, wide := true }
  | .DIR_TD_FST => { base := 0x1400320, count := 64, stride := 0x10000, wide := true }
  | .DIR_TD_BST => { base := 0x1400328, count := 64, stride := 0x10000, wide := true }
  | .DIR_RCRED => { base := 0x1400400, count := 64, stride := 0x10000, inner := 32, innerStride := 0x4, rw := 0xFFFFFFFF }
  | .TM_CTL => { base := 0x1C00000, rw := 0x7FFFF3FF, reset := 0x5100A00A }
  | .TM_ECC => { base := 0x1C00010, anyWriteClears := true }
  | .TM_MTR_RATE => { base := 0x1C10000, count := 4096, stride := 0x20, wide := true, rw := 0xC00FFFFF000FFFFF }
  | .TM_MTR_BKT => { base := 0x1C10008, count := 4096, stride := 0x20, wide := true, rw := 0xFFFF0000FFFF }
  | .TM_MTR_TOK => { base := 0x1C10010, count := 4096, stride := 0x20, wide := true }
  | .TM_MTR_GRN => { base := 0x1C30000, count := 4096, stride := 0x20, wide := true, anyWriteClears := true }
  | .TM_MTR_YEL => { base := 0x1C30008, count := 4096, stride := 0x20, wide := true, anyWriteClears := true }
  | .TM_MTR_RED => { base := 0x1C30010, count := 4096, stride := 0x20, wide := true, anyWriteClears := true }
  | .TM_MTR_DRP => { base := 0x1C30018, count := 4096, stride := 0x20, wide := true, anyWriteClears := true }
  | .TM_QRATE => { base := 0x1C80000, count := 16384, stride := 0x20, wide := true, rw := 0x800FFFFF000FFFFF }
  | .TM_QBKT => { base := 0x1C80008, count := 16384, stride := 0x20, wide := true, rw := 0x3FFFFFFF00FFFF, reset := 0x4001000040 }
  | .TM_QTOK => { base := 0x1C80010, count := 16384, stride := 0x20, wide := true }
  | .TM_QSTS => { base := 0x1C80018, count := 16384, stride := 0x20 }
  | .TM_QHD => { base := 0x1D00000, count := 16384, stride := 0x80, inner := 16, innerStride := 0x4, anyWriteClears := true }
  | .TM_QHL => { base := 0x1D00040, count := 16384, stride := 0x80, inner := 16, innerStride := 0x4, anyWriteClears := true }
  | .SLC_CTL => { base := 0x2000000, count := 1024, stride := 0x1000, wide := true, rw := 0xFF03FF00000FFFFF }
  | .SLC_CMD => { base := 0x2000008, count := 1024, stride := 0x1000 }
  | .SLC_STS => { base := 0x200000C, count := 1024, stride := 0x1000, w1c := 0x20000000 }
  | .SLC_MTR => { base := 0x2000010, count := 1024, stride := 0x1000, wide := true, rw := 0x8FFF8FFF8FFF8FFF }
  | .SLC_TM => { base := 0x2000018, count := 1024, stride := 0x1000, rw := 0x3F3F }
  | .SLC_MB_STS => { base := 0x2000020, count := 1024, stride := 0x1000, domain := .flr }
  | .SLC_MB_DONE => { base := 0x2000024, count := 1024, stride := 0x1000, domain := .flr }
  | .SLC_MB_CA => { base := 0x2000100, count := 1024, stride := 0x1000, inner := 64, innerStride := 0x4, domain := .flr }
  | .SLC_MB_RA => { base := 0x2000200, count := 1024, stride := 0x1000, inner := 64, innerStride := 0x4, domain := .flr, rw := 0xFFFFFFFF }
  | .BAY_CFG => { base := 0x2800000, count := 32, stride := 0x800, domain := .cold, rw := 0xE7FFFF00, reset := 0x2331800 }
  | .BAY_LIM => { base := 0x2800008, count := 32, stride := 0x800, wide := true, domain := .cold, rw := 0xFFFFFFFFFFFFFF00, reset := 0x508C286496507800 }
  | .BAY_VWIN => { base := 0x2800010, count := 32, stride := 0x800, domain := .cold, rw := 0xFFFFFFFF, reset := 0x6C6C8C96 }
  | .BAY_MODEL => { base := 0x2800018, count := 32, stride := 0x800, wide := true, domain := .cold, rw := 0xFFFFFFFFFFFFFFFF, reset := 0x4E2009C400C80320 }
  | .BAY_FB => { base := 0x2800020, count := 32, stride := 0x800, domain := .cold, rw := 0xFFFFFF00, reset := 0x503C1400 }
  | .BAY_STS => { base := 0x2800100, count := 32, stride := 0x800, domain := .cold, reset := 0x500000 }
  | .BAY_MEAS => { base := 0x2800108, count := 32, stride := 0x800, wide := true, domain := .cold }
  | .BAY_HOLD => { base := 0x2800110, count := 32, stride := 0x800, domain := .cold }
  | .BAY_IND => { base := 0x2800114, count := 32, stride := 0x800, domain := .cold }
  | .BAY_TRIP_CNT => { base := 0x2800120, count := 32, stride := 0x800, domain := .cold, anyWriteClears := true }
  | .BAY_NM_CNT => { base := 0x2800124, count := 32, stride := 0x800, domain := .cold, anyWriteClears := true }
  | .BAY_AMB => { base := 0x2810000, domain := .cold }
  | .PMC_CTL => { base := 0x2900000, rw := 0x80000000 }
  | .PMC_STS => { base := 0x2900004 }
  | .PMC_GSEL => { base := 0x2900100, count := 16, stride := 0x10, rw := 0xC0FF00FF, w1c := 0x20000000 }
  | .PMC_GCNT => { base := 0x2900108, count := 16, stride := 0x10, wide := true }
  | .PMC_SLC_UEN => { base := 0x2900200, count := 32, stride := 0x4, rw := 0xFFFFFFFF }
  | .PMC_PSEL => { base := 0x2910000, count := 256, stride := 0x100, inner := 8, innerStride := 0x10, rw := 0xC0FF00FF, w1c := 0x20000000 }
  | .PMC_PCNT => { base := 0x2910008, count := 256, stride := 0x100, inner := 8, innerStride := 0x10, wide := true }
  | .PMC_SSEL => { base := 0x2920000, count := 1024, stride := 0x40, inner := 4, innerStride := 0x10, rw := 0xC0FF00FF, w1c := 0x20000000 }
  | .PMC_SCNT => { base := 0x2920008, count := 1024, stride := 0x40, inner := 4, innerStride := 0x10, wide := true }
  | .PMC_NM => { base := 0x2930000, count := 157, stride := 0x10, anyWriteClears := true }
  | .PMC_LATE => { base := 0x2930004, count := 157, stride := 0x10, anyWriteClears := true }
  | .NOC_CTL => { base := 0x2A00000, rw := 0x3F00001, reset := 0x2300001 }
  | .NOC_ERR_LOG => { base := 0x2A00010, wide := true, w1c := 0x8000000000000000 }
  | .NOC_ERR_CNT => { base := 0x2A00018, anyWriteClears := true }
  | .NOC_BR_STS => { base := 0x2A00100, count := 18, stride := 0x4 }
  | .NOC_NODE => { base := 0x2A01000, count := 256, stride := 0x4, domain := .fuse }
  | .NOC_ST_REQ => { base := 0x2A40000, count := 256, stride := 0x100, wide := true, anyWriteClears := true }
  | .NOC_ST_BYTES => { base := 0x2A40008, count := 256, stride := 0x100, wide := true, anyWriteClears := true }
  | .NOC_ST_HIST => { base := 0x2A40040, count := 256, stride := 0x100, inner := 16, innerStride := 0x4, anyWriteClears := true }
  | .NOC_RT => { base := 0x2A80000, count := 256, stride := 0x800, inner := 256, innerStride := 0x8, wide := true, rw := 0xC000000FFFFFFFFF }
  | .HSF_CFG => { base := 0x2B00000, count := 256, stride := 0x1000, inner := 256, innerStride := 0x4, domain := .flr }
  | .HSF_CTL => { base := 0x2B00800, count := 256, stride := 0x1000, rw := 0x80000000 }
  | .HSF_SUBSYS => { base := 0x2B00804, count := 256, stride := 0x1000, rw := 0xFFFFFFFF }
  | .HSF_FW => { base := 0x2B00808, count := 256, stride := 0x1000, rw := 0x1 }
  | .HSF_CMD => { base := 0x2B00810, count := 256, stride := 0x1000 }
  | .HSF_STS => { base := 0x2B00820, count := 256, stride := 0x1000, w1c := 0xF }
  | .HSF_ERR_LOG => { base := 0x2B00830, count := 256, stride := 0x1000, wide := true, w1c := 0x8000000000000000 }
  | .HSF_CTO_CNT => { base := 0x2B00838, count := 256, stride := 0x1000, anyWriteClears := true }
  | .FUSE_STS => { base := 0x2C00000, domain := .fuse }
  | .FUSE_PGM => { base := 0x2C00010, rw := 0x3E1FFFF0 }
  | .FUSE_BOOT => { base := 0x2C00020, domain := .fuse, reset := 0x35 }
  | .FUSE_LN_REP => { base := 0x2C00100, count := 8, stride := 0x4, domain := .fuse }
  | .FUSE_SRAM_NUM => { base := 0x2C00200, domain := .fuse }
  | .FUSE_SRAM_REP => { base := 0x2C01000, count := 512, stride := 0x4, domain := .fuse }

/-- One register: its name, its instance and its inner index. -/
structure RKey where
  r : Reg
  i : Nat := 0
  j : Nat := 0
  deriving DecidableEq, Repr

/-- Part 0 of the list of all registers. -/
def regsPart0 : List Reg :=
  [.GLB_ID, .GLB_LIFECYCLE, .GLB_RST_CTL, .GLB_RST_STS, .GLB_CLK_STS, .GLB_BOOT_STS, .GLB_BOOT_HOST, .GLB_PWR_STS, .GLB_THERM_STS, .GLB_TEMP, .FLT_CTL, .FLT_GSTS, .FLT_SAFE_LOG, .FLT_SAFE_VEC, .FLT_REFUSE_CNT, .FLT_FQ_POP, .FLT_SQ_POP, .FLT_FQ_CNT, .FLT_FQ_STS, .FLT_SQ_CNT, .FLT_SQ_STS, .FLT_SRC_CFG, .FLT_SRC_STS, .FLT_SRC_TOT, .ICF_CTL, .ICF_TVEC, .ICF_SEAT_CTL, .ICF_SEAT_STS, .ICF_SEAT_CMD, .ICF_FN_QRY, .ICF_FN_QRES, .ICF_UGRANT]

/-- Part 1 of the list of all registers. -/
def regsPart1 : List Reg :=
  [.ICF_LOAD_CTL, .ICF_LOAD_STS, .ICF_DMA_STS, .ICF_DMA_CNT, .SPD_SEC_LOCK, .SPD_TAMP_STS, .SPD_ECC, .SPD_LOST_CNT, .SPD_ECC_LOG, .SPD_DBG_CTL, .ICF_EVQ_CNT, .ICF_EVQ_STS, .MPU_RGN, .MPU_VIOL, .MPU_VCNT, .PRT_CTL, .PRT_STS, .PRT_MTMO, .PRT_MEM_CAP, .PRT_MEM_ID, .PRT_BIND, .PRT_CTO_CNT, .PRT_SWP_CNT, .PRT_DCR, .PRT_DC_STS, .PRT_DCE, .PRT_RDCE, .PRT_AF_LOG, .PRT_AF_CNT, .PRT_SCRB_CTL, .PRT_SCRB_PAT, .PRT_SCRB_STS]

/-- Part 2 of the list of all registers. -/
def regsPart2 : List Reg :=
  [.PRT_RETRY_CNT, .PRT_BICONF_CNT, .PRT_SNP_DISC, .PRT_TM, .PRT_EPT_CNT, .PRT_EPT_STS, .PRT_REXT_W0, .PRT_REXT_W1, .PRT_EXT_SLC, .PRT_EXT, .LN_CTL, .LN_STS, .LN_TXEQ, .LN_EQ_CFG, .LN_RXEQ, .LN_DFE0, .LN_DFE1, .LN_CDR, .LN_DET, .LN_LOS_CNT, .LN_LOL_CNT, .LN_LB, .LN_LB_SLIP, .LN_PAT_USR, .LN_PAT_ERR, .LN_PAT_BITS, .LN_SS_CTL, .LN_SS_EYE, .LFL_CTL, .LFL_CRD_TMO, .LFL_CRD_INIT, .LFL_STS]

/-- Part 3 of the list of all registers. -/
def regsPart3 : List Reg :=
  [.LFL_SEQ, .LFL_CW_CNT, .LFL_CORR_CNT, .LFL_UNC_CNT, .LFL_CRC_CNT, .LFL_RPL_CNT, .LFL_TRN_FAIL, .LFL_LDN_DISC, .LFL_BYP_DISC, .LFL_CORR_HIST, .LFL_SP_STS, .LFL_SP_CTL, .LFL_HT_CTL, .LFL_HT_THR, .LFL_HT_STS, .LFL_HT_CNT, .LFL_HT_MARG, .CORE_CTL, .CORE_OQ_LIM, .CORE_ERR_LOG, .CORE_FTHR_CNT, .CORE_MC_CNT, .CORE_RSM_CNT, .CORE_BAD_CNT, .CORE_LATE_CNT, .CORE_PL_STS, .CORE_PL_ECC, .CORE_PL_WHLD, .CORE_SKN_ERR, .CORE_FAB_ID, .CORE_FAB_DISC, .CORE_FAB_LL_CNT]

/-- Part 4 of the list of all registers. -/
def regsPart4 : List Reg :=
  [.CORE_FAB_LL_LOG, .CORE_FEID_MAP, .CORE_SW_RT, .CORE_RACL, .SKN_W0, .SKN_W1, .SKN_W2, .SKN_W3, .CRW_CTL, .CRW_CMD, .CRW_STS, .CRW_SKN_CNT, .CRW_ENT_CNT, .CRW_FINFO, .CRW_MEM, .DIR_EIDX, .DIR_EDATA, .DIR_ECC_CNT, .DIR_PIN_CNT, .DIR_EVICT_CNT, .DIR_OCC, .DIR_NACK_CNT, .DIR_PARK_CNT, .DIR_STRAY_CNT, .DIR_RQ_STS, .DIR_TD_CTL, .DIR_TD_CYC, .DIR_TD_RET, .DIR_TD_WST, .DIR_TD_FST, .DIR_TD_BST, .DIR_RCRED]

/-- Part 5 of the list of all registers. -/
def regsPart5 : List Reg :=
  [.TM_CTL, .TM_ECC, .TM_MTR_RATE, .TM_MTR_BKT, .TM_MTR_TOK, .TM_MTR_GRN, .TM_MTR_YEL, .TM_MTR_RED, .TM_MTR_DRP, .TM_QRATE, .TM_QBKT, .TM_QTOK, .TM_QSTS, .TM_QHD, .TM_QHL, .SLC_CTL, .SLC_CMD, .SLC_STS, .SLC_MTR, .SLC_TM, .SLC_MB_STS, .SLC_MB_DONE, .SLC_MB_CA, .SLC_MB_RA, .BAY_CFG, .BAY_LIM, .BAY_VWIN, .BAY_MODEL, .BAY_FB, .BAY_STS, .BAY_MEAS, .BAY_HOLD]

/-- Part 6 of the list of all registers. -/
def regsPart6 : List Reg :=
  [.BAY_IND, .BAY_TRIP_CNT, .BAY_NM_CNT, .BAY_AMB, .PMC_CTL, .PMC_STS, .PMC_GSEL, .PMC_GCNT, .PMC_SLC_UEN, .PMC_PSEL, .PMC_PCNT, .PMC_SSEL, .PMC_SCNT, .PMC_NM, .PMC_LATE, .NOC_CTL, .NOC_ERR_LOG, .NOC_ERR_CNT, .NOC_BR_STS, .NOC_NODE, .NOC_ST_REQ, .NOC_ST_BYTES, .NOC_ST_HIST, .NOC_RT, .HSF_CFG, .HSF_CTL, .HSF_SUBSYS, .HSF_FW, .HSF_CMD, .HSF_STS, .HSF_ERR_LOG, .HSF_CTO_CNT]

/-- Part 7 of the list of all registers. -/
def regsPart7 : List Reg :=
  [.FUSE_STS, .FUSE_PGM, .FUSE_BOOT, .FUSE_LN_REP, .FUSE_SRAM_NUM, .FUSE_SRAM_REP]

/-- Every register of the map. -/
def allRegs : List Reg :=
  regsPart0 ++ regsPart1 ++ regsPart2 ++ regsPart3 ++ regsPart4 ++ regsPart5 ++ regsPart6 ++ regsPart7

/-- The instance of r whose bytes hold address a, with the byte's offset in it (R570). -/
def Reg.locate (r : Reg) (a : Nat) : Option (RKey × Nat) :=
  let w := r.row
  let size := if w.wide then 8 else 4
  if a < w.base then none
  else
    let off := a - w.base
    let o := if w.stride = 0 then 0 else off / w.stride
    let rem := if w.stride = 0 then off else off % w.stride
    let h := if w.sub = 0 then 0 else rem / w.sub
    let rem := if w.sub = 0 then rem else rem % w.sub
    let k := if w.innerStride = 0 then 0 else rem / w.innerStride
    let rem := if w.innerStride = 0 then rem else rem % w.innerStride
    let i := if w.sub = 0 then o else 2 * o + h
    if i < w.count ∧ (w.sub = 0 ∨ h < 2) ∧ k < w.inner ∧ rem < size then some (⟨r, i, k⟩, rem) else none

/-- The first register of a list that holds address a. -/
def locateIn : List Reg → Nat → Option (RKey × Nat)
  | [], _ => none
  | r :: rs, a =>
    match r.locate a with
    | some x => some x
    | none => locateIn rs a

/-- The register whose bytes hold management-space address a, or none where the address is reserved (R7, R570). -/
def regAt (a : Nat) : Option (RKey × Nat) := locateIn allRegs a

/-- The registers whose counters any write clears (R501, R573). -/
def Reg.clears (r : Reg) : Bool :=
  r.row.anyWriteClears || r == .NOC_BR_STS || r == .PMC_GCNT || r == .PMC_PCNT || r == .PMC_SCNT

/-- The address of a register (R570). -/
def RKey.addr (k : RKey) : Nat :=
  let w := k.r.row
  if w.sub = 0 then w.base + k.i * w.stride + k.j * w.innerStride
  else w.base + (k.i / 2) * w.stride + (k.i % 2) * w.sub + k.j * w.innerStride

/-- The bits of a register, as its width gives. -/
def Reg.width (r : Reg) : Nat := if r.row.wide then 64 else 32

/-- Bits of a register that a warm reset leaves (R9): all of a Cold or Fuse register, none of a Warm or FLR one. The
Fuse fields of GLB_LIFECYCLE (R525) and LN_STS (R272) are kept by themselves. -/
def Reg.warmKeep (r : Reg) : BitVec 64 :=
  match r with
  | .GLB_LIFECYCLE => 0xF
  | .LN_STS => 0xC00FFC00
  | _ => match r.row.domain with
    | .cold => BitVec.allOnes 64
    | .fuse => BitVec.allOnes 64
    | .warm => 0
    | .flr => 0

/-- A named field of a register. -/
structure Fld where
  r : Reg
  hi : Nat
  lo : Nat
  deriving DecidableEq, Repr

end Sys2Proof.Machine
end

