-- ==== Sys2Proof/Machine/RegFields.lean ====
section
/-! DEFINITION. The fields of the registers, by the names and bit spans of the field tables of spec/. A field F of
register R is R.F. -/

namespace Sys2Proof.Machine

abbrev GLB_ID.PART_NUM : Fld := ⟨.GLB_ID, 31, 16⟩
abbrev GLB_ID.STEPPING : Fld := ⟨.GLB_ID, 15, 8⟩
abbrev GLB_ID.TJ_RANGE : Fld := ⟨.GLB_ID, 3, 0⟩
abbrev GLB_LIFECYCLE.GO : Fld := ⟨.GLB_LIFECYCLE, 31, 31⟩
abbrev GLB_LIFECYCLE.BUSY : Fld := ⟨.GLB_LIFECYCLE, 30, 30⟩
abbrev GLB_LIFECYCLE.TARGET : Fld := ⟨.GLB_LIFECYCLE, 27, 24⟩
abbrev GLB_LIFECYCLE.RESULT : Fld := ⟨.GLB_LIFECYCLE, 15, 12⟩
abbrev GLB_LIFECYCLE.CODE : Fld := ⟨.GLB_LIFECYCLE, 3, 0⟩
abbrev GLB_RST_CTL.OP : Fld := ⟨.GLB_RST_CTL, 31, 30⟩
abbrev GLB_RST_CTL.KEY : Fld := ⟨.GLB_RST_CTL, 15, 0⟩
abbrev GLB_RST_STS.WARM_CNT : Fld := ⟨.GLB_RST_STS, 31, 16⟩
abbrev GLB_RST_STS.REQ : Fld := ⟨.GLB_RST_STS, 11, 8⟩
abbrev GLB_RST_STS.SAFE : Fld := ⟨.GLB_RST_STS, 4, 4⟩
abbrev GLB_RST_STS.LAST : Fld := ⟨.GLB_RST_STS, 3, 0⟩
abbrev GLB_CLK_STS.HK_LOST : Fld := ⟨.GLB_CLK_STS, 31, 31⟩
abbrev GLB_CLK_STS.PLL_FAIL : Fld := ⟨.GLB_CLK_STS, 30, 30⟩
abbrev GLB_CLK_STS.CORE1_ALT : Fld := ⟨.GLB_CLK_STS, 29, 29⟩
abbrev GLB_CLK_STS.CORE0_ALT : Fld := ⟨.GLB_CLK_STS, 28, 28⟩
abbrev GLB_CLK_STS.REF_LOST : Fld := ⟨.GLB_CLK_STS, 23, 16⟩
abbrev GLB_CLK_STS.REF_OK : Fld := ⟨.GLB_CLK_STS, 7, 0⟩
abbrev GLB_BOOT_STS.DONE : Fld := ⟨.GLB_BOOT_STS, 31, 31⟩
abbrev GLB_BOOT_STS.SOURCE : Fld := ⟨.GLB_BOOT_STS, 30, 28⟩
abbrev GLB_BOOT_STS.RES_A : Fld := ⟨.GLB_BOOT_STS, 15, 12⟩
abbrev GLB_BOOT_STS.RES_B : Fld := ⟨.GLB_BOOT_STS, 11, 8⟩
abbrev GLB_BOOT_STS.RES_H : Fld := ⟨.GLB_BOOT_STS, 7, 4⟩
abbrev GLB_BOOT_HOST.GO : Fld := ⟨.GLB_BOOT_HOST, 63, 63⟩
abbrev GLB_BOOT_HOST.HADDR : Fld := ⟨.GLB_BOOT_HOST, 51, 20⟩
abbrev GLB_BOOT_HOST.HLEN : Fld := ⟨.GLB_BOOT_HOST, 19, 0⟩
abbrev GLB_PWR_STS.BAY_LOCK : Fld := ⟨.GLB_PWR_STS, 31, 31⟩
abbrev GLB_PWR_STS.BAY_LOCK_STK : Fld := ⟨.GLB_PWR_STS, 30, 30⟩
abbrev GLB_PWR_STS.FUSE_PWR : Fld := ⟨.GLB_PWR_STS, 29, 29⟩
abbrev GLB_THERM_STS.WARN : Fld := ⟨.GLB_THERM_STS, 31, 31⟩
abbrev GLB_THERM_STS.WARN_STK : Fld := ⟨.GLB_THERM_STS, 30, 30⟩
abbrev GLB_THERM_STS.TRIP : Fld := ⟨.GLB_THERM_STS, 29, 29⟩
abbrev GLB_THERM_STS.HOT : Fld := ⟨.GLB_THERM_STS, 23, 20⟩
abbrev GLB_THERM_STS.PEAK : Fld := ⟨.GLB_THERM_STS, 9, 0⟩
abbrev GLB_TEMP.VLD : Fld := ⟨.GLB_TEMP, 31, 31⟩
abbrev GLB_TEMP.TEMP : Fld := ⟨.GLB_TEMP, 9, 0⟩
abbrev FLT_CTL.SAFE_REQ : Fld := ⟨.FLT_CTL, 31, 31⟩
abbrev FLT_GSTS.SAFE : Fld := ⟨.FLT_GSTS, 31, 31⟩
abbrev FLT_GSTS.FAULT : Fld := ⟨.FLT_GSTS, 30, 30⟩
abbrev FLT_GSTS.NPEND : Fld := ⟨.FLT_GSTS, 10, 0⟩
abbrev FLT_SAFE_LOG.VLD : Fld := ⟨.FLT_SAFE_LOG, 63, 63⟩
abbrev FLT_SAFE_LOG.CAUSE : Fld := ⟨.FLT_SAFE_LOG, 62, 60⟩
abbrev FLT_SAFE_LOG.ADDR : Fld := ⟨.FLT_SAFE_LOG, 25, 0⟩
abbrev FLT_SAFE_VEC.VLD : Fld := ⟨.FLT_SAFE_VEC, 31, 31⟩
abbrev FLT_SAFE_VEC.ADDR : Fld := ⟨.FLT_SAFE_VEC, 18, 3⟩
abbrev FLT_REFUSE_CNT.CNT : Fld := ⟨.FLT_REFUSE_CNT, 31, 0⟩
abbrev FLT_FQ_POP.REC : Fld := ⟨.FLT_FQ_POP, 63, 0⟩
abbrev FLT_SQ_POP.REC : Fld := ⟨.FLT_SQ_POP, 63, 0⟩
abbrev FLT_FQ_CNT.COUNT : Fld := ⟨.FLT_FQ_CNT, 10, 0⟩
abbrev FLT_FQ_STS.FULL : Fld := ⟨.FLT_FQ_STS, 31, 31⟩
abbrev FLT_FQ_STS.OVR : Fld := ⟨.FLT_FQ_STS, 30, 30⟩
abbrev FLT_FQ_STS.UE_PMM : Fld := ⟨.FLT_FQ_STS, 15, 8⟩
abbrev FLT_FQ_STS.CE : Fld := ⟨.FLT_FQ_STS, 7, 0⟩
abbrev FLT_SQ_CNT.COUNT : Fld := ⟨.FLT_SQ_CNT, 10, 0⟩
abbrev FLT_SQ_STS.FULL : Fld := ⟨.FLT_SQ_STS, 31, 31⟩
abbrev FLT_SQ_STS.OVR : Fld := ⟨.FLT_SQ_STS, 30, 30⟩
abbrev FLT_SQ_STS.UE_PMM : Fld := ⟨.FLT_SQ_STS, 15, 8⟩
abbrev FLT_SQ_STS.CE : Fld := ⟨.FLT_SQ_STS, 7, 0⟩
abbrev FLT_SRC_CFG.EN : Fld := ⟨.FLT_SRC_CFG, 63, 63⟩
abbrev FLT_SRC_CFG.ACTION : Fld := ⟨.FLT_SRC_CFG, 62, 60⟩
abbrev FLT_SRC_CFG.LVL : Fld := ⟨.FLT_SRC_CFG, 59, 57⟩
abbrev FLT_SRC_CFG.WUNIT : Fld := ⟨.FLT_SRC_CFG, 56, 55⟩
abbrev FLT_SRC_CFG.WVAL : Fld := ⟨.FLT_SRC_CFG, 54, 45⟩
abbrev FLT_SRC_CFG.NSEV : Fld := ⟨.FLT_SRC_CFG, 44, 37⟩
abbrev FLT_SRC_CFG.ARG : Fld := ⟨.FLT_SRC_CFG, 36, 28⟩
abbrev FLT_SRC_STS.PEND : Fld := ⟨.FLT_SRC_STS, 31, 31⟩
abbrev FLT_SRC_STS.SEVERE : Fld := ⟨.FLT_SRC_STS, 30, 30⟩
abbrev FLT_SRC_STS.CAUSE : Fld := ⟨.FLT_SRC_STS, 29, 29⟩
abbrev FLT_SRC_STS.WOPEN : Fld := ⟨.FLT_SRC_STS, 28, 28⟩
abbrev FLT_SRC_STS.REFUSED : Fld := ⟨.FLT_SRC_STS, 23, 16⟩
abbrev FLT_SRC_STS.WCNT : Fld := ⟨.FLT_SRC_STS, 15, 8⟩
abbrev FLT_SRC_TOT.CNT : Fld := ⟨.FLT_SRC_TOT, 31, 0⟩
abbrev ICF_CTL.USPLIT : Fld := ⟨.ICF_CTL, 7, 0⟩
abbrev ICF_TVEC.ADDR : Fld := ⟨.ICF_TVEC, 18, 3⟩
abbrev ICF_SEAT_CTL.PRIV : Fld := ⟨.ICF_SEAT_CTL, 31, 31⟩
abbrev ICF_SEAT_CTL.EVGRANT : Fld := ⟨.ICF_SEAT_CTL, 23, 16⟩
abbrev ICF_SEAT_STS.STATE : Fld := ⟨.ICF_SEAT_STS, 31, 29⟩
abbrev ICF_SEAT_STS.INTRAP : Fld := ⟨.ICF_SEAT_STS, 28, 28⟩
abbrev ICF_SEAT_STS.CAUSE : Fld := ⟨.ICF_SEAT_STS, 27, 24⟩
abbrev ICF_SEAT_STS.EPC : Fld := ⟨.ICF_SEAT_STS, 18, 0⟩
abbrev ICF_SEAT_CMD.OP : Fld := ⟨.ICF_SEAT_CMD, 31, 30⟩
abbrev ICF_SEAT_CMD.PC : Fld := ⟨.ICF_SEAT_CMD, 18, 0⟩
abbrev ICF_UGRANT.VLD : Fld := ⟨.ICF_UGRANT, 63, 63⟩
abbrev ICF_UGRANT.SEATS : Fld := ⟨.ICF_UGRANT, 62, 48⟩
abbrev ICF_UGRANT.KIND : Fld := ⟨.ICF_UGRANT, 31, 28⟩
abbrev ICF_UGRANT.LAST : Fld := ⟨.ICF_UGRANT, 25, 16⟩
abbrev ICF_UGRANT.FIRST : Fld := ⟨.ICF_UGRANT, 9, 0⟩
abbrev ICF_FN_QRY.FID : Fld := ⟨.ICF_FN_QRY, 15, 0⟩
abbrev ICF_FN_QRES.STATE : Fld := ⟨.ICF_FN_QRES, 31, 30⟩
abbrev ICF_FN_QRES.OWNED : Fld := ⟨.ICF_FN_QRES, 29, 29⟩
abbrev ICF_FN_QRES.OWNER : Fld := ⟨.ICF_FN_QRES, 28, 25⟩
abbrev ICF_LOAD_CTL.GO : Fld := ⟨.ICF_LOAD_CTL, 31, 31⟩
abbrev ICF_LOAD_CTL.KIND : Fld := ⟨.ICF_LOAD_CTL, 30, 30⟩
abbrev ICF_LOAD_CTL.SRC : Fld := ⟨.ICF_LOAD_CTL, 24, 16⟩
abbrev ICF_LOAD_CTL.DST : Fld := ⟨.ICF_LOAD_CTL, 6, 0⟩
abbrev ICF_LOAD_STS.BUSY : Fld := ⟨.ICF_LOAD_STS, 31, 31⟩
abbrev ICF_LOAD_STS.DONE : Fld := ⟨.ICF_LOAD_STS, 30, 30⟩
abbrev ICF_LOAD_STS.RESULT : Fld := ⟨.ICF_LOAD_STS, 27, 24⟩
abbrev ICF_DMA_STS.BUSY : Fld := ⟨.ICF_DMA_STS, 31, 31⟩
abbrev ICF_DMA_STS.PAUSED : Fld := ⟨.ICF_DMA_STS, 30, 30⟩
abbrev ICF_DMA_STS.LAST : Fld := ⟨.ICF_DMA_STS, 7, 0⟩
abbrev ICF_DMA_CNT.BYTES : Fld := ⟨.ICF_DMA_CNT, 23, 0⟩
abbrev SPD_SEC_LOCK.LOCK : Fld := ⟨.SPD_SEC_LOCK, 31, 31⟩
abbrev SPD_TAMP_STS.T0_SEEN : Fld := ⟨.SPD_TAMP_STS, 31, 31⟩
abbrev SPD_TAMP_STS.T1_SEEN : Fld := ⟨.SPD_TAMP_STS, 30, 30⟩
abbrev SPD_TAMP_STS.LC_WIPE : Fld := ⟨.SPD_TAMP_STS, 29, 29⟩
abbrev SPD_TAMP_STS.BUSY : Fld := ⟨.SPD_TAMP_STS, 28, 28⟩
abbrev SPD_TAMP_STS.WIPES : Fld := ⟨.SPD_TAMP_STS, 15, 0⟩
abbrev SPD_ECC.UE : Fld := ⟨.SPD_ECC, 31, 16⟩
abbrev SPD_ECC.CE : Fld := ⟨.SPD_ECC, 15, 0⟩
abbrev SPD_LOST_CNT.CNT : Fld := ⟨.SPD_LOST_CNT, 31, 0⟩
abbrev SPD_ECC_LOG.VLD : Fld := ⟨.SPD_ECC_LOG, 63, 63⟩
abbrev SPD_ECC_LOG.MERGE : Fld := ⟨.SPD_ECC_LOG, 62, 62⟩
abbrev SPD_ECC_LOG.ADDR : Fld := ⟨.SPD_ECC_LOG, 20, 2⟩
abbrev SPD_DBG_CTL.EN : Fld := ⟨.SPD_DBG_CTL, 31, 31⟩
abbrev SPD_DBG_CTL.SESS : Fld := ⟨.SPD_DBG_CTL, 30, 30⟩
abbrev ICF_EVQ_CNT.COUNT : Fld := ⟨.ICF_EVQ_CNT, 10, 0⟩
abbrev ICF_EVQ_STS.FULL : Fld := ⟨.ICF_EVQ_STS, 31, 31⟩
abbrev ICF_EVQ_STS.OVR : Fld := ⟨.ICF_EVQ_STS, 30, 30⟩
abbrev ICF_EVQ_STS.UE_PMM : Fld := ⟨.ICF_EVQ_STS, 15, 8⟩
abbrev ICF_EVQ_STS.CE : Fld := ⟨.ICF_EVQ_STS, 7, 0⟩
abbrev MPU_RGN.EN : Fld := ⟨.MPU_RGN, 63, 63⟩
abbrev MPU_RGN.SPACE : Fld := ⟨.MPU_RGN, 62, 62⟩
abbrev MPU_RGN.R : Fld := ⟨.MPU_RGN, 61, 61⟩
abbrev MPU_RGN.W : Fld := ⟨.MPU_RGN, 60, 60⟩
abbrev MPU_RGN.SEATS : Fld := ⟨.MPU_RGN, 59, 45⟩
abbrev MPU_RGN.BASE : Fld := ⟨.MPU_RGN, 43, 22⟩
abbrev MPU_RGN.LIMIT : Fld := ⟨.MPU_RGN, 21, 0⟩
abbrev MPU_VIOL.VLD : Fld := ⟨.MPU_VIOL, 63, 63⟩
abbrev MPU_VIOL.SPACE : Fld := ⟨.MPU_VIOL, 62, 62⟩
abbrev MPU_VIOL.WR : Fld := ⟨.MPU_VIOL, 61, 61⟩
abbrev MPU_VIOL.CAUSE : Fld := ⟨.MPU_VIOL, 60, 59⟩
abbrev MPU_VIOL.REQ : Fld := ⟨.MPU_VIOL, 58, 55⟩
abbrev MPU_VIOL.ADDR : Fld := ⟨.MPU_VIOL, 25, 0⟩
abbrev MPU_VCNT.CNT : Fld := ⟨.MPU_VCNT, 31, 0⟩
abbrev PRT_CTL.ROLE : Fld := ⟨.PRT_CTL, 31, 29⟩
abbrev PRT_CTL.WIDTH : Fld := ⟨.PRT_CTL, 28, 27⟩
abbrev PRT_CTL.MAXRATE : Fld := ⟨.PRT_CTL, 26, 24⟩
abbrev PRT_CTL.MINW : Fld := ⟨.PRT_CTL, 23, 22⟩
abbrev PRT_CTL.ENUM : Fld := ⟨.PRT_CTL, 21, 21⟩
abbrev PRT_CTL.LOPT : Fld := ⟨.PRT_CTL, 20, 20⟩
abbrev PRT_CTL.L0P_EN : Fld := ⟨.PRT_CTL, 19, 19⟩
abbrev PRT_CTL.F68 : Fld := ⟨.PRT_CTL, 18, 18⟩
abbrev PRT_STS.STATE : Fld := ⟨.PRT_STS, 31, 28⟩
abbrev PRT_STS.RATE_NEG : Fld := ⟨.PRT_STS, 27, 25⟩
abbrev PRT_STS.WIDTH_NEG : Fld := ⟨.PRT_STS, 24, 22⟩
abbrev PRT_STS.FLIT : Fld := ⟨.PRT_STS, 21, 20⟩
abbrev PRT_STS.VIRAL_TX : Fld := ⟨.PRT_STS, 19, 19⟩
abbrev PRT_STS.VIRAL_RX : Fld := ⟨.PRT_STS, 18, 18⟩
abbrev PRT_STS.REV : Fld := ⟨.PRT_STS, 17, 17⟩
abbrev PRT_STS.LUP : Fld := ⟨.PRT_STS, 16, 16⟩
abbrev PRT_STS.LDN_CAUSE : Fld := ⟨.PRT_STS, 15, 12⟩
abbrev PRT_STS.ENUM_ERR : Fld := ⟨.PRT_STS, 11, 8⟩
abbrev PRT_MTMO.TMO : Fld := ⟨.PRT_MTMO, 1, 0⟩
abbrev PRT_MEM_CAP.TRUNC : Fld := ⟨.PRT_MEM_CAP, 31, 31⟩
abbrev PRT_MEM_CAP.PBASE_G : Fld := ⟨.PRT_MEM_CAP, 29, 16⟩
abbrev PRT_MEM_CAP.CAP_G : Fld := ⟨.PRT_MEM_CAP, 13, 0⟩
abbrev PRT_MEM_ID.DEV : Fld := ⟨.PRT_MEM_ID, 31, 16⟩
abbrev PRT_MEM_ID.VEN : Fld := ⟨.PRT_MEM_ID, 15, 0⟩
abbrev PRT_BIND.VLD : Fld := ⟨.PRT_BIND, 31, 31⟩
abbrev PRT_BIND.HPORT : Fld := ⟨.PRT_BIND, 15, 8⟩
abbrev PRT_BIND.VPPB : Fld := ⟨.PRT_BIND, 3, 0⟩
abbrev PRT_CTO_CNT.CNT : Fld := ⟨.PRT_CTO_CNT, 31, 0⟩
abbrev PRT_SWP_CNT.CNT : Fld := ⟨.PRT_SWP_CNT, 31, 0⟩
abbrev PRT_DCR.SIZE_G : Fld := ⟨.PRT_DCR, 18, 0⟩
abbrev PRT_DC_STS.OVF : Fld := ⟨.PRT_DC_STS, 31, 31⟩
abbrev PRT_DC_STS.NOMAP : Fld := ⟨.PRT_DC_STS, 30, 30⟩
abbrev PRT_DC_STS.PEND : Fld := ⟨.PRT_DC_STS, 6, 0⟩
abbrev PRT_DCE.OP : Fld := ⟨.PRT_DCE, 31, 30⟩
abbrev PRT_DCE.SKEIN : Fld := ⟨.PRT_DCE, 15, 0⟩
abbrev PRT_RDCE.OP : Fld := ⟨.PRT_RDCE, 31, 30⟩
abbrev PRT_RDCE.INDEX : Fld := ⟨.PRT_RDCE, 4, 0⟩
abbrev PRT_AF_LOG.VLD : Fld := ⟨.PRT_AF_LOG, 63, 63⟩
abbrev PRT_AF_LOG.CAUSE : Fld := ⟨.PRT_AF_LOG, 62, 60⟩
abbrev PRT_AF_LOG.EPOCH : Fld := ⟨.PRT_AF_LOG, 59, 56⟩
abbrev PRT_AF_LOG.HPA : Fld := ⟨.PRT_AF_LOG, 51, 6⟩
abbrev PRT_AF_LOG.WR : Fld := ⟨.PRT_AF_LOG, 0, 0⟩
abbrev PRT_AF_CNT.CNT : Fld := ⟨.PRT_AF_CNT, 31, 0⟩
abbrev PRT_SCRB_CTL.GO : Fld := ⟨.PRT_SCRB_CTL, 31, 31⟩
abbrev PRT_SCRB_CTL.SKEIN : Fld := ⟨.PRT_SCRB_CTL, 15, 0⟩
abbrev PRT_SCRB_PAT.PAT : Fld := ⟨.PRT_SCRB_PAT, 31, 0⟩
abbrev PRT_SCRB_STS.BUSY : Fld := ⟨.PRT_SCRB_STS, 31, 31⟩
abbrev PRT_SCRB_STS.ERR : Fld := ⟨.PRT_SCRB_STS, 30, 30⟩
abbrev PRT_SCRB_STS.DONE : Fld := ⟨.PRT_SCRB_STS, 29, 29⟩
abbrev PRT_SCRB_STS.PROG_MIB : Fld := ⟨.PRT_SCRB_STS, 20, 0⟩
abbrev PRT_RETRY_CNT.CNT : Fld := ⟨.PRT_RETRY_CNT, 63, 0⟩
abbrev PRT_BICONF_CNT.CNT : Fld := ⟨.PRT_BICONF_CNT, 31, 0⟩
abbrev PRT_SNP_DISC.CNT : Fld := ⟨.PRT_SNP_DISC, 31, 0⟩
abbrev PRT_TM.DEF_EQ : Fld := ⟨.PRT_TM, 5, 0⟩
abbrev PRT_EPT_CNT.COUNT : Fld := ⟨.PRT_EPT_CNT, 10, 0⟩
abbrev PRT_EPT_STS.FULL : Fld := ⟨.PRT_EPT_STS, 31, 31⟩
abbrev PRT_EPT_STS.OVR : Fld := ⟨.PRT_EPT_STS, 30, 30⟩
abbrev PRT_EPT_STS.UE_PMM : Fld := ⟨.PRT_EPT_STS, 15, 8⟩
abbrev PRT_EPT_STS.CE : Fld := ⟨.PRT_EPT_STS, 7, 0⟩
abbrev PRT_REXT_W0.VLD : Fld := ⟨.PRT_REXT_W0, 63, 63⟩
abbrev PRT_REXT_W0.WR : Fld := ⟨.PRT_REXT_W0, 62, 62⟩
abbrev PRT_REXT_W0.ACC : Fld := ⟨.PRT_REXT_W0, 61, 61⟩
abbrev PRT_REXT_W0.FENCED : Fld := ⟨.PRT_REXT_W0, 60, 60⟩
abbrev PRT_REXT_W0.SIZE : Fld := ⟨.PRT_REXT_W0, 59, 56⟩
abbrev PRT_REXT_W0.HSWID : Fld := ⟨.PRT_REXT_W0, 55, 46⟩
abbrev PRT_REXT_W0.DPA_BASE : Fld := ⟨.PRT_REXT_W0, 45, 28⟩
abbrev PRT_REXT_W0.HCREW : Fld := ⟨.PRT_REXT_W0, 27, 20⟩
abbrev PRT_REXT_W0.HSKEIN : Fld := ⟨.PRT_REXT_W0, 15, 0⟩
abbrev PRT_REXT_W1.SVLD : Fld := ⟨.PRT_REXT_W1, 63, 63⟩
abbrev PRT_REXT_W1.SLICE : Fld := ⟨.PRT_REXT_W1, 9, 0⟩
abbrev PRT_EXT_SLC.VLD : Fld := ⟨.PRT_EXT_SLC, 31, 31⟩
abbrev PRT_EXT_SLC.SLICE : Fld := ⟨.PRT_EXT_SLC, 9, 0⟩
abbrev PRT_EXT.VLD : Fld := ⟨.PRT_EXT, 63, 63⟩
abbrev PRT_EXT.SKEIN : Fld := ⟨.PRT_EXT, 61, 46⟩
abbrev PRT_EXT.DPA_BASE : Fld := ⟨.PRT_EXT, 45, 28⟩
abbrev LN_CTL.TX_EN : Fld := ⟨.LN_CTL, 31, 31⟩
abbrev LN_CTL.RX_EN : Fld := ⟨.LN_CTL, 30, 30⟩
abbrev LN_CTL.TX_INV : Fld := ⟨.LN_CTL, 29, 29⟩
abbrev LN_CTL.RX_POL : Fld := ⟨.LN_CTL, 28, 27⟩
abbrev LN_CTL.TRATE : Fld := ⟨.LN_CTL, 26, 24⟩
abbrev LN_STS.MAP : Fld := ⟨.LN_STS, 31, 30⟩
abbrev LN_STS.TXON : Fld := ⟨.LN_STS, 29, 29⟩
abbrev LN_STS.RXON : Fld := ⟨.LN_STS, 28, 28⟩
abbrev LN_STS.INV : Fld := ⟨.LN_STS, 27, 27⟩
abbrev LN_STS.LOS : Fld := ⟨.LN_STS, 26, 26⟩
abbrev LN_STS.LOCK : Fld := ⟨.LN_STS, 25, 25⟩
abbrev LN_STS.LOGICAL : Fld := ⟨.LN_STS, 19, 10⟩
abbrev LN_STS.PLANE : Fld := ⟨.LN_STS, 7, 4⟩
abbrev LN_STS.RATE_CUR : Fld := ⟨.LN_STS, 3, 0⟩
abbrev LN_TXEQ.OVR : Fld := ⟨.LN_TXEQ, 31, 31⟩
abbrev LN_TXEQ.MAIN : Fld := ⟨.LN_TXEQ, 21, 16⟩
abbrev LN_TXEQ.POST : Fld := ⟨.LN_TXEQ, 12, 8⟩
abbrev LN_TXEQ.PRE : Fld := ⟨.LN_TXEQ, 3, 0⟩
abbrev LN_EQ_CFG.LPRESET : Fld := ⟨.LN_EQ_CFG, 26, 24⟩
abbrev LN_EQ_CFG.EVAL : Fld := ⟨.LN_EQ_CFG, 23, 16⟩
abbrev LN_EQ_CFG.MAXREQ : Fld := ⟨.LN_EQ_CFG, 11, 8⟩
abbrev LN_RXEQ.OVR : Fld := ⟨.LN_RXEQ, 31, 31⟩
abbrev LN_RXEQ.FRZ : Fld := ⟨.LN_RXEQ, 30, 30⟩
abbrev LN_RXEQ.VGA : Fld := ⟨.LN_RXEQ, 20, 16⟩
abbrev LN_RXEQ.CTLE : Fld := ⟨.LN_RXEQ, 11, 8⟩
abbrev LN_DFE0.H1 : Fld := ⟨.LN_DFE0, 30, 24⟩
abbrev LN_DFE0.H2 : Fld := ⟨.LN_DFE0, 21, 16⟩
abbrev LN_DFE0.H3 : Fld := ⟨.LN_DFE0, 13, 8⟩
abbrev LN_DFE0.H4 : Fld := ⟨.LN_DFE0, 5, 0⟩
abbrev LN_DFE1.H5 : Fld := ⟨.LN_DFE1, 29, 24⟩
abbrev LN_DFE1.H6 : Fld := ⟨.LN_DFE1, 21, 16⟩
abbrev LN_DFE1.H7 : Fld := ⟨.LN_DFE1, 13, 8⟩
abbrev LN_DFE1.H8 : Fld := ⟨.LN_DFE1, 5, 0⟩
abbrev LN_CDR.SSC_TRK : Fld := ⟨.LN_CDR, 4, 4⟩
abbrev LN_CDR.BW : Fld := ⟨.LN_CDR, 1, 0⟩
abbrev LN_DET.LOS_STK : Fld := ⟨.LN_DET, 31, 31⟩
abbrev LN_DET.LOL_STK : Fld := ⟨.LN_DET, 30, 30⟩
abbrev LN_DET.LOS_TH : Fld := ⟨.LN_DET, 7, 0⟩
abbrev LN_LOS_CNT.CNT : Fld := ⟨.LN_LOS_CNT, 31, 0⟩
abbrev LN_LOL_CNT.CNT : Fld := ⟨.LN_LOL_CNT, 31, 0⟩
abbrev LN_LB.MODE : Fld := ⟨.LN_LB, 31, 29⟩
abbrev LN_LB.GEN : Fld := ⟨.LN_LB, 23, 20⟩
abbrev LN_LB.CHK : Fld := ⟨.LN_LB, 19, 16⟩
abbrev LN_LB.CHK_LOCK : Fld := ⟨.LN_LB, 15, 15⟩
abbrev LN_LB_SLIP.CNT : Fld := ⟨.LN_LB_SLIP, 31, 0⟩
abbrev LN_PAT_USR.PAT : Fld := ⟨.LN_PAT_USR, 63, 0⟩
abbrev LN_PAT_ERR.CNT : Fld := ⟨.LN_PAT_ERR, 63, 0⟩
abbrev LN_PAT_BITS.CNT : Fld := ⟨.LN_PAT_BITS, 63, 0⟩
abbrev LN_SS_CTL.GO : Fld := ⟨.LN_SS_CTL, 31, 31⟩
abbrev LN_SS_CTL.BUSY : Fld := ⟨.LN_SS_CTL, 30, 30⟩
abbrev LN_SS_CTL.ABT : Fld := ⟨.LN_SS_CTL, 29, 29⟩
abbrev LN_SS_CTL.DONE : Fld := ⟨.LN_SS_CTL, 28, 28⟩
abbrev LN_SS_CTL.DWELL : Fld := ⟨.LN_SS_CTL, 2, 0⟩
abbrev LN_SS_EYE.HEIGHT : Fld := ⟨.LN_SS_EYE, 15, 8⟩
abbrev LN_SS_EYE.WIDTH : Fld := ⟨.LN_SS_EYE, 6, 0⟩
abbrev LFL_CTL.FB_EN : Fld := ⟨.LFL_CTL, 31, 31⟩
abbrev LFL_CTL.RATE : Fld := ⟨.LFL_CTL, 30, 30⟩
abbrev LFL_CTL.RATE_FB : Fld := ⟨.LFL_CTL, 29, 29⟩
abbrev LFL_CTL.RPL_MAX : Fld := ⟨.LFL_CTL, 23, 16⟩
abbrev LFL_CTL.RPL_TMO : Fld := ⟨.LFL_CTL, 15, 8⟩
abbrev LFL_CRD_TMO.TMO : Fld := ⟨.LFL_CRD_TMO, 3, 0⟩
abbrev LFL_CRD_INIT.CRED : Fld := ⟨.LFL_CRD_INIT, 12, 0⟩
abbrev LFL_STS.STATE : Fld := ⟨.LFL_STS, 31, 28⟩
abbrev LFL_STS.RATE_NEG : Fld := ⟨.LFL_STS, 27, 27⟩
abbrev LFL_STS.LDN_CAUSE : Fld := ⟨.LFL_STS, 23, 20⟩
abbrev LFL_STS.PEER_VLD : Fld := ⟨.LFL_STS, 19, 19⟩
abbrev LFL_STS.PEER : Fld := ⟨.LFL_STS, 9, 0⟩
abbrev LFL_SEQ.NEXT_TX : Fld := ⟨.LFL_SEQ, 31, 20⟩
abbrev LFL_SEQ.EXP : Fld := ⟨.LFL_SEQ, 19, 8⟩
abbrev LFL_CW_CNT.CNT : Fld := ⟨.LFL_CW_CNT, 63, 0⟩
abbrev LFL_CORR_CNT.CNT : Fld := ⟨.LFL_CORR_CNT, 63, 0⟩
abbrev LFL_UNC_CNT.CNT : Fld := ⟨.LFL_UNC_CNT, 31, 0⟩
abbrev LFL_CRC_CNT.CNT : Fld := ⟨.LFL_CRC_CNT, 31, 0⟩
abbrev LFL_RPL_CNT.CNT : Fld := ⟨.LFL_RPL_CNT, 31, 0⟩
abbrev LFL_TRN_FAIL.CNT : Fld := ⟨.LFL_TRN_FAIL, 31, 0⟩
abbrev LFL_LDN_DISC.CNT : Fld := ⟨.LFL_LDN_DISC, 31, 0⟩
abbrev LFL_BYP_DISC.CNT : Fld := ⟨.LFL_BYP_DISC, 31, 0⟩
abbrev LFL_CORR_HIST.CNT : Fld := ⟨.LFL_CORR_HIST, 31, 0⟩
abbrev LFL_SP_STS.USE : Fld := ⟨.LFL_SP_STS, 31, 29⟩
abbrev LFL_SP_STS.HALF : Fld := ⟨.LFL_SP_STS, 28, 28⟩
abbrev LFL_SP_STS.LANE : Fld := ⟨.LFL_SP_STS, 23, 20⟩
abbrev LFL_SP_CTL.CLR_RET : Fld := ⟨.LFL_SP_CTL, 31, 31⟩
abbrev LFL_SP_CTL.OWN : Fld := ⟨.LFL_SP_CTL, 1, 0⟩
abbrev LFL_HT_CTL.GO : Fld := ⟨.LFL_HT_CTL, 31, 31⟩
abbrev LFL_HT_CTL.ABORT : Fld := ⟨.LFL_HT_CTL, 30, 30⟩
abbrev LFL_HT_CTL.LEAD : Fld := ⟨.LFL_HT_CTL, 25, 16⟩
abbrev LFL_HT_CTL.LMASK : Fld := ⟨.LFL_HT_CTL, 15, 8⟩
abbrev LFL_HT_THR.HWARN : Fld := ⟨.LFL_HT_THR, 31, 24⟩
abbrev LFL_HT_THR.WWARN : Fld := ⟨.LFL_HT_THR, 23, 16⟩
abbrev LFL_HT_THR.HMIN : Fld := ⟨.LFL_HT_THR, 15, 8⟩
abbrev LFL_HT_THR.WMIN : Fld := ⟨.LFL_HT_THR, 7, 0⟩
abbrev LFL_HT_STS.STATE : Fld := ⟨.LFL_HT_STS, 31, 29⟩
abbrev LFL_HT_STS.LANE : Fld := ⟨.LFL_HT_STS, 28, 25⟩
abbrev LFL_HT_STS.RESULT : Fld := ⟨.LFL_HT_STS, 23, 20⟩
abbrev LFL_HT_STS.WARNM : Fld := ⟨.LFL_HT_STS, 7, 0⟩
abbrev LFL_HT_CNT.RETIRED : Fld := ⟨.LFL_HT_CNT, 31, 16⟩
abbrev LFL_HT_CNT.HEATS : Fld := ⟨.LFL_HT_CNT, 15, 0⟩
abbrev LFL_HT_MARG.H_NEAR : Fld := ⟨.LFL_HT_MARG, 31, 24⟩
abbrev LFL_HT_MARG.W_NEAR : Fld := ⟨.LFL_HT_MARG, 23, 16⟩
abbrev LFL_HT_MARG.H_FAR : Fld := ⟨.LFL_HT_MARG, 15, 8⟩
abbrev LFL_HT_MARG.W_FAR : Fld := ⟨.LFL_HT_MARG, 7, 0⟩
abbrev CORE_CTL.EAGER : Fld := ⟨.CORE_CTL, 31, 24⟩
abbrev CORE_CTL.RSM_TMO : Fld := ⟨.CORE_CTL, 23, 22⟩
abbrev CORE_CTL.STRIPE_TMO : Fld := ⟨.CORE_CTL, 8, 0⟩
abbrev CORE_OQ_LIM.LIM : Fld := ⟨.CORE_OQ_LIM, 10, 0⟩
abbrev CORE_ERR_LOG.VLD : Fld := ⟨.CORE_ERR_LOG, 63, 63⟩
abbrev CORE_ERR_LOG.CAUSE : Fld := ⟨.CORE_ERR_LOG, 62, 60⟩
abbrev CORE_ERR_LOG.PLANE : Fld := ⟨.CORE_ERR_LOG, 59, 56⟩
abbrev CORE_ERR_LOG.SRC : Fld := ⟨.CORE_ERR_LOG, 55, 47⟩
abbrev CORE_ERR_LOG.DST : Fld := ⟨.CORE_ERR_LOG, 46, 38⟩
abbrev CORE_ERR_LOG.CLS : Fld := ⟨.CORE_ERR_LOG, 37, 35⟩
abbrev CORE_ERR_LOG.SSN : Fld := ⟨.CORE_ERR_LOG, 34, 19⟩
abbrev CORE_FTHR_CNT.CNT : Fld := ⟨.CORE_FTHR_CNT, 63, 0⟩
abbrev CORE_MC_CNT.CNT : Fld := ⟨.CORE_MC_CNT, 63, 0⟩
abbrev CORE_RSM_CNT.CNT : Fld := ⟨.CORE_RSM_CNT, 31, 0⟩
abbrev CORE_BAD_CNT.CNT : Fld := ⟨.CORE_BAD_CNT, 31, 0⟩
abbrev CORE_LATE_CNT.CNT : Fld := ⟨.CORE_LATE_CNT, 31, 0⟩
abbrev CORE_PL_STS.FREE : Fld := ⟨.CORE_PL_STS, 16, 0⟩
abbrev CORE_PL_ECC.UE : Fld := ⟨.CORE_PL_ECC, 31, 16⟩
abbrev CORE_PL_ECC.CE : Fld := ⟨.CORE_PL_ECC, 15, 0⟩
abbrev CORE_PL_WHLD.CNT : Fld := ⟨.CORE_PL_WHLD, 31, 0⟩
abbrev CORE_SKN_ERR.VLD : Fld := ⟨.CORE_SKN_ERR, 31, 31⟩
abbrev CORE_SKN_ERR.CAUSE : Fld := ⟨.CORE_SKN_ERR, 30, 28⟩
abbrev CORE_SKN_ERR.SKEIN : Fld := ⟨.CORE_SKN_ERR, 15, 0⟩
abbrev CORE_FAB_ID.VLD : Fld := ⟨.CORE_FAB_ID, 31, 31⟩
abbrev CORE_FAB_ID.SWID : Fld := ⟨.CORE_FAB_ID, 9, 0⟩
abbrev CORE_FAB_DISC.CNT : Fld := ⟨.CORE_FAB_DISC, 31, 0⟩
abbrev CORE_FAB_LL_CNT.CNT : Fld := ⟨.CORE_FAB_LL_CNT, 31, 0⟩
abbrev CORE_FAB_LL_LOG.VLD : Fld := ⟨.CORE_FAB_LL_LOG, 63, 63⟩
abbrev CORE_FAB_LL_LOG.INC : Fld := ⟨.CORE_FAB_LL_LOG, 47, 32⟩
abbrev CORE_FAB_LL_LOG.ORIG : Fld := ⟨.CORE_FAB_LL_LOG, 29, 20⟩
abbrev CORE_FAB_LL_LOG.PEER : Fld := ⟨.CORE_FAB_LL_LOG, 17, 8⟩
abbrev CORE_FAB_LL_LOG.SEQ : Fld := ⟨.CORE_FAB_LL_LOG, 7, 0⟩
abbrev CORE_FEID_MAP.VLD : Fld := ⟨.CORE_FEID_MAP, 31, 31⟩
abbrev CORE_FEID_MAP.SWID : Fld := ⟨.CORE_FEID_MAP, 25, 16⟩
abbrev CORE_FEID_MAP.PORT : Fld := ⟨.CORE_FEID_MAP, 7, 0⟩
abbrev CORE_SW_RT.VLD : Fld := ⟨.CORE_SW_RT, 63, 63⟩
abbrev CORE_SW_RT.PORT : Fld := ⟨.CORE_SW_RT, 55, 48⟩
abbrev CORE_SW_RT.NT : Fld := ⟨.CORE_SW_RT, 47, 46⟩
abbrev CORE_SW_RT.T0 : Fld := ⟨.CORE_SW_RT, 39, 30⟩
abbrev CORE_SW_RT.T1 : Fld := ⟨.CORE_SW_RT, 29, 20⟩
abbrev CORE_SW_RT.T2 : Fld := ⟨.CORE_SW_RT, 19, 10⟩
abbrev CORE_RACL.VLD : Fld := ⟨.CORE_RACL, 63, 63⟩
abbrev CORE_RACL.WR : Fld := ⟨.CORE_RACL, 62, 62⟩
abbrev CORE_RACL.FEID : Fld := ⟨.CORE_RACL, 59, 48⟩
abbrev CORE_RACL.SKEIN : Fld := ⟨.CORE_RACL, 15, 0⟩
abbrev SKN_W0.STATE : Fld := ⟨.SKN_W0, 63, 60⟩
abbrev SKN_W0.EPOCH : Fld := ⟨.SKN_W0, 59, 56⟩
abbrev SKN_W0.CREW : Fld := ⟨.SKN_W0, 55, 48⟩
abbrev SKN_W0.SIZE : Fld := ⟨.SKN_W0, 47, 44⟩
abbrev SKN_W0.MPORT : Fld := ⟨.SKN_W0, 39, 32⟩
abbrev SKN_W0.MEDIA : Fld := ⟨.SKN_W0, 31, 16⟩
abbrev SKN_W0.DBASE : Fld := ⟨.SKN_W0, 12, 0⟩
abbrev SKN_W1.OWN_ACC : Fld := ⟨.SKN_W1, 63, 48⟩
abbrev SKN_W1.OWN_WR : Fld := ⟨.SKN_W1, 47, 32⟩
abbrev SKN_W1.OWN_VLD : Fld := ⟨.SKN_W1, 31, 16⟩
abbrev SKN_W1.HOLD : Fld := ⟨.SKN_W1, 15, 12⟩
abbrev SKN_W1.GROUP : Fld := ⟨.SKN_W1, 9, 0⟩
abbrev SKN_W2.OWNLO : Fld := ⟨.SKN_W2, 63, 0⟩
abbrev SKN_W3.OWNHI : Fld := ⟨.SKN_W3, 63, 0⟩
abbrev CRW_CTL.MODE : Fld := ⟨.CRW_CTL, 31, 31⟩
abbrev CRW_CTL.SNP_TMO : Fld := ⟨.CRW_CTL, 27, 24⟩
abbrev CRW_CTL.BO_MAX : Fld := ⟨.CRW_CTL, 23, 16⟩
abbrev CRW_CTL.BO_MIN : Fld := ⟨.CRW_CTL, 15, 8⟩
abbrev CRW_CMD.OP : Fld := ⟨.CRW_CMD, 2, 0⟩
abbrev CRW_STS.STATE : Fld := ⟨.CRW_STS, 31, 28⟩
abbrev CRW_STS.CMD_ERR : Fld := ⟨.CRW_STS, 27, 27⟩
abbrev CRW_STS.FCAUSE : Fld := ⟨.CRW_STS, 23, 20⟩
abbrev CRW_STS.NMEM : Fld := ⟨.CRW_STS, 9, 0⟩
abbrev CRW_SKN_CNT.CNT : Fld := ⟨.CRW_SKN_CNT, 16, 0⟩
abbrev CRW_ENT_CNT.CNT : Fld := ⟨.CRW_ENT_CNT, 21, 0⟩
abbrev CRW_FINFO.VLD : Fld := ⟨.CRW_FINFO, 31, 31⟩
abbrev CRW_FINFO.SVLD : Fld := ⟨.CRW_FINFO, 30, 30⟩
abbrev CRW_FINFO.SLICE : Fld := ⟨.CRW_FINFO, 29, 24⟩
abbrev CRW_FINFO.FEID : Fld := ⟨.CRW_FINFO, 11, 0⟩
abbrev CRW_MEM.BITS : Fld := ⟨.CRW_MEM, 31, 0⟩
abbrev DIR_EIDX.GO : Fld := ⟨.DIR_EIDX, 31, 31⟩
abbrev DIR_EIDX.BUSY : Fld := ⟨.DIR_EIDX, 30, 30⟩
abbrev DIR_EIDX.UE : Fld := ⟨.DIR_EIDX, 29, 29⟩
abbrev DIR_EIDX.WAY : Fld := ⟨.DIR_EIDX, 14, 11⟩
abbrev DIR_EIDX.SET : Fld := ⟨.DIR_EIDX, 10, 0⟩
abbrev DIR_EDATA.BITS : Fld := ⟨.DIR_EDATA, 31, 0⟩
abbrev DIR_ECC_CNT.UE : Fld := ⟨.DIR_ECC_CNT, 31, 16⟩
abbrev DIR_ECC_CNT.CE : Fld := ⟨.DIR_ECC_CNT, 15, 0⟩
abbrev DIR_PIN_CNT.CNT : Fld := ⟨.DIR_PIN_CNT, 31, 0⟩
abbrev DIR_EVICT_CNT.CNT : Fld := ⟨.DIR_EVICT_CNT, 63, 0⟩
abbrev DIR_OCC.COARSE : Fld := ⟨.DIR_OCC, 31, 16⟩
abbrev DIR_OCC.VALID : Fld := ⟨.DIR_OCC, 15, 0⟩
abbrev DIR_NACK_CNT.CNT : Fld := ⟨.DIR_NACK_CNT, 63, 0⟩
abbrev DIR_PARK_CNT.CNT : Fld := ⟨.DIR_PARK_CNT, 63, 0⟩
abbrev DIR_STRAY_CNT.CNT : Fld := ⟨.DIR_STRAY_CNT, 31, 0⟩
abbrev DIR_RQ_STS.PARKED : Fld := ⟨.DIR_RQ_STS, 27, 16⟩
abbrev DIR_RQ_STS.WIP : Fld := ⟨.DIR_RQ_STS, 9, 0⟩
abbrev DIR_TD_CTL.SNAP : Fld := ⟨.DIR_TD_CTL, 31, 31⟩
abbrev DIR_TD_CTL.CLR : Fld := ⟨.DIR_TD_CTL, 30, 30⟩
abbrev DIR_TD_CTL.EN : Fld := ⟨.DIR_TD_CTL, 29, 29⟩
abbrev DIR_TD_CYC.CNT : Fld := ⟨.DIR_TD_CYC, 63, 0⟩
abbrev DIR_TD_RET.CNT : Fld := ⟨.DIR_TD_RET, 63, 0⟩
abbrev DIR_TD_WST.CNT : Fld := ⟨.DIR_TD_WST, 63, 0⟩
abbrev DIR_TD_FST.CNT : Fld := ⟨.DIR_TD_FST, 63, 0⟩
abbrev DIR_TD_BST.CNT : Fld := ⟨.DIR_TD_BST, 63, 0⟩
abbrev DIR_RCRED.CRED7 : Fld := ⟨.DIR_RCRED, 31, 28⟩
abbrev DIR_RCRED.CRED6 : Fld := ⟨.DIR_RCRED, 27, 24⟩
abbrev DIR_RCRED.CRED5 : Fld := ⟨.DIR_RCRED, 23, 20⟩
abbrev DIR_RCRED.CRED4 : Fld := ⟨.DIR_RCRED, 19, 16⟩
abbrev DIR_RCRED.CRED3 : Fld := ⟨.DIR_RCRED, 15, 12⟩
abbrev DIR_RCRED.CRED2 : Fld := ⟨.DIR_RCRED, 11, 8⟩
abbrev DIR_RCRED.CRED1 : Fld := ⟨.DIR_RCRED, 7, 4⟩
abbrev DIR_RCRED.CRED0 : Fld := ⟨.DIR_RCRED, 3, 0⟩
abbrev TM_CTL.CLR_ALL : Fld := ⟨.TM_CTL, 31, 31⟩
abbrev TM_CTL.SMP_EN : Fld := ⟨.TM_CTL, 30, 30⟩
abbrev TM_CTL.DSHIFT : Fld := ⟨.TM_CTL, 29, 26⟩
abbrev TM_CTL.SSHIFT : Fld := ⟨.TM_CTL, 25, 22⟩
abbrev TM_CTL.PERIOD : Fld := ⟨.TM_CTL, 21, 12⟩
abbrev TM_CTL.RED_AGE : Fld := ⟨.TM_CTL, 9, 0⟩
abbrev TM_ECC.UE : Fld := ⟨.TM_ECC, 31, 16⟩
abbrev TM_ECC.CE : Fld := ⟨.TM_ECC, 15, 0⟩
abbrev TM_MTR_RATE.POL : Fld := ⟨.TM_MTR_RATE, 63, 62⟩
abbrev TM_MTR_RATE.PIR : Fld := ⟨.TM_MTR_RATE, 51, 32⟩
abbrev TM_MTR_RATE.CIR : Fld := ⟨.TM_MTR_RATE, 19, 0⟩
abbrev TM_MTR_BKT.PBS : Fld := ⟨.TM_MTR_BKT, 47, 32⟩
abbrev TM_MTR_BKT.CBS : Fld := ⟨.TM_MTR_BKT, 15, 0⟩
abbrev TM_MTR_TOK.TP : Fld := ⟨.TM_MTR_TOK, 63, 32⟩
abbrev TM_MTR_TOK.TC : Fld := ⟨.TM_MTR_TOK, 31, 0⟩
abbrev TM_MTR_GRN.CNT : Fld := ⟨.TM_MTR_GRN, 63, 0⟩
abbrev TM_MTR_YEL.CNT : Fld := ⟨.TM_MTR_YEL, 63, 0⟩
abbrev TM_MTR_RED.CNT : Fld := ⟨.TM_MTR_RED, 63, 0⟩
abbrev TM_MTR_DRP.CNT : Fld := ⟨.TM_MTR_DRP, 63, 0⟩
abbrev TM_QRATE.PEN : Fld := ⟨.TM_QRATE, 63, 63⟩
abbrev TM_QRATE.PIR : Fld := ⟨.TM_QRATE, 51, 32⟩
abbrev TM_QRATE.CIR : Fld := ⟨.TM_QRATE, 19, 0⟩
abbrev TM_QBKT.OVH : Fld := ⟨.TM_QBKT, 53, 48⟩
abbrev TM_QBKT.PBS : Fld := ⟨.TM_QBKT, 47, 32⟩
abbrev TM_QBKT.WEIGHT : Fld := ⟨.TM_QBKT, 31, 24⟩
abbrev TM_QBKT.CBS : Fld := ⟨.TM_QBKT, 15, 0⟩
abbrev TM_QTOK.SP : Fld := ⟨.TM_QTOK, 63, 32⟩
abbrev TM_QTOK.SC : Fld := ⟨.TM_QTOK, 31, 0⟩
abbrev TM_QSTS.RHD : Fld := ⟨.TM_QSTS, 31, 31⟩
abbrev TM_QSTS.NMSG : Fld := ⟨.TM_QSTS, 28, 16⟩
abbrev TM_QHD.CNT : Fld := ⟨.TM_QHD, 31, 0⟩
abbrev TM_QHL.CNT : Fld := ⟨.TM_QHL, 31, 0⟩
abbrev SLC_CTL.HPORT : Fld := ⟨.SLC_CTL, 63, 56⟩
abbrev SLC_CTL.PAGE : Fld := ⟨.SLC_CTL, 49, 40⟩
abbrev SLC_CTL.PASID : Fld := ⟨.SLC_CTL, 19, 0⟩
abbrev SLC_CMD.OP : Fld := ⟨.SLC_CMD, 2, 0⟩
abbrev SLC_STS.STATE : Fld := ⟨.SLC_STS, 31, 30⟩
abbrev SLC_STS.ERR : Fld := ⟨.SLC_STS, 29, 29⟩
abbrev SLC_STS.CAUSE : Fld := ⟨.SLC_STS, 26, 24⟩
abbrev SLC_STS.METER : Fld := ⟨.SLC_STS, 11, 0⟩
abbrev SLC_MTR.V3 : Fld := ⟨.SLC_MTR, 63, 63⟩
abbrev SLC_MTR.MTR3 : Fld := ⟨.SLC_MTR, 59, 48⟩
abbrev SLC_MTR.V2 : Fld := ⟨.SLC_MTR, 47, 47⟩
abbrev SLC_MTR.MTR2 : Fld := ⟨.SLC_MTR, 43, 32⟩
abbrev SLC_MTR.V1 : Fld := ⟨.SLC_MTR, 31, 31⟩
abbrev SLC_MTR.MTR1 : Fld := ⟨.SLC_MTR, 27, 16⟩
abbrev SLC_MTR.V0 : Fld := ⟨.SLC_MTR, 15, 15⟩
abbrev SLC_MTR.MTR0 : Fld := ⟨.SLC_MTR, 11, 0⟩
abbrev SLC_TM.VEC : Fld := ⟨.SLC_TM, 13, 8⟩
abbrev SLC_TM.EQ : Fld := ⟨.SLC_TM, 5, 0⟩
abbrev SLC_MB_STS.STATE : Fld := ⟨.SLC_MB_STS, 31, 30⟩
abbrev SLC_MB_STS.PEND : Fld := ⟨.SLC_MB_STS, 29, 29⟩
abbrev SLC_MB_STS.DB_LOST : Fld := ⟨.SLC_MB_STS, 28, 28⟩
abbrev SLC_MB_STS.WLOCK : Fld := ⟨.SLC_MB_STS, 27, 27⟩
abbrev SLC_MB_STS.TAG : Fld := ⟨.SLC_MB_STS, 15, 0⟩
abbrev SLC_MB_DONE.DONE : Fld := ⟨.SLC_MB_DONE, 31, 31⟩
abbrev SLC_MB_DONE.IRQ : Fld := ⟨.SLC_MB_DONE, 30, 30⟩
abbrev SLC_MB_CA.DATA : Fld := ⟨.SLC_MB_CA, 31, 0⟩
abbrev SLC_MB_RA.DATA : Fld := ⟨.SLC_MB_RA, 31, 0⟩
abbrev BAY_CFG.TSA : Fld := ⟨.BAY_CFG, 31, 31⟩
abbrev BAY_CFG.TSB : Fld := ⟨.BAY_CFG, 30, 30⟩
abbrev BAY_CFG.LPOFF : Fld := ⟨.BAY_CFG, 29, 29⟩
abbrev BAY_CFG.RETRY_N : Fld := ⟨.BAY_CFG, 26, 24⟩
abbrev BAY_CFG.HOLD : Fld := ⟨.BAY_CFG, 23, 20⟩
abbrev BAY_CFG.TFLT : Fld := ⟨.BAY_CFG, 19, 16⟩
abbrev BAY_CFG.RAMP : Fld := ⟨.BAY_CFG, 15, 8⟩
abbrev BAY_LIM.SC : Fld := ⟨.BAY_LIM, 63, 56⟩
abbrev BAY_LIM.ILIM : Fld := ⟨.BAY_LIM, 55, 48⟩
abbrev BAY_LIM.ILIM_RAMP : Fld := ⟨.BAY_LIM, 47, 40⟩
abbrev BAY_LIM.AUX_ILIM : Fld := ⟨.BAY_LIM, 39, 32⟩
abbrev BAY_LIM.TMAX : Fld := ⟨.BAY_LIM, 31, 24⟩
abbrev BAY_LIM.TRST : Fld := ⟨.BAY_LIM, 23, 16⟩
abbrev BAY_LIM.TRAMP : Fld := ⟨.BAY_LIM, 15, 8⟩
abbrev BAY_VWIN.VIN_MIN : Fld := ⟨.BAY_VWIN, 31, 24⟩
abbrev BAY_VWIN.PG_MIN : Fld := ⟨.BAY_VWIN, 23, 16⟩
abbrev BAY_VWIN.PG_MAX : Fld := ⟨.BAY_VWIN, 15, 8⟩
abbrev BAY_VWIN.VX_MIN : Fld := ⟨.BAY_VWIN, 7, 0⟩
abbrev BAY_MODEL.TAU2 : Fld := ⟨.BAY_MODEL, 63, 48⟩
abbrev BAY_MODEL.RTH2 : Fld := ⟨.BAY_MODEL, 47, 32⟩
abbrev BAY_MODEL.TAU1 : Fld := ⟨.BAY_MODEL, 31, 16⟩
abbrev BAY_MODEL.RTH1 : Fld := ⟨.BAY_MODEL, 15, 0⟩
abbrev BAY_FB.IFB : Fld := ⟨.BAY_FB, 31, 24⟩
abbrev BAY_FB.PFB : Fld := ⟨.BAY_FB, 23, 16⟩
abbrev BAY_FB.EFB : Fld := ⟨.BAY_FB, 15, 8⟩
abbrev BAY_STS.STATE : Fld := ⟨.BAY_STS, 31, 28⟩
abbrev BAY_STS.PRSNT : Fld := ⟨.BAY_STS, 27, 27⟩
abbrev BAY_STS.ATTN : Fld := ⟨.BAY_STS, 26, 26⟩
abbrev BAY_STS.PG : Fld := ⟨.BAY_STS, 25, 25⟩
abbrev BAY_STS.AUXON : Fld := ⟨.BAY_STS, 24, 24⟩
abbrev BAY_STS.ESTA : Fld := ⟨.BAY_STS, 23, 22⟩
abbrev BAY_STS.ESTB : Fld := ⟨.BAY_STS, 21, 20⟩
abbrev BAY_STS.SINGLE : Fld := ⟨.BAY_STS, 19, 19⟩
abbrev BAY_STS.SHARE : Fld := ⟨.BAY_STS, 18, 18⟩
abbrev BAY_STS.DMGA : Fld := ⟨.BAY_STS, 17, 17⟩
abbrev BAY_STS.DMGB : Fld := ⟨.BAY_STS, 16, 16⟩
abbrev BAY_STS.DMGX : Fld := ⟨.BAY_STS, 15, 15⟩
abbrev BAY_STS.RETRY : Fld := ⟨.BAY_STS, 14, 12⟩
abbrev BAY_STS.TCAUSE : Fld := ⟨.BAY_STS, 11, 8⟩
abbrev BAY_STS.OFFWHY : Fld := ⟨.BAY_STS, 7, 4⟩
abbrev BAY_MEAS.VO : Fld := ⟨.BAY_MEAS, 63, 52⟩
abbrev BAY_MEAS.IA : Fld := ⟨.BAY_MEAS, 51, 40⟩
abbrev BAY_MEAS.IB : Fld := ⟨.BAY_MEAS, 39, 28⟩
abbrev BAY_MEAS.TA : Fld := ⟨.BAY_MEAS, 27, 18⟩
abbrev BAY_MEAS.TB : Fld := ⟨.BAY_MEAS, 17, 8⟩
abbrev BAY_MEAS.IX : Fld := ⟨.BAY_MEAS, 7, 0⟩
abbrev BAY_HOLD.HOLD : Fld := ⟨.BAY_HOLD, 15, 0⟩
abbrev BAY_IND.POWER : Fld := ⟨.BAY_IND, 7, 6⟩
abbrev BAY_IND.FAULT : Fld := ⟨.BAY_IND, 5, 4⟩
abbrev BAY_IND.ATTN : Fld := ⟨.BAY_IND, 3, 2⟩
abbrev BAY_IND.LOCATE : Fld := ⟨.BAY_IND, 1, 0⟩
abbrev BAY_TRIP_CNT.CNT : Fld := ⟨.BAY_TRIP_CNT, 31, 0⟩
abbrev BAY_NM_CNT.CNT : Fld := ⟨.BAY_NM_CNT, 31, 0⟩
abbrev BAY_AMB.VLD : Fld := ⟨.BAY_AMB, 31, 31⟩
abbrev BAY_AMB.TEMP : Fld := ⟨.BAY_AMB, 9, 0⟩
abbrev PMC_CTL.FRZ : Fld := ⟨.PMC_CTL, 31, 31⟩
abbrev PMC_CTL.FLUSH : Fld := ⟨.PMC_CTL, 30, 30⟩
abbrev PMC_CTL.CLR_ALL : Fld := ⟨.PMC_CTL, 29, 29⟩
abbrev PMC_STS.FLUSH_BUSY : Fld := ⟨.PMC_STS, 31, 31⟩
abbrev PMC_STS.FROZEN : Fld := ⟨.PMC_STS, 30, 30⟩
abbrev PMC_GSEL.EN : Fld := ⟨.PMC_GSEL, 31, 31⟩
abbrev PMC_GSEL.MODE : Fld := ⟨.PMC_GSEL, 30, 30⟩
abbrev PMC_GSEL.OVF : Fld := ⟨.PMC_GSEL, 29, 29⟩
abbrev PMC_GSEL.SRCI : Fld := ⟨.PMC_GSEL, 23, 16⟩
abbrev PMC_GSEL.EVT : Fld := ⟨.PMC_GSEL, 7, 0⟩
abbrev PMC_GCNT.CNT : Fld := ⟨.PMC_GCNT, 63, 0⟩
abbrev PMC_SLC_UEN.BITS : Fld := ⟨.PMC_SLC_UEN, 31, 0⟩
abbrev PMC_PSEL.EN : Fld := ⟨.PMC_PSEL, 31, 31⟩
abbrev PMC_PSEL.MODE : Fld := ⟨.PMC_PSEL, 30, 30⟩
abbrev PMC_PSEL.OVF : Fld := ⟨.PMC_PSEL, 29, 29⟩
abbrev PMC_PSEL.SRCI : Fld := ⟨.PMC_PSEL, 23, 16⟩
abbrev PMC_PSEL.EVT : Fld := ⟨.PMC_PSEL, 7, 0⟩
abbrev PMC_PCNT.CNT : Fld := ⟨.PMC_PCNT, 63, 0⟩
abbrev PMC_SSEL.EN : Fld := ⟨.PMC_SSEL, 31, 31⟩
abbrev PMC_SSEL.MODE : Fld := ⟨.PMC_SSEL, 30, 30⟩
abbrev PMC_SSEL.OVF : Fld := ⟨.PMC_SSEL, 29, 29⟩
abbrev PMC_SSEL.SRCI : Fld := ⟨.PMC_SSEL, 23, 16⟩
abbrev PMC_SSEL.EVT : Fld := ⟨.PMC_SSEL, 7, 0⟩
abbrev PMC_SCNT.CNT : Fld := ⟨.PMC_SCNT, 63, 0⟩
abbrev PMC_NM.CNT : Fld := ⟨.PMC_NM, 31, 0⟩
abbrev PMC_LATE.CNT : Fld := ⟨.PMC_LATE, 31, 0⟩
abbrev NOC_CTL.TMO : Fld := ⟨.NOC_CTL, 25, 24⟩
abbrev NOC_CTL.HSHIFT : Fld := ⟨.NOC_CTL, 23, 20⟩
abbrev NOC_CTL.ST_EN : Fld := ⟨.NOC_CTL, 0, 0⟩
abbrev NOC_ERR_LOG.VLD : Fld := ⟨.NOC_ERR_LOG, 63, 63⟩
abbrev NOC_ERR_LOG.CAUSE : Fld := ⟨.NOC_ERR_LOG, 62, 60⟩
abbrev NOC_ERR_LOG.SRC : Fld := ⟨.NOC_ERR_LOG, 59, 52⟩
abbrev NOC_ERR_LOG.DST : Fld := ⟨.NOC_ERR_LOG, 51, 44⟩
abbrev NOC_ERR_LOG.DIE : Fld := ⟨.NOC_ERR_LOG, 43, 40⟩
abbrev NOC_ERR_LOG.ROUTER : Fld := ⟨.NOC_ERR_LOG, 39, 35⟩
abbrev NOC_ERR_CNT.CNT : Fld := ⟨.NOC_ERR_CNT, 31, 0⟩
abbrev NOC_BR_STS.UP : Fld := ⟨.NOC_BR_STS, 31, 31⟩
abbrev NOC_BR_STS.DOWNS : Fld := ⟨.NOC_BR_STS, 15, 0⟩
abbrev NOC_NODE.DIE : Fld := ⟨.NOC_NODE, 31, 28⟩
abbrev NOC_NODE.ROUTER : Fld := ⟨.NOC_NODE, 20, 16⟩
abbrev NOC_NODE.PORT : Fld := ⟨.NOC_NODE, 10, 8⟩
abbrev NOC_ST_REQ.CNT : Fld := ⟨.NOC_ST_REQ, 63, 0⟩
abbrev NOC_ST_BYTES.CNT : Fld := ⟨.NOC_ST_BYTES, 63, 0⟩
abbrev NOC_ST_HIST.CNT : Fld := ⟨.NOC_ST_HIST, 31, 0⟩
abbrev NOC_RT.VLD : Fld := ⟨.NOC_RT, 63, 63⟩
abbrev NOC_RT.RELAY : Fld := ⟨.NOC_RT, 62, 62⟩
abbrev NOC_RT.NHOP : Fld := ⟨.NOC_RT, 35, 32⟩
abbrev NOC_RT.HOPS : Fld := ⟨.NOC_RT, 31, 0⟩
abbrev HSF_CFG.WORD : Fld := ⟨.HSF_CFG, 31, 0⟩
abbrev HSF_CTL.MGR : Fld := ⟨.HSF_CTL, 31, 31⟩
abbrev HSF_SUBSYS.SSID : Fld := ⟨.HSF_SUBSYS, 31, 16⟩
abbrev HSF_SUBSYS.SSVID : Fld := ⟨.HSF_SUBSYS, 15, 0⟩
abbrev HSF_FW.READY : Fld := ⟨.HSF_FW, 0, 0⟩
abbrev HSF_CMD.FLR_ACK : Fld := ⟨.HSF_CMD, 31, 31⟩
abbrev HSF_CMD.DMA_RESUME : Fld := ⟨.HSF_CMD, 30, 30⟩
abbrev HSF_CMD.IRQ : Fld := ⟨.HSF_CMD, 29, 29⟩
abbrev HSF_CMD.VEC : Fld := ⟨.HSF_CMD, 5, 0⟩
abbrev HSF_STS.FLR : Fld := ⟨.HSF_STS, 31, 31⟩
abbrev HSF_STS.BME : Fld := ⟨.HSF_STS, 30, 30⟩
abbrev HSF_STS.MSE : Fld := ⟨.HSF_STS, 29, 29⟩
abbrev HSF_STS.D3 : Fld := ⟨.HSF_STS, 28, 28⟩
abbrev HSF_STS.PAUSED : Fld := ⟨.HSF_STS, 27, 27⟩
abbrev HSF_STS.FLR_SEEN : Fld := ⟨.HSF_STS, 3, 3⟩
abbrev HSF_STS.FLR_TMO : Fld := ⟨.HSF_STS, 2, 2⟩
abbrev HSF_STS.BME_OFF : Fld := ⟨.HSF_STS, 1, 1⟩
abbrev HSF_STS.IRQ_DROP : Fld := ⟨.HSF_STS, 0, 0⟩
abbrev HSF_ERR_LOG.VLD : Fld := ⟨.HSF_ERR_LOG, 63, 63⟩
abbrev HSF_ERR_LOG.CAUSE : Fld := ⟨.HSF_ERR_LOG, 62, 59⟩
abbrev HSF_ERR_LOG.ADDR : Fld := ⟨.HSF_ERR_LOG, 55, 0⟩
abbrev HSF_CTO_CNT.CNT : Fld := ⟨.HSF_CTO_CNT, 31, 0⟩
abbrev FUSE_STS.DONE : Fld := ⟨.FUSE_STS, 31, 31⟩
abbrev FUSE_STS.FAIL : Fld := ⟨.FUSE_STS, 30, 30⟩
abbrev FUSE_STS.ROW : Fld := ⟨.FUSE_STS, 23, 16⟩
abbrev FUSE_STS.CAUSE : Fld := ⟨.FUSE_STS, 3, 0⟩
abbrev FUSE_PGM.GO : Fld := ⟨.FUSE_PGM, 31, 31⟩
abbrev FUSE_PGM.BUSY : Fld := ⟨.FUSE_PGM, 30, 30⟩
abbrev FUSE_PGM.OP : Fld := ⟨.FUSE_PGM, 29, 27⟩
abbrev FUSE_PGM.SLOT : Fld := ⟨.FUSE_PGM, 26, 25⟩
abbrev FUSE_PGM.RESULT : Fld := ⟨.FUSE_PGM, 24, 21⟩
abbrev FUSE_PGM.SRC : Fld := ⟨.FUSE_PGM, 20, 4⟩
abbrev FUSE_BOOT.HPORT : Fld := ⟨.FUSE_BOOT, 15, 8⟩
abbrev FUSE_BOOT.WIDTH : Fld := ⟨.FUSE_BOOT, 5, 4⟩
abbrev FUSE_BOOT.RATE : Fld := ⟨.FUSE_BOOT, 2, 0⟩
abbrev FUSE_LN_REP.REP : Fld := ⟨.FUSE_LN_REP, 31, 0⟩
abbrev FUSE_SRAM_NUM.NUM : Fld := ⟨.FUSE_SRAM_NUM, 9, 0⟩
abbrev FUSE_SRAM_REP.REP : Fld := ⟨.FUSE_SRAM_REP, 31, 0⟩

end Sys2Proof.Machine
end

