-- ==== Sys2Proof/Machine/Tab.lean ====
section
/-! DEFINITION. Sparse tables in one canonical form: keys strictly rising by an order, and no entry equal to what an
unlisted key reads as. Equal tables are then equal data. -/

namespace Sys2Proof.Machine

/-- A sparse table from numbers to values. -/
abbrev Tab (β : Type) := List (Nat × β)

/-- The value at key k; an unlisted key reads as d k. -/
def tabGet {κ β : Type} [DecidableEq κ] (d : κ → β) : List (κ × β) → κ → β
  | [], k => d k
  | (k', v) :: t, k => if k' = k then v else tabGet d t k

/-- The table without key k. -/
def tabErase {κ β : Type} [DecidableEq κ] : List (κ × β) → κ → List (κ × β)
  | [], _ => []
  | (k', v) :: t, k => if k' = k then tabErase t k else (k', v) :: tabErase t k

/-- The table with (k, v) put before the first entry of larger order. -/
def tabInsert {κ β : Type} (ord : κ → Nat) : List (κ × β) → κ → β → List (κ × β)
  | [], k, v => [(k, v)]
  | (k', v') :: t, k, v => if ord k < ord k' then (k, v) :: (k', v') :: t else (k', v') :: tabInsert ord t k v

/-- The table with key k reading v. Writing the default removes the entry. -/
def tabSet {κ β : Type} [DecidableEq κ] [DecidableEq β] (ord : κ → Nat) (d : κ → β) (t : List (κ × β)) (k : κ) (v : β) :
    List (κ × β) :=
  if v = d k then tabErase t k else tabInsert ord (tabErase t k) k v

/-- The canonical form. -/
def tabWf {κ β : Type} [DecidableEq β] (ord : κ → Nat) (d : κ → β) : List (κ × β) → Bool
  | [] => true
  | [(k, v)] => decide (v ≠ d k)
  | (k, v) :: (k', v') :: t => decide (v ≠ d k) && decide (ord k < ord k') && tabWf ord d ((k', v') :: t)

end Sys2Proof.Machine
end

