-- ==== Sys2Proof/Machine/Types.lean ====
section
/-! DEFINITION. The data of the memory data path: requests, messages, directory entries, transactions, stripes
(spec/02 to spec/07). Numbers that name things (ports, crews, skeins, FEIDs, sets) are Nat. -/

namespace Sys2Proof.Machine

/-- Who makes an access to the management space or the scratchpad (R377, R574). -/
inductive Requester where
  | seat (n : Nat)
  | dma (e : Nat)
  | debug
  | bar0 (port : Nat)
  deriving DecidableEq, Repr

/-- A CXL MetaValue (R95). -/
inductive MetaVal where
  | i | s | a
  deriving DecidableEq, Repr

/-- The intended state of a coherent request (R95). -/
inductive Intent where
  | eRead | eOwn | sRead | iRead | iWrite
  deriving DecidableEq, Repr

/-- The M2S messages of a host (R93, R95, R582). memRd none is a MemRd with MetaField NoOp; a memWr carries whether its
SnpType is SnpInv, its MetaValue, and whether it is a MemWrPtl. -/
inductive HostOp where
  | memRd (m : Option MetaVal)
  | memRdData
  | memInv (m : MetaVal)
  | memWr (snpInv : Bool) (m : MetaVal) (ptl : Bool)
  | memClnEvct
  | memSpecRd
  deriving DecidableEq, Repr

/-- The back-invalidates (R100, R101). -/
inductive Snp where
  | inv | data | cur
  deriving DecidableEq, Repr

/-- The snoop answers BIRspI, BIRspS, BIRspE (R101). -/
inductive Ans where
  | i | s | e
  deriving DecidableEq, Repr

/-- Meter colours (R125, R156). -/
inductive Colour where
  | green | yellow | red | unmetered
  deriving DecidableEq, Repr

/-- The fabric header (R181). -/
structure FabHdr where
  dswid : Nat
  sswid : Nat
  hops : Nat
  kind : Nat
  sfeid : Nat
  dfeid : Nat
  hcrew : Nat
  hskein : Nat
  offset : Nat
  deriving DecidableEq, Repr

/-- What a core message carries (R93, R125, R145). A remoteReq is a request that travels under a fabric header before its
home has derived a device address; a scrub is a line that a scrub engine writes (R61). -/
inductive Body where
  | cohReq (x : Intent)
  | nack
  | parkNotice
  | memRead (grant : MetaVal)
  | memWrite
  | data (grant : MetaVal)
  | notice (write : Bool)
  | cmp (grant : MetaVal)
  | snoop (k : Snp)
  | answer (k : Snp) (a : Ans)
  | writeback (m : MetaVal)
  | clnEvct
  | fence
  | remoteReq (op : HostOp)
  | fenceReq
  | linkLoss
  | mgmt
  | tlp (posted : Bool) (payload : Nat)
  | scrub (pattern : Nat)
  | config (addr : Nat) (value : Word)
  | reserved (proto : Nat)
  deriving DecidableEq, Repr

/-- A core message with its header (R125) and the fields its body needs: the port agent of the requester, the entry of
that agent's outstanding table, the home slice, the crew, the memory port and the device address, and the FEIDs that a
snoop is for. -/
structure Msg where
  body : Body
  src : Nat := 0
  dsts : List Nat := []
  cls : Nat := 0
  len : Nat := 16
  epoch : Nat := 0
  colour : Colour := .unmetered
  delay : Bool := false
  eq : Nat := 0
  feid : Nat := 0xFFF
  port : Nat := 0
  tag : Nat := 0
  slice : Nat := 0
  fromSlice : Bool := false
  crew : Nat := 0xFF
  mport : Nat := 0
  addr : Nat := 0
  tmo : Nat := 0
  poison : Bool := false
  agents : List Nat := []
  fab : Option FabHdr := none
  deriving DecidableEq, Repr

/-- A CXL.mem message of a host, with what the model takes from outside: the device physical address that the host's HDM
decoder gives (R51), the CXL tag, poison, and the port island cycles since the meter's last request (R156). -/
structure HostReq where
  op : HostOp
  hpa : Nat
  dpa : Option Nat
  tag : Nat
  poison : Bool := false
  dt : Nat := 0
  deriving DecidableEq, Repr

/-- Where a request of a port agent's outstanding table stands: held (no credit, crew or slice stopped, or in back-off
hold), sent, waiting out a back-off, or parked at its slice (R106 to R111). -/
inductive OutPhase where
  | held | sent | backoff | parked
  deriving DecidableEq, Repr

/-- The kinds of an outstanding entry. -/
inductive OutKind where
  | coh (x : Intent)
  | ncRead (grant : MetaVal)
  | ncWrite
  | wb (m : MetaVal)
  | cln
  | remote (op : HostOp)
  deriving DecidableEq, Repr

/-- An entry of a port agent's outstanding table (R93, R106). rext names the remote entry of a remote request (R185). backoff
is the back-off drawn, in units of 8 ns; resend marks a request that was NACKed and is sent again. -/
structure OutEntry where
  tag : Nat
  hostTag : Nat
  kind : OutKind
  phase : OutPhase
  feid : Nat
  crew : Nat
  mport : Nat
  addr : Nat
  slice : Nat
  epoch : Nat
  credit : Bool := false
  answered : Bool := false
  colour : Colour := .unmetered
  delay : Bool := false
  eq : Nat := 0
  poison : Bool := false
  rext : Option Nat := none
  fab : Option FabHdr := none
  backoff : Nat := 0
  resend : Bool := false
  deriving DecidableEq, Repr

/-- A snoop that a port agent holds (R100, R112); timed while its timer runs, conflict while a BIConflict waits (R111),
expired once its timer has run out, kept so that a later answer is known as late (R17, R112). -/
structure SnpEntry where
  slice : Nat
  crew : Nat
  feid : Nat
  mport : Nat
  addr : Nat
  kind : Snp
  tmo : Nat
  timed : Bool := false
  conflict : Bool := false
  expired : Bool := false
  fab : Option FabHdr := none
  deriving DecidableEq, Repr

/-- An entry of a host port's active extent map with the skein fields it was activated with (R51, R54). -/
structure ActExt where
  idx : Nat
  skein : Nat
  base : Nat
  size : Nat
  crew : Nat
  mport : Nat
  dbase : Nat
  wr : Bool
  slice : Option Nat
  /-- The skein's group as the EPOCH took it (R54, R56). -/
  group : Nat
  deriving DecidableEq, Repr

/-- An active remote entry of a host port (R184, R185). -/
structure ActRext where
  idx : Nat
  base : Nat
  size : Nat
  hswid : Nat
  hcrew : Nat
  hskein : Nat
  wr : Bool
  slice : Option Nat
  /-- FENCED, which acts at once (R184, R192, R195). -/
  fenced : Bool := false
  deriving DecidableEq, Repr

/-- An active access list entry of a fabric port (R187, R188). -/
structure ActRacl where
  feid : Nat
  skein : Nat
  wr : Bool
  deriving DecidableEq, Repr

/-- A skein as a fabric port's active copy holds it (R186, R187). -/
structure ActSkein where
  skein : Nat
  state : Nat
  crew : Nat
  size : Nat
  mport : Nat
  dbase : Nat
  group : Nat
  deriving DecidableEq, Repr

/-- An EPOCH of a port: the seat that waits for it (none once that seat has left), its destination register, and the
epoch it drains once it has activated (R54). -/
structure EpochReq where
  seat : Option Nat
  rd : Nat
  draining : Option Nat := none
  deriving DecidableEq, Repr

/-- A request to a memory device that its memory port has sent (R99, R247). -/
structure DevReq where
  write : Bool
  fromSlice : Bool
  wb : Bool
  msg : Msg
  deriving DecidableEq, Repr

/-- A directory entry (R78); LRU ranks are kept per set (R85). -/
structure DirEntry where
  v : Bool := false
  tag : Nat := 0
  crew : Nat := 0
  otc : Nat := 0
  shm : Bool := false
  shr : BitVec 64 := 0
  lst : BitVec 32 := 0
  deriving DecidableEq, Repr

/-- The line states (R79). -/
inductive LineState where
  | i | s | e | pending
  deriving DecidableEq, Repr

/-- Where an open transaction of a slice stands: awaiting snoop answers, its memory access waiting for a
write-in-progress entry of its line or for room in that table, or issued (R96, R102). -/
inductive TxnStage where
  | snooping | waitWip | waitRoom | issued
  deriving DecidableEq, Repr

/-- What an open transaction does once its snoops are answered (R96, R86). -/
inductive TxnKind where
  | request (x : Intent)
  | evict
  deriving DecidableEq, Repr

/-- An open transaction on one line (R97, R98), or one line's round of an eviction (R86). -/
structure Txn where
  kind : TxnKind
  req : Msg
  set : Nat
  way : Nat
  mport : Nat
  addr : Nat
  crew : Nat
  stage : TxnStage
  snp : Snp := .inv
  awaiting : List Nat := []
  ansE : Bool := false
  ansS : Bool := false
  counted : Bool := true
  deriving DecidableEq, Repr

/-- An eviction in progress (R86); flush marks one that SCAN started (R118). -/
structure Evict where
  set : Nat
  way : Nat
  crew : Nat
  flush : Bool
  deriving DecidableEq, Repr

/-- A write-in-progress entry (R102). -/
structure WipEntry where
  mport : Nat
  addr : Nat
  pipe : Nat
  deriving DecidableEq, Repr

/-- What a parked request waits on (R110). -/
inductive ParkWait where
  | line (mport addr : Nat)
  | set (n : Nat)
  deriving DecidableEq, Repr

/-- A parked request of the retry queue (R110). -/
structure Parked where
  req : Msg
  pipe : Nat
  wait : ParkWait
  ready : Bool := false
  deriving DecidableEq, Repr

/-- The purge walk of one pipeline: the set index it has reached and the crews it serves, each with the sets it still has
to visit (R88). -/
structure PurgeWalk where
  pos : Nat := 0
  crews : List (Nat × Nat) := []
  deriving DecidableEq, Repr

/-- What a lookup's ECC check found in a way (R87): a corrected error in bits [143:0], a corrected error in a stored check
bit, an uncorrectable one with the shadow's parity good, or an uncorrectable one with the shadow's parity bad too. -/
inductive EccObs where
  | ce
  | ceCheck (bit : Fin 9)
  | ueShadowGood | ueShadowBad
  deriving DecidableEq, Repr

/-- A part of a message in a stripe: the message, the chunks of it that lie here, and whether its first and its last
chunk do (R128). -/
structure Part where
  msg : Msg
  chunks : Nat
  head : Bool
  tail : Bool
  deriving DecidableEq, Repr

/-- A stripe: its input, class and targets, each target with the SSN of its flow, and the parts it holds (R128 to R131,
R143). tmo is the value of STRIPE_TMO when it opened (R129). -/
structure Stripe where
  src : Nat
  cls : Nat
  targets : List (Nat × Nat)
  mc : Bool
  parts : List Part
  rot : Nat := 0
  tmo : Nat := 0
  deriving DecidableEq, Repr

/-- The kinds of item an input sends to a plane (R126); a list cell has its part number. -/
inductive ItemKind where
  | data | feather
  | list (part : Nat)
  deriving DecidableEq, Repr

/-- An item on its way to a plane: its stripe by input, class and targets, its slot, its chunks, FIRST, and the list slot of a
multicast stripe (R126, R143). The targets of a list cell are its valid entries. -/
structure Item where
  kind : ItemKind
  src : Nat
  cls : Nat
  targets : List (Nat × Nat)
  mc : Bool
  slot : Nat
  fill : Nat
  first : Nat
  lslot : Nat := 0
  deriving DecidableEq, Repr

/-- A notice that an output holds (R136): the tag of the item, the plane that sent it, and of a data cell its address there. -/
structure Notice where
  src : Nat
  cls : Nat
  ssn : Nat
  slot : Nat
  plane : Nat
  fill : Nat
  first : Nat
  mc : Bool
  addr : Option Nat
  deriving DecidableEq, Repr

/-- A stripe in an output's read window with the notices of the cells still to be read, and the chunks that were read with an
uncorrectable error (R127, R137). lost marks the place of a stripe that was lost (R138). -/
structure Window where
  src : Nat
  cls : Nat
  ssn : Nat
  unread : List Notice
  poisoned : List Nat := []
  lost : Bool := false
  deriving DecidableEq, Repr

/-- A message in an egress queue (R161): itself, its counted length without overhead (R151), whether it waits as a red
message under delay and whether it has aged out (R164), and whether it lies in shared space (R162). -/
structure QMsg where
  msg : Msg
  counted : Nat
  red : Bool
  aged : Bool := false
  inShared : Bool := true
  deriving DecidableEq, Repr

/-- What error protection finds when the traffic manager takes a message or a count (R174): a corrected word, an
uncorrectable word of a header or of data, a parity error in a queue's or a meter's counts. -/
inductive TmObs where
  | ce | ueHeader | ueData
  | queueParity (q : Fin 64)
  | meterParity (m : Fin 4096)
  deriving DecidableEq, Repr

/-- What error protection finds when an output reads a cell (R127): nothing, a corrected word, an uncorrectable word with a
byte of a header, or one of a chunk of the cell. -/
inductive CellObs where
  | ok | ce | ueHeader
  | ueData (chunk : Fin 4)
  deriving DecidableEq, Repr

/-- What a plane finds in the tag of an item that it takes: nothing, an error corrected, an uncorrectable error (R127), or a KIND
of 0b11 or a FILL of 5 to 7 (R126). -/
inductive TagObs where
  | ok | ce | ue | reserved
  deriving DecidableEq, Repr

end Sys2Proof.Machine
end

