-- ==== Sys2Proof/Machine/TypesEngine.lean ====
section
/-! DEFINITION. The data of the Icfeade engine, of the fault collector and of the NoC (spec/12 to spec/15, spec/19). -/

namespace Sys2Proof.Machine

/-- What the scratchpad's error protection finds in an access (R364): nothing; or, by the index of the 32-bit word in the access,
a corrected word or an uncorrectable one, read or met by a merge. -/
inductive SpadObs where
  | ok
  | ce (word : Nat)
  | ue (word : Nat)
  deriving DecidableEq, Repr

/-- When the response of a NoC request comes (R393, R15, R17): before its timeout, on the tick on which it expires, or after it. -/
inductive NocObs where
  | inTime | tie | late
  deriving DecidableEq, Repr

/-- The kinds of access that protection tells apart (R378). -/
inductive Acc where
  | read | write | atomic
  deriving DecidableEq, Repr

/-- A priority FIFO with duplicated pointers (R371, R374). -/
inductive FifoId where
  | fault | safe
  | tracker (port : Fin 256)
  deriving DecidableEq, Repr

/-- An operation that a seat waits in, with its operand values (R306, R344, R346): of a read, what the scratchpad's error
protection finds behind the window and when the NoC's response comes; of STARTF, whether a fence of its crew meets it (R74); of
BAYCMD, the outcome of the trial of CLEAR (R455). -/
inductive FOp where
  | frd (addr : Nat) (wide : Bool) (obs : SpadObs) (noc : NocObs)
  | stopf (fid : Nat)
  | startf (fid : Nat) (tie : Bool)
  | epoch (port : Nat)
  | fence (crew : Nat)
  | scan (flush : Bool) (crew : Nat) (skein : Option Nat)
  | heat (port mask : Nat) (abort : Bool)
  | bay (bay cmd arg : Nat) (clean : Bool)
  | waitev (mask : Nat) (timeout : Nat)
  | fsync
  deriving DecidableEq, Repr

/-- What a Waiting seat waits in, and where its result goes; begun is false while earlier FWR of the seat still hold the
operation back (R322, R345). -/
structure WaitRec where
  op : FOp
  rd : Nat
  begun : Bool
  deriving DecidableEq, Repr

/-- A posted FWR that has not completed (R345); lost once the NoC has dropped its packet (R387) or its response is late; resp
says when the response comes; held while its NI has not injected it (R391, R393, R394). -/
structure PostedWrite where
  addr : Nat
  wide : Bool
  val : Word
  lost : Bool := false
  resp : NocObs := .inTime
  held : Bool := false
  deriving DecidableEq, Repr

/-- The part of a seat that no register shows (R304, R305, R336). General registers are sparse; an unlisted one reads 0.
busy is the engine cycle at which the issue cost of its last instruction ends. -/
structure Seat where
  g : Tab Word := []
  pc : Nat := 0
  dz : Bool := false
  ue : Bool := false
  nm : Bool := false
  busy : Nat := 0
  yielded : Bool := false
  posted : List PostedWrite := []
  wait : Option WaitRec := none
  deriving DecidableEq, Repr

/-- Whether a function runs (R319, R321). -/
inductive Run where
  | running | stopping | stopped
  deriving DecidableEq, Repr

/-- A function: whether it runs, the seat that owns it, and the seats whose STOPF waits for its drain, each with its
destination register (R321). collector marks a stop that the fault collector's port-down action runs (R476), restart one after
which the firmware program starts the function again (R250). -/
structure Fn where
  run : Run
  owner : Option Nat := none
  waiters : List (Nat × Nat) := []
  collector : Bool := false
  restart : Bool := false
  deriving DecidableEq, Repr

/-- The crews a fence cause names (R114, R477). -/
inductive CrewSel where
  | one (c : Nat)
  | all
  deriving DecidableEq, Repr

/-- A fence cause on its way to the fault collector (R114): FCAUSE, the unit that sent it, by its source slot (R473), the crews,
the slice that reports it, the agent. -/
structure FenceReq where
  cause : Nat
  unit : Nat
  crews : CrewSel
  slice : Option Nat := none
  feid : Nat := 0xFFF
  deriving DecidableEq, Repr

/-- An Init message (R217). -/
structure InitMsg where
  swid : Nat
  swvld : Bool
  ackd : Bool
  width : Nat
  rate : Nat
  deriving DecidableEq, Repr

/-- The operations of a steering message (R288). -/
inductive SteerOp where
  | out | back
  | meas (h w : Nat)
  | retire | refuse
  | reserved (code : Nat)
  deriving DecidableEq, Repr

/-- A steering message (R288): TSEQ, OP with its fields, LANE. -/
structure SteerMsg where
  tseq : Nat
  op : SteerOp
  lane : Nat
  deriving DecidableEq, Repr

/-- A bypass message (R205). -/
inductive BypMsg where
  | reserved (btype : Nat)
  | fence (dswid sswid hops hcrew : Nat)
  | fenceReq (dswid sswid hops hcrew sfeid : Nat)
  | linkLoss (orig peer seq inc : Nat)
  | steer (m : SteerMsg)
  | init (m : InitMsg)
  deriving DecidableEq, Repr

/-- An alert (R396): the destination node (0xFF for every host port's island), the source node, the fabric port by which it
leaves where it goes to one, and the fields of the bypass message of its kind. -/
structure Alert where
  dst : Nat
  src : Nat
  port : Nat := 0
  msg : BypMsg
  deriving DecidableEq, Repr

/-- A NoC request that waits for its timeout (R387, R393), its packet dropped or its response late: its initiator, its target, its
requester, its address, whether it is a write, whether a late response follows the timeout (R17), the route entry by which it was
injected, and whether the hub has relayed it (R391, R394). -/
structure NocReq where
  node : Nat
  target : Nat
  who : Requester
  addr : Nat
  wide : Bool
  write : Bool
  late : Bool := false
  route : Word := 0
  relayed : Bool := false
  deriving DecidableEq, Repr

/-- The NoC's part of the state (R385, R391, R393, R396, R397): requests whose packets were dropped and that wait for their
timeout, requests that the hub has relayed and that are still open, alerts in the send queues (oldest first) and alerts in
the receive queues of the rail NIs. -/
structure NocSt where
  outstanding : List NocReq := []
  relayed : Nat := 0
  send : List Alert := []
  recv : Tab (List Alert) := []
  deriving DecidableEq, Repr

/-- The SCAN in progress or waiting (R349, R350): the seat and register that take the result, the form, the scope, the
count so far and, by 2 × slice + pipeline, the number of sets that the pipeline's walk has still to visit; an unlisted one
has all 1,024. -/
structure Scan where
  seat : Option Nat
  rd : Nat
  flush : Bool
  crew : Nat
  skein : Option Nat
  count : Nat := 0
  left : Tab Nat := []
  deriving DecidableEq, Repr

/-- A DMA descriptor (R354). -/
structure Desc where
  skind : Nat
  dkind : Nat
  hport : Nat
  pv : Bool
  pasid : Nat
  len : Nat
  saddr : Nat
  daddr : Nat
  pattern : Word
  deriving DecidableEq, Repr

/-- A DMA engine (R353, R412): its descriptor, the HSF that paused it, the reads of host memory that are open (offset in
the transfer and length, in request order), and the offset of the next one. -/
structure DmaSt where
  desc : Option Desc := none
  paused : Option Nat := none
  reads : List (Nat × Nat) := []
  next : Nat := 0
  deriving DecidableEq, Repr

/-- The image loader (R312): the image's kind, source and destination, whether the lock refuses it, and the key hashes and the
minimum version in force when the load started, since a burn or a transition acts on later loads (R523, R525). -/
structure LoadSt where
  kind : Nat
  src : Nat
  dst : Nat
  lockRefused : Bool
  keys : List Nat := []
  least : Nat := 0
  deriving DecidableEq, Repr

/-- The engine (R304, R305, R310, R315, R329, R349): seats, the cox pointer, the CYCLE counter, the instruction store by
8-byte word, the event queue in arrival order, the SCAN queue, DMA engines and the loader. -/
structure Engine where
  seats : Tab Seat := []
  ptr : Nat := 0
  cycle : Nat := 0
  store : Tab Word := []
  evq : List Word := []
  scans : List Scan := []
  dmas : Tab DmaSt := []
  load : Option LoadSt := none
  deriving DecidableEq, Repr

/-- The notices of the safe state that have not been taken (R487): by port islands, by the engine, by the bay controller. -/
structure SafeNotices where
  ports : List Nat := []
  engine : Bool := false
  bay : Bool := false
  deriving DecidableEq, Repr

/-- The fault collector (R471 to R491, R115): reports and fence causes on their way, its two queues in arrival order, the
words already taken as bad, the slices that have reported a crew's purge, the crews that lost a member bit since they last left
Active (R73), the window length with which each open window opened, ports whose port-down action waits, fence
requests of other switches by crew and agent (R183), and
the safe notices in flight. -/
structure FltSt where
  reports : List Nat := []
  fences : List FenceReq := []
  faultQ : List Word := []
  safeQ : List Word := []
  bad : List Nat := []
  windows : Tab Nat := []
  portDown : List Nat := []
  purged : Tab (List Nat) := []
  memCut : List Nat := []
  requests : List (Nat × Nat) := []
  notices : SafeNotices := {}
  deriving DecidableEq, Repr

/-- A 64-bit register half held or latched for a requester (R11). -/
structure Latch where
  who : Requester
  addr : Nat
  low : Bool
  val : Word
  deriving DecidableEq, Repr

end Sys2Proof.Machine
end

