-- ==== Sys2Proof/Machine/TypesPath.lean ====
section
/-! DEFINITION. The state of the islands of the memory data path: port islands, directory slices, the switch core, the
traffic manager and the fabric (spec/02 to spec/07). -/

namespace Sys2Proof.Machine

/-- What a memory device answers (R99, R247, R62): data, an error given in place of data, the end of a write, a write
error. -/
inductive DevResp where
  | data (poison : Bool)
  | readError | writeDone | writeError
  deriving DecidableEq, Repr

/-- A request held at ingress: a host's own message (R56, R238, R185) or a fabric packet with its channel (R187, R214). -/
inductive Held where
  | host (r : HostReq) (group : Option Nat)
  | fabric (m : Msg) (vc : Nat) (group : Option Nat)
  deriving DecidableEq, Repr

/-- The scrub engine of a memory port (R61 to R63): the skein, the mark that tells its writes from those of an earlier scrub,
and the lines it has put into queue 63 and those that the device has acknowledged. -/
structure ScrubSt where
  skein : Nat
  mark : Nat := 0
  issued : Nat := 0
  acked : Nat := 0
  deriving DecidableEq, Repr

/-- A record of a host port's Dynamic Capacity event log (R243, R244): the kind of event (PRT_DCE.OP), whether the extent
is a remote entry, its index, and its tag words (R46). -/
structure DcRecord where
  op : Nat
  remote : Bool
  index : Nat
  tagSkein : Nat
  tagCrew : Nat
  deriving DecidableEq, Repr

/-- A response to an enumeration request (R245), by step: the configuration header with the identifiers and whether the CXL
device DVSEC is there; Mem_Capable; Memory_Active; Identify Memory Device, in granules of 256 MiB; Mem_Enable set; the
commit of HDM decoder 0. -/
inductive EnumResp where
  | header (dvsec : Bool) (ven dev : Nat)
  | capable (b : Bool)
  | active (b : Bool)
  | identify (ok : Bool) (volatile total : Nat)
  | enabled
  | commit (ok : Bool)
  deriving DecidableEq, Repr

/-- An enumeration in progress (R245): its step, and what it has found. -/
structure EnumSt where
  step : Nat := 1
  ven : Nat := 0
  dev : Nat := 0
  volatile : Nat := 0
  total : Nat := 0
  deriving DecidableEq, Repr

/-- The data path state of one port island beyond its registers. enumLate says that an enumeration has ended by a timeout and its
response is still to come (R17). trainedAt is the rate and the width code of the last training
to L0 since the function was last started (R167). bridges holds what a host has written into the emulated Type 1 headers (R241), by
1,024 × function + word, function 0 the upstream switch port and 1 + n vPPB n, and their status bits. -/
structure Port where
  ext : List ActExt := []
  rext : List ActRext := []
  racl : List ActRacl := []
  skeins : List ActSkein := []
  members : List (Nat × Nat) := []
  epoch : Nat := 0
  epochs : List EpochReq := []
  trackerDown : Bool := false
  held : List Held := []
  out : List OutEntry := []
  nextTag : Nat := 0
  snoops : List SnpEntry := []
  credits : Tab Nat := []
  stops : List Nat := []
  dcLog : List DcRecord := []
  offers : List (Bool × Nat) := []
  barred : List (Bool × Nat) := []
  inbox : List Msg := []
  dev : List DevReq := []
  scrub : Option ScrubSt := none
  safe : Bool := false
  linkTx : List Msg := []
  alerts : List BypMsg := []
  trained : Option (List Word) := none
  trainedAt : Option (Nat × Nat) := none
  enum : Option EnumSt := none
  enumLate : Bool := false
  policy : Nat := 0
  stamp : Nat := 0
  bridges : Tab Nat := []
  deriving DecidableEq, Repr

/-- One directory slice beyond its registers (R77 to R110, R508): entries by 16 × set + way, LRU ranks by set, open
transactions, evictions, write-in-progress entries, the retry queue, purge walks by pipeline, the crews whose fence notice
it has taken, messages at the lookup input, in the writeback lane and as notices, the indirect read in progress (set and
way), the live slot totals: cycles, retired, wasted, front-starved, back-starved; the arbiter's pointer P, and the pipelines
whose lane and whose lookup slot have been used in the present slice cycle (R104). -/
structure Slice where
  entries : Tab DirEntry := []
  lru : Tab (List Nat) := []
  txns : List Txn := []
  evicts : List Evict := []
  wip : List WipEntry := []
  retry : List Parked := []
  walks : Tab PurgeWalk := []
  fenced : List Nat := []
  reqIn : List Msg := []
  wbIn : List Msg := []
  noticeIn : List Msg := []
  eidx : Option (Nat × Nat) := none
  td : List Nat := [0, 0, 0, 0, 0]
  ptr : Nat := 0
  laneUsed : List Nat := []
  slotUsed : List Nat := []
  deriving DecidableEq, Repr

/-- One input of the core (R128 to R135, R143): messages whole and ready, open stripes (oldest first), closed stripes, the
rotation count, SSN counters by 8 × output + class, the items on their way to each plane, for each of which a write credit is
spent (R132), the list slot that its next multicast stripe uses, and completion notices that wait for the data of their read to
enter the core (R99), each behind that data. -/
structure CoreIn where
  ready : List Msg := []
  openStripes : List Stripe := []
  closed : List Stripe := []
  rot : Nat := 0
  ssn : Tab Nat := []
  items : Tab (List Item) := []
  listSlot : Nat := 0
  behind : List (Msg × Msg) := []
  deriving DecidableEq, Repr

/-- A cell held in a plane's banks: its address, and the targets that have not read it yet, with the SSN of each; their number
is the reference count of R144 (R136). -/
structure Cell where
  addr : Nat
  readers : List (Nat × Nat)
  deriving DecidableEq, Repr

/-- One middle plane (R133, R136, R143): data cells held, cells and feathers queued by 8 × output + class, and the target
lists by 8 × source + 4 × list slot + part. -/
structure Plane where
  cells : List Cell := []
  queued : Tab Nat := []
  lists : Tab (List (Nat × Nat)) := []
  deriving DecidableEq, Repr

/-- One output of the core (R137, R138): notices, expected SSN by 8 × input + class, the read window, the class last
served among C4 to C7, the input last served by class, the flows whose next released stripe skips to FIRST, and, by
flow, whether the head of a message whose tail is still to come was read with an error. -/
structure CoreOut where
  notices : List Notice := []
  expected : Tab Nat := []
  window : List Window := []
  lastClass : Nat := 7
  lastInput : Tab Nat := []
  skip : List Nat := []
  partials : Tab (Option Bool) := []
  deriving DecidableEq, Repr

/-- The switch core: inputs and outputs by endpoint, planes, and the contents of the stripes in it. -/
structure CoreSt where
  inputs : Tab CoreIn := []
  outputs : Tab CoreOut := []
  planes : Tab Plane := []
  stripes : List Stripe := []
  deriving DecidableEq, Repr

/-- A meter (R156, R160): token counts in units of 2^-24 byte, what is left of a unit in each by hundredths, and the settings
in force. -/
structure Meter where
  tc : Nat := 0
  tp : Nat := 0
  rc : Nat := 0
  rp : Nat := 0
  rate : Word := 0
  bkt : Word := 0
  deriving DecidableEq, Repr

/-- An egress queue (R161, R163): its messages, the signed bucket counts in units of 2^-24 byte, what is left of a unit in each
by seventy-fifths, the deficit of the peak tier, and the settings in force. -/
structure EQueue where
  msgs : List QMsg := []
  sc : Int := 0
  sp : Int := 0
  rc : Nat := 0
  rp : Nat := 0
  deficit : Int := 0
  rate : Word := 0
  bkt : Word := 0
  deriving DecidableEq, Repr

/-- The scheduler of one memory port (R162, R164): queue last served in each tier and egress buffer bytes used, shared and
by class. -/
structure Sched where
  lastCommitted : Nat := 63
  lastPeak : Nat := 63
  lastRed : Nat := 63
  shared : Nat := 0
  reserve : Tab Nat := []
  deriving DecidableEq, Repr

/-- The traffic manager: meters, the meters that each created tenant slice holds (R424), egress queues by q, schedulers by port,
and by island the depth and delay shifts in force (R172), which an island takes at the start of a period. -/
structure TmSt where
  meters : Tab Meter := []
  claims : Tab (List Nat) := []
  queues : Tab EQueue := []
  scheds : Tab Sched := []
  sampling : Tab (Nat × Nat) := []
  deriving DecidableEq, Repr

/-- The fabric state of the switch (R193): the SEQ it sent last, its INC once drawn, the INC
before the last reset, and the (INC, SEQ) of the last notice acted on for
each ORIG. -/
structure FabSt where
  seq : Nat := 0
  inc : Option Nat := none
  old : Option Nat := none
  records : Tab (Option (Nat × Nat)) := []
  deriving DecidableEq, Repr

/-- The granules that a skein holds on its memory port: MPORT, DBASE and SIZE as they were marked (R36). -/
structure Mark where
  mport : Nat
  dbase : Nat
  size : Nat
  deriving DecidableEq, Repr

/-- A local accumulator (R494): the source island, the bank (0 global, 1 port, 2 slice) and the counter. -/
structure AccKey where
  island : Nat
  bank : Nat
  i : Nat
  j : Nat
  deriving DecidableEq, Repr

/-- Performance counting beyond its registers (R494, R500, R501): the accumulators of the source islands, the generation of
each counter (base counts the clears of all of them) and the generation that its source island holds, the islands that have
not answered a flush, and the slice selections in force, by 4 × slice + counter. -/
structure PmcSt where
  acc : List (AccKey × Nat) := []
  base : Nat := 0
  gen : List (AccKey × Nat) := []
  held : List (AccKey × Nat) := []
  flushing : List Nat := []
  ssel : Tab Word := []
  deriving DecidableEq, Repr

end Sys2Proof.Machine
end

