-- ==== Sys2Proof/Machine/TypesLink.lean ====
section
/-! DEFINITION. The data of the Lafoush links and of the SerDes lanes (spec/08, spec/10, spec/11). -/

namespace Sys2Proof.Machine

/-- Link control (R204). -/
structure LinkCtl where
  ackseq : Nat
  nak : Bool
  cva : Nat
  cca : Nat
  cvb : Nat
  ccb : Nat
  bcr : Nat
  deriving DecidableEq, Repr

/-- A slot that holds packet bytes, by its descriptor, with its 64 bytes (R199, R201). The slot that ends a packet carries what
the packet is, which its bytes alone do not tell: the spec does not lay the protocol content out. -/
structure FlitSlot where
  vc : Nat
  sop : Bool
  eop : Bool
  nb : Nat
  data : Nat := 0
  pkt : Option Msg
  deriving DecidableEq, Repr

/-- A flit (R199, R200). -/
structure Flit where
  ftype : Nat
  seq : Nat
  rgen : Nat
  slots : List FlitSlot
  byp : Option BypMsg
  ctl : LinkCtl
  deriving DecidableEq, Repr

/-- How a lane training block's ALIGN is found (R216). -/
inductive AlignObs where
  | none | normal | mirrored
  deriving DecidableEq, Repr

/-- A lane training block (R216, R260): how its ALIGN is found, whether its CRC16 matches, TSTATE, LANE, SPREQ, SPACK, and the
fields of EQ. -/
structure Ltb where
  align : AlignObs := .normal
  crcGood : Bool := true
  tstate : Nat
  lane : Nat
  spreq : Nat
  spack : Nat
  eqOp : Nat
  preset : Nat
  pre : Nat
  post : Nat
  st : Nat
  apre : Nat
  apost : Nat
  done : Bool
  deriving DecidableEq, Repr

/-- A packet that is being received on a channel (R201): its slots so far, and its fabric header. -/
structure RxPart where
  slots : Nat
  hdr : FabHdr
  deriving DecidableEq, Repr

/-- Where a heat stands (R290, R299). spare: waiting for the mirror and its own spare receiver; out: OUT sent, the far end's
awaited; train, eq, settle, scan: the steps on the freed lane; judge: its own scan done, MEAS awaited; back: BACK sent, the
far end's awaited. A responder goes from out to scan, and waits in judge for BACK or RETIRE. -/
inductive HeatStep where
  | spare | out | train | eq | settle | scan | judge | back
  deriving DecidableEq, Repr

/-- A heat (R290 to R292): whether this end began it, the lanes still to visit after the present one, the lane, the step, the
thresholds in force, both ends' margins, whether ABORT was written, and whether the far end has answered OUT. -/
structure Heat where
  initiator : Bool
  todo : List Nat
  lane : Nat
  step : HeatStep
  thr : Word
  own : Option (Nat × Nat) := none
  far : Option (Nat × Nat) := none
  abort : Bool := false
  answered : Bool := false
  deriving DecidableEq, Repr

/-- The state of one Lafoush port beyond its registers (R206 to R215, R217, R289): as receiver, E, NAK pending, NAK to be sent, G,
RGEN of the last good flit, the packet open on each channel, packets whole in the receive buffer with their channel, bypass
messages not handed on; as transmitter, the next number, the flits kept, RGEN, a replay asked for and the number from which it
starts, the next number to resend, replays in a row and the first one's start, the credits that this end grants and those granted
by the far end, CONS and RET and the cumulative credits returned to it by channel (5 for B), slots sent of the packet at the head
of each channel, the channels next visited by the credit fields, bypass messages waiting; uncorrectable codewords in a row; the
training guards; failed trainings in a row; lanes on the spare by direction, the steering switches of the receiver and the
releases of old paths still to come; the retired and the missing lane, the lane the far end asks for; whether the mirror has stood
for 100 µs; the states of the scrambler and of the descrambler (R202); the heat. -/
structure Half where
  exp : Nat := 0
  nakPending : Bool := false
  nakDue : Bool := false
  gen : Nat := 0
  lastGen : Nat := 0
  rxOpen : Tab (Option RxPart) := []
  rx : List (Nat × Msg) := []
  bypRx : List BypMsg := []
  next : Nat := 0
  kept : List Flit := []
  rgen : Nat := 0
  replayAt : Option Nat := none
  resend : Option Nat := none
  replays : Nat := 0
  replayFrom : Nat := 0
  offered : Tab Nat := []
  granted : Tab Nat := []
  cons : Tab Nat := []
  ret : Tab Nat := []
  given : Tab Nat := []
  txSent : Tab Nat := []
  field : Nat := 0
  bypTx : List BypMsg := []
  uncRun : Nat := 0
  nulls : Nat := 0
  far : Option InitMsg := none
  fails : Nat := 0
  txSpare : Option Nat := none
  rxSpare : Option Nat := none
  rxSwitch : List SteerMsg := []
  txSwitch : List SteerMsg := []
  retired : Option Nat := none
  missing : Option Nat := none
  farReq : Nat := 0xF
  mirrorOld : Bool := false
  txScr : Nat := 0
  rxScr : Nat := 0
  heat : Option Heat := none
  deriving DecidableEq, Repr

/-- Transmit equaliser settings tried by a receiver: eye area, PRE, POST. -/
structure EqTry where
  area : Nat
  pre : Nat
  post : Nat
  deriving DecidableEq, Repr

/-- The state of one lane beyond its registers (R216, R217, R261, R282): consecutive good blocks, the polarity seen, good blocks
since the correction, the far lane named, blocks in which SPACK matched, the skew, candidates evaluated, the best of them, the
setting asked of the far transmitter, whether that has been reported as applied, whether its receiver has finished, good blocks in
a row with DONE, ST of this transmitter, and the request that it applies at the next block boundary. -/
structure LaneSt where
  good : Nat := 0
  mirrored : Bool := false
  pol : Nat := 0
  name : Option Nat := none
  spOk : Nat := 0
  skewOk : Bool := false
  tried : Nat := 0
  best : Option EqTry := none
  asked : Option (Nat × Nat) := none
  applied : Bool := false
  done : Bool := false
  farDone : Nat := 0
  st : Nat := 0
  next : Option (Nat × Nat) := none
  deriving DecidableEq, Repr

end Sys2Proof.Machine
end

