-- ==== Sys2Proof/Machine/TypesChip.lean ====
section
/-! DEFINITION. The data of the Host Service Functions, of the bays, and of the device as a whole (spec/16, spec/18,
spec/21, spec/22). -/

namespace Sys2Proof.Machine

/-- A request TLP of a Host Service Function that has been handed to transmit (R412, R411): a write with its bytes, a read
with its length, each with its PASID, or an MSI-X message. -/
inductive HsfTlp where
  | write (addr : Nat) (data : List Byte) (pasid : Option Nat)
  | read (addr len : Nat) (pasid : Option Nat)
  | msix (addr data : Nat)
  deriving DecidableEq, Repr

/-- What a BAR request asks (R408, R409). -/
inductive BarOp where
  | read (len : Nat)
  | write (data : List Byte)
  deriving DecidableEq, Repr

/-- What an island counted of one event that no command shows, since it last sent (R497, R498): of a port island's ports by place
in its octet; the cycles on which it was true or occurred, and how often it became true or occurred. -/
structure CycleObs where
  evt : Fin 16
  port : Fin 4 := 0
  cycles : Nat
  times : Nat
  deriving DecidableEq, Repr

/-- A BAR request (R408, R409): its offset, what it asks, and whether it is poisoned. malformed: the TLP is malformed as PCIe gives
(R418). -/
structure BarReq where
  off : Nat
  op : BarOp
  poison : Bool := false
  malformed : Bool := false
  deriving DecidableEq, Repr

/-- How the HSF completes a request of its host (R408, R414, R418). -/
inductive BarAnswer where
  | data (bytes : List Byte)
  | done
  | unsupported
  | abort
  | retry
  deriving DecidableEq, Repr

/-- What a completion of a DMA read carries (R413, R418): data with its poison, or an error status. -/
inductive DmaCpl where
  | data (bytes : List Byte) (poison : Bool)
  | error
  deriving DecidableEq, Repr

/-- A Host Service Function beyond its registers (R407 to R416): whether BAR0 is present, the subsystem word taken at the
port's last start, the MSI-X table by 4 × vector + word, the pending bits, the request TLPs handed to transmit and not yet
sent, the DMA reads that ran out of time, and the vectors that wait. The configuration space stands in the registers
HSF_CFG. -/
structure Hsf where
  mgr : Bool := false
  subsys : Nat := 0
  table : Tab Nat := []
  pba : List Nat := []
  tx : List HsfTlp := []
  late : List Nat := []
  deriving DecidableEq, Repr

/-- A 12 V feed as the bay die converts it on a tick (R443): drain and source in mV, current in mA, whether these samples are
valid, the temperature diode in thousandths of a degree where it is valid, and whether the feed is held at its limit. -/
structure FeedObs where
  drain : Nat := 0
  source : Nat := 0
  current : Int := 0
  ok : Bool := true
  diode : Option Int := none
  limited : Bool := false
  deriving DecidableEq, Repr

/-- The samples of a bay (R443): both 12 V feeds, common output and auxiliary output in mV, auxiliary current in mA, the
ambient temperature in thousandths of a degree where it is valid, the 1 MHz ticks since the bay's last samples, and whether
BAY_HOLD has stood at 0 for 10 s (R457), and whether feed X is held at its current limit. -/
structure BayObs where
  a : FeedObs := {}
  b : FeedObs := {}
  vo : Nat := 0
  vox : Nat := 0
  ix : Nat := 0
  amb : Option Int := none
  dt : Nat := 1
  rested : Bool := false
  xLimited : Bool := false
  deriving DecidableEq, Repr

/-- The electro-thermal model and the fallback energy of a 12 V feed (R444, R445): both stages in millionths of a degree, the
energy in pJ. -/
structure FeedSt where
  t1 : Int := 0
  t2 : Int := 0
  energy : Nat := 0
  deriving DecidableEq, Repr

/-- A bay beyond its registers (R444 to R463): the settings in force (BAY_CFG, BAY_LIM, BAY_VWIN, BAY_MODEL, BAY_FB, by 0 to
4), the models of both 12 V feeds, the gates commanded on, the comparators that have latched, feeds whose input is lost,
whether the ramp is held, whether it entered Cooling from Tripped, whether its hold-off has stood at 0 for 10 s, and the
outputs last sampled, in mV. -/
structure Bay where
  inForce : Tab Word := []
  a : FeedSt := {}
  b : FeedSt := {}
  gateA : Bool := false
  gateB : Bool := false
  latched : List Nat := []
  lost : List Nat := []
  held : Bool := false
  fromTrip : Bool := false
  rested : Bool := false
  vo : Nat := 0
  vox : Nat := 0
  deriving DecidableEq, Repr

/-- Where the boot ROM stands (R520): running, waiting for a host image, having entered firmware, having halted seat 0. -/
inductive BootStage where
  | rom | hostWait | firmware | halted
  deriving DecidableEq, Repr

/-- What reset is asked for (R513, R517). -/
inductive ResetKind where
  | powerOn | coldPin | coldReg (req : Nat) | warmPin | warmReg (req : Nat)
  deriving DecidableEq, Repr

/-- An operator key slot (R522, R523): its hash once programmed, and whether it is revoked. -/
structure KeySlot where
  hash : Option Nat := none
  revoked : Bool := false
  deriving DecidableEq, Repr

/-- The fused lifecycle bits, as the majority of their three copies gives them (R524). -/
structure LifeBits where
  m : Bool := false
  d : Bool := false
  p : Bool := false
  t : Bool := false
  deriving DecidableEq, Repr

/-- The device as a whole (R366, R509 to R525, R534, R543): whether fuse load has stopped it in boot, the boot ROM's stage, the
digest of the last verified load, the fuse rows of the registers of domain Fuse (an unlisted one is unfused), the lifecycle bits,
the operator key slots and the minimum versions of firmware and of user programs, the fuse
operation that runs with the hash it burns, the lifecycle whose commit has started a wipe, a reset that waits, the tamper inputs
held low, the entry of the last verified load, and the port islands whose PLL has not locked. -/
structure Chip where
  dead : Bool := false
  boot : BootStage := .rom
  digest : Option Nat := none
  fuses : List (RKey × Word) := []
  life : LifeBits := { m := true, p := true }
  keys : Tab KeySlot := []
  fwMin : Nat := 0
  userMin : Nat := 0
  burn : Option (Nat × Nat × Nat) := none
  target : Option Nat := none
  resetHeld : Option ResetKind := none
  tamper : List Nat := []
  entry : Nat := 0
  pllFail : List Nat := []
  deriving DecidableEq, Repr

end Sys2Proof.Machine
end

