-- ==== Sys2Proof/Machine/TypesCommand.lean ====
section
/-! DEFINITION. The operands of the commands that are records. -/

namespace Sys2Proof.Machine

/-- The dispatch of one instruction from a seat (R304, R331, R334): the seat, the engine cycles since the last dispatch,
the fields of the word, whether the fetched word was uncorrectable, what the scratchpad's error protection finds in its
access, and when the NoC's response to it comes. -/
structure Disp where
  seat : Fin 16
  dt : Nat := 1
  rd : Fin 32 := 0
  rs1 : Fin 32 := 0
  rs2 : Fin 32 := 0
  rs3 : Fin 32 := 0
  imm : BitVec 32 := 0
  fetchUe : Bool := false
  spad : SpadObs := .ok
  noc : NocObs := .inTime
  deriving DecidableEq, Repr

/-- What a write meets that no register shows: whether the burn of a lifecycle bit verifies (R525), the image that the boot ROM
gets from the host (R520), what the scratchpad's error protection finds behind the window (R363), and when the NoC's response
comes (R393). -/
structure WriteObs where
  verified : Bool := true
  image : Option (List Byte) := none
  spad : SpadObs := .ok
  noc : NocObs := .inTime
  deriving DecidableEq, Repr

/-- What a DMA transfer meets that no register shows: the offset of the write that loses its slot (R362), and what the
scratchpad's error protection finds, by 32-bit word of its source and of its destination (R364), and the addresses of its
management accesses whose response comes on the tick of their timeout or after it (R393). -/
structure DmaObs where
  lost : Option Nat := none
  reads : List SpadObs := []
  writes : List SpadObs := []
  ties : List Nat := []
  lates : List Nat := []
  deriving DecidableEq, Repr

/-- An equalisation request of a CXL or PCIe lane's far receiver (R258): a preset, or coefficients. -/
inductive EqAsk where
  | preset (n : Fin 16)
  | coefs (pre post : Nat)
  deriving DecidableEq, Repr

/-- What the training of a CXL or PCIe port finds on one of its lanes (R258, R267): whether the levels come inverted, and the
requests of the far receiver, in order. -/
structure LaneTrained where
  inverted : Bool := false
  asks : List EqAsk := []
  deriving DecidableEq, Repr

/-- The function that a host configuration write names (R241): the HSF, the upstream switch port, or a vPPB. -/
inductive CfgTarget where
  | hsf
  | upstream
  | vppb (n : Fin 10)
  deriving DecidableEq, Repr

end Sys2Proof.Machine
end

