-- ==== Sys2Proof/Syntax.lean ====
section
/-! DEFINITION. The commands of the device: one constructor for each row of spec/opcode_table.json, in its order, with the
row's operands. An operand is a number that names an instance (bounded by its type), a message or a value that comes from
outside, or an observation of the outside world that the step needs (an error seen, an event that fell on the tick on
which a timer expired). -/

namespace Sys2Proof

open Machine

/-- The commands. -/
inductive Instr where
  /-- REGISTER_WRITE (R6). A write reaches a register that has no row of its own and is applied by its owning island under its access code and write rules. -/
  | registerWrite (who : Requester) (addr : Fin 67108864) (wide : Bool) (value : Word) (obs : WriteObs)
  /-- COUNTER_CLEAR (R573). A write of any value to a counter register sets every counter in it to 0 once. -/
  | counterClear (who : Requester) (addr : Fin 67108864) (value : Word)
  /-- HOST_REQUEST (R51). A CXL.mem message from a host, taken whole at its host port, is checked against the active bindings, metered and routed to a slice, a memory port or a fabric port, or completed at once. -/
  | hostRequest (port : Fin 256) (r : HostReq)
  /-- SKEIN_ENTRY_WRITE (R40). A firmware write of a skein table word is checked and either changes the skein state and fields or is refused with a cause in CORE_SKN_ERR. -/
  | skeinEntryWrite (who : Requester) (skein : Fin 65536) (word : Fin 4) (value : Word)
  /-- ADD_DC_RESPONSE (R243). A host's Add Dynamic Capacity Response accepts or declines offered extents, setting OWN_ACC or ACC and posting EV_DC_ACCEPT or EV_DC_DECLINE. -/
  | addDcResponse (port : Fin 256) (listed : List (Bool × Nat))
  /-- RELEASE_DYNAMIC_CAPACITY (R40). A host releases an extent; the device clears its OWN_ACC or ACC bit and posts EV_DC_RELEASE. -/
  | releaseDynamicCapacity (port : Fin 256) (remote : Bool) (index : Fin 65536)
  /-- DCE_ADD (R49). PRT_DCE with OP add posts an Add Capacity event for the skein to the host, or is dropped. -/
  | dceAdd (who : Requester) (port : Fin 256) (skein : Fin 65536)
  /-- DCE_RELEASE_REQUEST (R49). PRT_DCE with OP release request posts a Release Capacity event for the skein. -/
  | dceReleaseRequest (who : Requester) (port : Fin 256) (skein : Fin 65536)
  /-- DCE_FORCED_RELEASE (R49). PRT_DCE with OP forced release posts a Forced Capacity Release event and clears the port's OWN_ACC bit at once. -/
  | dceForcedRelease (who : Requester) (port : Fin 256) (skein : Fin 65536)
  /-- RDCE_ADD (R186). PRT_RDCE with OP add offers remote entry INDEX to the host. -/
  | rdceAdd (who : Requester) (port : Fin 256) (index : Fin 32)
  /-- RDCE_RELEASE_REQUEST (R186). PRT_RDCE with OP release request asks the host to release remote entry INDEX. -/
  | rdceReleaseRequest (who : Requester) (port : Fin 256) (index : Fin 32)
  /-- RDCE_FORCED_RELEASE (R186). PRT_RDCE with OP forced release posts a forced release for remote entry INDEX and clears its ACC. -/
  | rdceForcedRelease (who : Requester) (port : Fin 256) (index : Fin 32)
  /-- IDENTIFY_MEMORY_DEVICE (R242). The port island answers Identify Memory Device with zero static capacity. -/
  | identifyMemoryDevice (port : Fin 256)
  /-- GET_SUPPORTED_LOGS (R242). The port island answers Get Supported Logs. -/
  | getSupportedLogs (port : Fin 256)
  /-- GET_LOG (R242). The port island answers Get Log for the Command Effects Log. -/
  | getLog (port : Fin 256)
  /-- GET_EVENT_RECORDS (R242). The port island returns records of the Informational, Warning, Failure, Fatal or Dynamic Capacity log. -/
  | getEventRecords (port : Fin 256) (log : Fin 5)
  /-- CLEAR_EVENT_RECORDS (R243). The host clears event records, and records leave the Dynamic Capacity event log. -/
  | clearEventRecords (port : Fin 256) (log : Fin 5) (count : Fin 65)
  /-- GET_EVENT_INTERRUPT_POLICY (R242). The port island returns the event interrupt policy. -/
  | getEventInterruptPolicy (port : Fin 256)
  /-- SET_EVENT_INTERRUPT_POLICY (R242). The port island sets the event interrupt policy. -/
  | setEventInterruptPolicy (port : Fin 256) (policy : Nat)
  /-- GET_DC_CONFIGURATION (R242). The port island reports one dynamic capacity region of PRT_DCR.SIZE_G × 256 MiB. -/
  | getDcConfiguration (port : Fin 256)
  /-- GET_DC_EXTENT_LIST (R242). The port island lists the local and remote extents this port has accepted. -/
  | getDcExtentList (port : Fin 256)
  /-- GET_TIMESTAMP (R242). The port island returns the timestamp. -/
  | getTimestamp (port : Fin 256) (elapsed : Nat)
  /-- SET_TIMESTAMP (R242). The port island sets the timestamp. -/
  | setTimestamp (port : Fin 256) (stamp : Nat)
  /-- UNSUPPORTED_MAILBOX_COMMAND (R242). Any other mailbox command of the logical memory device returns Unsupported. -/
  | unsupportedMailboxCommand (port : Fin 256)
  /-- EPOCH_ACTIVATE (R54). Once earlier EPOCHs on the port are done, the staged map is validated and copied into the active copy on one cycle, advancing the epoch counter. -/
  | epochActivate (port : Fin 256)
  /-- EPOCH_COMPLETE (R54). No request tagged with the previous epoch remains in the port's path, so EPOCH completes with result 0. -/
  | epochComplete (port : Fin 256)
  /-- SCRUB_GO (R61). PRT_SCRB_CTL.GO starts the scrub engine over a Scrubbing skein, or is refused with ERR. -/
  | scrubGo (who : Requester) (port : Fin 256) (skein : Fin 65536)
  /-- SCRUB_COMPLETE (R63). Every scrub write has been acknowledged, so the skein becomes Free and EV_SCRUB_DONE is posted. -/
  | scrubComplete (port : Fin 256)
  /-- CREW_CREATE (R72). CRW_CMD create moves a Free crew to Stopped with cleared members and reset settings. -/
  | crewCreate (who : Requester) (crew : Fin 256)
  /-- CREW_DELETE (R72). CRW_CMD delete frees a Stopped or Fenced crew whose skein and entry counts are 0, or sets CMD_ERR. -/
  | crewDelete (who : Requester) (crew : Fin 256)
  /-- CRW_CTL_WRITE (R66). A write of CRW_CTL is stored while the crew is Stopped and otherwise ignored with CMD_ERR set. -/
  | crwCtlWrite (who : Requester) (crew : Fin 256) (value : BitVec 32)
  /-- CRW_MEM_WRITE (R70). A write of CRW_MEM is stored while the crew is Stopped and otherwise ignored with CMD_ERR set. -/
  | crwMemWrite (who : Requester) (crew : Fin 256) (word : Fin 128) (value : BitVec 32)
  /-- COHERENT_REQUEST (R96). A coherent request takes a lookup slot at its home slice and is admitted, snooped, or found in conflict. -/
  | coherentRequest (slice : Fin 64) (pipe : Fin 2) (dt : Nat) (ecc : List (Fin 16 × EccObs))
  /-- EVICTION_COMPLETE (R86). Every answer and writeback of an eviction is done, so the entry is freed and DIR_EVICT_CNT counts one. -/
  | evictionComplete (slice : Fin 64) (set : Fin 2048) (way : Fin 16)
  /-- WRITEBACK (R103). The writeback lane applies one writeback by the line state it finds, issuing a memory write or Cmp. -/
  | writeback (slice : Fin 64) (pipe : Fin 2) (dt : Nat)
  /-- SNOOP_ANSWER (R101). A snoop answer reaches the slice's writeback lane and satisfies its snoop, possibly letting the waiting transaction proceed. -/
  | snoopAnswer (slice : Fin 64) (pipe : Fin 2) (dt : Nat)
  /-- COMPLETION_NOTICE (R98). A completion notice from a memory port closes its transaction, frees any write-in-progress entry and releases waiting reads. -/
  | completionNotice (slice : Fin 64)
  /-- PARKED_REPLAY (R110). A ready parked request takes a lookup slot with precedence and is replayed in arrival order. -/
  | parkedReplay (slice : Fin 64) (pipe : Fin 2) (dt : Nat) (ecc : List (Fin 16 × EccObs))
  /-- NACK_RECEIVED (R106). The port agent keeps the NACKed request and draws a back-off from the crew's window. -/
  | nackReceived (port : Fin 256)
  /-- BACKOFF_EXPIRY (R106). A back-off ends and the port agent resends the request, counting it in PRT_RETRY_CNT. -/
  | backoffExpiry (port : Fin 256) (tag : Nat)
  /-- PARK_NOTICE_RECEIVED (R111). A park notice reaches the port agent, which may then answer a pending BIConflict. -/
  | parkNoticeReceived (port : Fin 256)
  /-- BACK_INVALIDATE_DELIVERY (R100). A port agent delivers a back-invalidate to its host, or answers BIRspI itself when no binding maps the line, and starts the snoop timer. -/
  | backInvalidateDelivery (port : Fin 256)
  /-- HOST_SNOOP_ANSWER (R112). A snoop answer from a host is taken into the port agent's island, stopping the snoop timer and going to the slice. -/
  | hostSnoopAnswer (port : Fin 256) (which : Nat) (a : Ans) (tie : Bool)
  /-- BICONFLICT (R111). A host's BIConflict is counted and answered with BIConflictAck once its outstanding request has been granted, NACKed or parked. -/
  | biconflict (port : Fin 256) (which : Nat)
  /-- SNOOP_TIMEOUT (R112). A snoop timer expires and the port agent reports fence cause 0x2 for the snoop's crew. -/
  | snoopTimeout (port : Fin 256) (which : Nat)
  /-- DATA_TO_REQUESTER (R99). Data or a grant reaches the requester's port agent and is sent to the host, closing its outstanding entry. -/
  | dataToRequester (port : Fin 256)
  /-- FENCE_CAUSE (R115). The fault collector takes a fence cause, sets the crew Fencing, holds its skeins and multicasts a fence notice. -/
  | fenceCause (which : Nat) (other : Option Nat)
  /-- FENCE_NOTICE_AT_PORT_AGENT (R115). A port agent takes a fence notice, signals viral, ends the crew's outstanding requests and cancels its snoop timers. -/
  | fenceNoticeAtPortAgent (port : Fin 256)
  /-- FENCE_NOTICE_AT_SLICE (R115). A slice takes a fence notice, drops the crew's parked requests and open transactions and joins the purge walk. -/
  | fenceNoticeAtSlice (slice : Fin 64)
  /-- PURGE_SLOT (R88). The purge walk takes one lookup slot of a pipeline and frees the ways of fenced crews in one set. -/
  | purgeSlot (slice : Fin 64) (pipe : Fin 2) (dt : Nat) (ecc : List (Fin 16 × EccObs))
  /-- CREW_FENCED (R72). All 64 slices have reported the purge, so the crew becomes Fenced, its entry count is 0 and EV_CREW_FENCED is posted. -/
  | crewFenced (crew : Fin 256)
  /-- SLICE_STOP_TAKEN (R109). A port agent takes a slice's stop and holds new requests homed at that slice. -/
  | sliceStopTaken (port : Fin 256) (slice : Fin 64)
  /-- SCAN_SLOT (R118). A SCAN walk takes one lookup slot and counts or evicts the selected entries of one set. -/
  | scanSlot (slice : Fin 64) (pipe : Fin 2) (dt : Nat) (ecc : List (Fin 16 × EccObs))
  /-- SCAN_COMPLETE (R350). The SCAN walk ends and its result word is written. -/
  | scanComplete 
  /-- CORE_MESSAGE_PLACE (R128). An input places a whole message into the open stripe of its flow, opening or closing stripes as needed. -/
  | coreMessagePlace (input : Fin 322)
  /-- STRIPE_TIMEOUT (R129). A stripe timer reaches STRIPE_TMO and the stripe closes. -/
  | stripeTimeout (input : Fin 322) (which : Nat) (tie : Bool)
  /-- STRIPE_START (R134). An input starts its oldest closed stripe whose grants are present in all 16 planes. -/
  | stripeStart (input : Fin 322)
  /-- PLANE_ITEM_TAKE (R136). A plane takes a cell, feather or list cell, stores it, returns the credit and notices the outputs. -/
  | planeItemTake (plane : Fin 16) (input : Fin 322) (obs : TagObs) (tie : Bool)
  /-- OUTPUT_SELECT (R137). An output with room selects the complete expected stripe of a flow and advances its expected SSN. -/
  | outputSelect (output : Fin 320) (room : BitVec 8)
  /-- OUTPUT_CELL_READ (R137). An output reads a cell at a read position and releases a stripe's messages when its last data cell is read. -/
  | outputCellRead (output : Fin 320) (plane : Fin 16) (obs : CellObs)
  /-- REASSEMBLY_TIMEOUT (R138). A reassembly timer expires, the stripe is counted lost and its flow skips past it. -/
  | reassemblyTimeout (output : Fin 320) (src : Fin 322) (cls : Fin 8)
  /-- TM_RELEASE (R164). A traffic manager island cycle refills the shapers and releases at most one message per memory port by tier. -/
  | tmRelease (port : Fin 256) (dt : Nat) (blocked : List (Fin 64)) (obs : Option TmObs)
  /-- RED_AGE_EXPIRY (R164). A red head has waited RED_AGE and is no longer treated as red. -/
  | redAgeExpiry (port : Fin 256) (queue : Fin 64)
  /-- QUEUE_SAMPLE (R172). A queue is sampled once per period and its depth and head delay go into histogram bins. -/
  | queueSample (queue : Fin 16384) (delay : Nat) (start : Bool)
  /-- HISTOGRAM_CLEAR_ALL (R171). TM_CTL.CLR_ALL clears every histogram bin. -/
  | histogramClearAll (who : Requester) (value : BitVec 32)
  /-- FABRIC_PACKET_FORWARD (R182). A packet for another switch is forwarded toward its destination, or discarded with a fence request for coherent classes. -/
  | fabricPacketForward (port : Fin 256)
  /-- FABRIC_ADMISSION (R187). A KIND 0x0 packet reaching its home fabric port is admitted against the active copy or refused with poison or Cmp. -/
  | fabricAdmission (port : Fin 256) (tie : Bool)
  /-- FABRIC_TO_AGENT (R191). A KIND 0x1 packet reaching the agent switch is delivered through the core to the host port that the FEID map names. -/
  | fabricToAgent (port : Fin 256)
  /-- FENCE_REQUEST_RECEIVED (R183). A home takes a fence request and fences crew HCREW with FCAUSE 0x3. -/
  | fenceRequestReceived 
  /-- FENCE_BYPASS_RELAY (R207). A fence notice or request on the bypass channel is handed to the fault collector or relayed toward DSWID. -/
  | fenceBypassRelay (port : Fin 256)
  /-- REMOTE_FENCE_NOTICE (R192). A member switch takes a fence notice for a remote crew and sets FENCED in matching remote entries. -/
  | remoteFenceNotice (port : Fin 256)
  /-- LINK_LOSS_NOTICE (R193). A link-loss notice is acted on and relayed or discarded, fencing crews with touched paths. -/
  | linkLossNotice (port : Fin 256)
  /-- FLIT_RECEIVED (R209). A Lafoush flit is decoded and checked, and accepted, discarded or NAKed, and its link control acted on. -/
  | flitReceived (port : Fin 256) (lanes : List (List (Fin 4))) (packets : List Msg)
  /-- FLIT_TRANSMIT (R208). The transmitter assembles and sends one flit with slots, bypass slot and fresh link control. -/
  | flitTransmit (port : Fin 256)
  /-- REPLAY_START (R211). At a flit boundary after a NAK the transmitter advances RGEN and resends unacknowledged flits. -/
  | replayStart (port : Fin 256)
  /-- REPLAY_TIMEOUT (R211). ACKSEQ has not advanced for RPL_TMO, so a replay from U starts. -/
  | replayTimeout (port : Fin 256) (tie : Bool)
  /-- CREDIT_TIMEOUT (R215). A channel's credit timer reaches LFL_CRD_TMO and the link goes down with cause 0x5. -/
  | creditTimeout (port : Fin 256) (vc : Fin 6) (tie : Bool)
  /-- LTB_RECEIVED (R216). A lane training block is received and its fields advance the bring-up guards and equaliser requests. -/
  | ltbReceived (lane : Fin 576) (block : BitVec 320) (skewOk : Bool)
  /-- INIT_RECEIVED (R217). A far Init message in Credit init leads to Active with credits granted, or to Down hold with cause 0x8. -/
  | initReceived (port : Fin 256) (m : InitMsg) (grants : List (Fin 4096))
  /-- TRAINING_TIMEOUT (R218). A bring-up state exceeds its time limit and the port goes to Down hold with cause 0x7. -/
  | trainingTimeout (port : Fin 256) (tie : Bool)
  /-- LFL_DOWN_HOLD_EXPIRY (R217). 1 ms of Down hold has elapsed and a started fabric port returns to Detect. -/
  | lflDownHoldExpiry (port : Fin 256)
  /-- LINK_DOWN (R220). A fabric port takes a link-down cause, idles its transmitter, discards buffers and starts the fabric actions. -/
  | linkDown (port : Fin 256) (causes : List (Fin 10))
  /-- STEERING_OUT (R288). An OUT message moves lane LANE onto the spare at flit TSEQ in the sender's direction. -/
  | steeringOut (port : Fin 256)
  /-- STEERING_BACK (R288). A BACK message returns lane LANE to its own lane at flit TSEQ. -/
  | steeringBack (port : Fin 256)
  /-- STEERING_MEAS (R288). A MEAS message delivers the far end's margins for the visited lane. -/
  | steeringMeas (port : Fin 256)
  /-- STEERING_RETIRE (R291). A RETIRE message keeps lane LANE on the spare in both directions and ends the heat. -/
  | steeringRetire (port : Fin 256)
  /-- STEERING_REFUSE (R292). A REFUSE message makes the initiator steer the lane back and end the heat with result 0x3. -/
  | steeringRefuse (port : Fin 256)
  /-- HEAT_GO (R297). A write of LFL_HT_CTL.GO starts a heat over the lanes of LMASK. -/
  | heatGo (who : Requester) (half : Fin 128) (lead : Fin 1024) (mask : Fin 256)
  /-- HEAT_ABORT (R292). A write of LFL_HT_CTL.ABORT ends the heat after the present lane's visit. -/
  | heatAbort (who : Requester) (half : Fin 128) (lead : Fin 1024) (mask : Fin 256)
  /-- HEAT_STEP_DONE (R290). A heat visit step finishes on the freed lane and the next step begins, or the lane is judged. -/
  | heatStepDone (port : Fin 256) (ok : Bool) (h : BitVec 8) (w : Fin 65)
  /-- MIRROR_READY (R287). 100 µs after a mirror change the spare may carry traffic. -/
  | mirrorReady (port : Fin 256)
  /-- CLEAR_RETIREMENT (R286). LFL_SP_CTL.CLR_RET clears a recorded retirement. -/
  | clearRetirement (who : Requester) (octet : Fin 64) (own : Fin 4)
  /-- MARGIN_SCAN (R282). LN_SS_CTL.GO starts a shadow-sampler margin scan of a running lane. -/
  | marginScan (who : Requester) (lane : Fin 576) (dwell : Fin 8)
  /-- MARGIN_SCAN_DONE (R281). A margin scan completes and LN_SS_EYE holds its results. -/
  | marginScanDone (lane : Fin 576) (h0 h1 h2 : BitVec 8) (w0 w1 w2 : Fin 65)
  /-- LANE_MARGINING_COMMAND (R284). A PCIe lane margining command is served on the shadow sampler, abandoning any scan. -/
  | laneMarginingCommand (lane : Fin 576) (write : Option (BitVec 32))
  /-- LOS_ASSERT (R264). The analog detector asserts loss of signal and the lane acts by its state. -/
  | losAssert (lane : Fin 576)
  /-- LOS_RELEASE (R264). The amplitude has stayed above 1.5 × LOS_TH for the 1 µs window and LOS deasserts. -/
  | losRelease (lane : Fin 576)
  /-- LOL_ASSERT (R263). A lock window finds the recovered clock out of range and loss of lock asserts. -/
  | lolAssert (lane : Fin 576)
  /-- LOCK_ASSERT (R263). Two consecutive windows within range assert clock-recovery lock. -/
  | lockAssert (lane : Fin 576)
  /-- EQ_CANDIDATE_EVAL (R261). A candidate's EVAL time ends and the receiver requests the next or best setting. -/
  | eqCandidateEval (lane : Fin 576) (area : Nat) (pre : Fin 13) (post : Fin 17)
  /-- TX_EQ_TIME_LIMIT (R261). After 6 ms of TX EQ the receiver ends with the best candidate so far. -/
  | txEqTimeLimit (lane : Fin 576)
  /-- EQ_PHASE_LIMIT (R258). After 20 ms of a PCIe equalisation phase the receiver ends it with its best candidate. -/
  | eqPhaseLimit (lane : Fin 576)
  /-- CHECKER_LOCK (R270). The pattern checker sees 128 good bits, sets CHK_LOCK and starts counting. -/
  | checkerLock (lane : Fin 576)
  /-- CHECKER_LOCK_LOSS (R270). 64 errors within 1,024 bits make the checker drop lock and reseed. -/
  | checkerLockLoss (lane : Fin 576) (bits errors : Nat)
  /-- FAR_END_RECENTER (R269). The far-end loop buffer recentres by 32 unit intervals and counts a slip. -/
  | farEndRecenter (lane : Fin 576)
  /-- L0_REACHED (R236). A training CXL or PCIe port reaches L0 and moves to Enumerating, Active or Down hold by its guards. -/
  | l0Reached (port : Fin 256) (rate : Fin 6) (width : Fin 5) (mem flit256 lopt flit68 rev : Bool) (lanes : List LaneTrained)
  /-- PCIE_TRAINING_LIMIT (R239). Training has not reached L0 within 2 s and the port goes to Down hold with cause 0x5. -/
  | pcieTrainingLimit (port : Fin 256) (tie : Bool)
  /-- PORT_LINK_DOWN (R236). A CXL or PCIe link goes down; the cause is recorded, the outstanding table swept and EV_PORT_DOWN posted. -/
  | portLinkDown (port : Fin 256) (farReset : Bool)
  /-- PORT_DOWN_HOLD_EXPIRY (R236). 1 ms of Down hold has elapsed and the port returns to Training. -/
  | portDownHoldExpiry (port : Fin 256)
  /-- ENUM_RESPONSE (R245). A configuration or mailbox response advances the memory device enumeration sequence to its next step, completion or failure. -/
  | enumResponse (port : Fin 256) (r : EnumResp) (tie : Bool)
  /-- ENUM_TIMEOUT (R245). An enumeration request reaches its 50 ms timeout and enumeration fails with ENUM_ERR 0x7. -/
  | enumTimeout (port : Fin 256)
  /-- MEMORY_RESPONSE (R99). A response from a memory device is passed to its requester, with a completion notice to the home slice for slice-issued reads and writes. -/
  | memoryResponse (port : Fin 256) (resp : DevResp) (which : Nat) (tie : Bool)
  /-- MEMORY_COMPLETION_TIMEOUT (R247). A CXL.mem request to a memory device reaches PRT_MTMO and is ended with poison, Cmp, a fence cause or a scrub error. -/
  | memoryCompletionTimeout (port : Fin 256) (which : Nat)
  /-- VIRAL_FROM_HOST (R240). Viral signalled by a host is counted in VIRAL_RX and reported to the fault collector. -/
  | viralFromHost (port : Fin 256)
  /-- VIRAL_FROM_MEMORY_DEVICE (R240). Viral from a memory device takes that port's link down with cause 0x4. -/
  | viralFromMemoryDevice (port : Fin 256)
  /-- PME_TURN_OFF (R231). A host's PME_Turn_Off is acknowledged with PME_TO_Ack and the link stays in L0. -/
  | pmeTurnOff (port : Fin 256)
  /-- L0P_REQUEST (R231). A far end's L0p width change request is consented to when L0P_EN is set and refused otherwise. -/
  | l0pRequest (port : Fin 256) (width : Fin 5)
  /-- VPPB_SECONDARY_BUS_RESET (R249). A secondary bus reset of a vPPB is sent to the bound device as a hot reset. -/
  | vppbSecondaryBusReset (hport : Fin 256) (vppb : Fin 16)
  /-- DEVICE_TLP (R249). A TLP from a bound device is sent to its host port, whatever its address. -/
  | deviceTlp (port : Fin 256) (posted : Bool) (payload : Fin 257)
  /-- DEVICE_CONFIG_WRITE (R249). A configuration write to a bound device is forwarded with Cache_Enable and Mem_Enable forced to 0. -/
  | deviceConfigWrite (port : Fin 256) (addr : Fin 4096) (dvsecControl : Bool) (value : Word)
  /-- SET_ENDPOINT_ID (R250). An MCTP Set Endpoint ID assigns the device's endpoint ID. -/
  | setEndpointId (eid : Fin 256)
  /-- IDENTIFY_SWITCH_DEVICE (R250). The fabric manager command returns port counts and vPPBs. -/
  | identifySwitchDevice (tag : Fin 256)
  /-- GET_PHYSICAL_PORT_STATE (R250). The fabric manager command returns PRT_CTL and PRT_STS. -/
  | getPhysicalPortState (tag port : Fin 256)
  /-- PHYSICAL_PORT_CONTROL (R250). The fabric manager command resets a port's link through STOPF and STARTF. -/
  | physicalPortControl (tag : Fin 256) (port : Fin 256)
  /-- SEND_PPB_CXL_IO_CONFIG_REQUEST (R250). The fabric manager command sends a configuration request to a stopped memory or device port with LUP 1. -/
  | sendPpbCxlIoConfigRequest (tag port : Fin 256) (addr : Fin 4096) (write : Option Word) (returned : BitVec 32)
  /-- GET_VIRTUAL_CXL_SWITCH_INFO (R250). The fabric manager command returns the virtual switch view. -/
  | getVirtualCxlSwitchInfo (tag hport : Fin 256)
  /-- BIND_VPPB (R250). The fabric manager command binds a device port to a vPPB through PRT_BIND. -/
  | bindVppb (tag port hport : Fin 256) (vppb : Fin 16)
  /-- UNBIND_VPPB (R250). The fabric manager command unbinds a device port from a vPPB. -/
  | unbindVppb (tag port : Fin 256)
  /-- GET_DCD_INFO (R250). The fabric manager command returns dynamic capacity device information. -/
  | getDcdInfo (tag : Fin 256)
  /-- GET_HOST_DC_REGION_CONFIGURATION (R250). The fabric manager command returns a host's dynamic capacity region configuration. -/
  | getHostDcRegionConfiguration (tag hport : Fin 256)
  /-- GET_DC_REGION_EXTENT_LISTS (R250). The fabric manager command returns the extent lists of a region. -/
  | getDcRegionExtentLists (tag hport : Fin 256)
  /-- INITIATE_DYNAMIC_CAPACITY_ADD (R250). The fabric manager command runs a cast-on. -/
  | initiateDynamicCapacityAdd (tag hport : Fin 256) (skein : Fin 65536) (w0 w1 : Word) (index : Fin 256) (base : BitVec 18)
  /-- INITIATE_DYNAMIC_CAPACITY_RELEASE (R250). The fabric manager command runs a bind-off. -/
  | initiateDynamicCapacityRelease (tag hport : Fin 256) (skein : Fin 65536)
  /-- UNSUPPORTED_FM_COMMAND (R250). Any other fabric manager command returns Unsupported. -/
  | unsupportedFmCommand (tag : Fin 256)
  /-- SEAT_START (R327). ICF_SEAT_CMD start makes a seat Ready at PC. -/
  | seatStart (who : Requester) (seat : Fin 16) (pc : Fin 65536)
  /-- SEAT_STOP (R327). ICF_SEAT_CMD stop moves a seat other than 0 to Idle and clears its registers. -/
  | seatStop (who : Requester) (seat : Fin 16)
  /-- INTRAP_CLEAR (R314). Seat 0 writes 1 to its INTRAP to leave its trap handler. -/
  | intrapClear 
  /-- IMAGE_LOAD (R312). ICF_LOAD_CTL.GO starts the loader reading, hashing and writing an image from the scratchpad. -/
  | imageLoad (who : Requester) (user : Bool) (src : Fin 512) (dst : Fin 128)
  /-- IMAGE_LOAD_DONE (R312). The loader finishes, reports RESULT, zero-fills on failure and posts EV_LOAD_DONE. -/
  | imageLoadDone (ue : Bool)
  /-- EVENT_HANDOFF (R317). At the start of an engine cycle the first eligible event record is handed to one waiting seat. -/
  | eventHandoff (ce ue : Bool)
  /-- WAITEV_TIMEOUT (R317). A WAITEV timeout expires and the seat receives the record of code 0x00. -/
  | waitevTimeout (seat : Fin 16) (tie : Bool)
  /-- STOPF_COMPLETE (R321). A function's drain ends, the function becomes Stopped and the waiting STOPF writes its result. -/
  | stopfComplete (fid : Fin 65536) (npOpen : Bool)
  /-- ADD (R337). rd = rs1 + rs2 modulo 2^64. -/
  | add (d : Disp)
  /-- SUB (R337). rd = rs1 − rs2 modulo 2^64. -/
  | sub (d : Disp)
  /-- AND (R337). rd = rs1 and rs2. -/
  | and_ (d : Disp)
  /-- OR (R337). rd = rs1 or rs2. -/
  | or_ (d : Disp)
  /-- XOR (R337). rd = rs1 xor rs2. -/
  | xor_ (d : Disp)
  /-- ANDN (R337). rd = rs1 and not rs2. -/
  | andn (d : Disp)
  /-- SLL (R337). rd = rs1 shifted left by rs2[5:0]. -/
  | sll (d : Disp)
  /-- SRL (R337). rd = rs1 shifted right logically by rs2[5:0]. -/
  | srl (d : Disp)
  /-- SRA (R337). rd = rs1 shifted right arithmetically by rs2[5:0]. -/
  | sra (d : Disp)
  /-- SLT (R337). rd = 1 if rs1 < rs2 signed, else 0. -/
  | slt (d : Disp)
  /-- SLTU (R337). rd = 1 if rs1 < rs2 unsigned, else 0. -/
  | sltu (d : Disp)
  /-- MUL (R337). rd = low 64 bits of the product. -/
  | mul (d : Disp)
  /-- MULH (R337). rd = high 64 bits of the signed product. -/
  | mulh (d : Disp)
  /-- DIV (R338). rd = signed quotient, with defined results for zero divisor and overflow. -/
  | div (d : Disp)
  /-- DIVU (R338). rd = unsigned quotient, all ones and DZ set on a zero divisor. -/
  | divu (d : Disp)
  /-- REM (R338). rd = signed remainder, rs1 and DZ set on a zero divisor. -/
  | rem (d : Disp)
  /-- CLZ (R337). rd = leading zero bits of rs1. -/
  | clz (d : Disp)
  /-- CTZ (R337). rd = trailing zero bits of rs1. -/
  | ctz (d : Disp)
  /-- POPC (R337). rd = number of bits set in rs1. -/
  | popc (d : Disp)
  /-- BSWAP (R337). rd = rs1 with byte order reversed. -/
  | bswap (d : Disp)
  /-- EXT (R337). rd = zero-extended field of rs1. -/
  | ext (d : Disp)
  /-- EXTS (R337). rd = sign-extended field of rs1. -/
  | exts (d : Disp)
  /-- INS (R337). Inserts the low bits of rs1 into a field of rd. -/
  | ins (d : Disp)
  /-- MFSR (R335). rd = the special register named by IMM. -/
  | mfsr (d : Disp)
  /-- MTSR (R336). Clears the STATUS sticky bits set in rs1. -/
  | mtsr (d : Disp)
  /-- ADDI (R339). rd = rs1 + sign-extended imm. -/
  | addi (d : Disp)
  /-- ANDI (R339). rd = rs1 and zero-extended imm. -/
  | andi (d : Disp)
  /-- ORI (R339). rd = rs1 or zero-extended imm. -/
  | ori (d : Disp)
  /-- XORI (R339). rd = rs1 xor zero-extended imm. -/
  | xori (d : Disp)
  /-- SLLI (R339). rd = rs1 shifted left by imm. -/
  | slli (d : Disp)
  /-- SRLI (R339). rd = rs1 shifted right logically by imm. -/
  | srli (d : Disp)
  /-- SRAI (R339). rd = rs1 shifted right arithmetically by imm. -/
  | srai (d : Disp)
  /-- SLTI (R339). rd = 1 if rs1 < sign-extended imm, signed. -/
  | slti (d : Disp)
  /-- SLTIU (R339). rd = 1 if rs1 < zero-extended imm, unsigned. -/
  | sltiu (d : Disp)
  /-- LI (R339). rd = zero-extended imm. -/
  | li (d : Disp)
  /-- LIH (R339). rd[63:32] = imm, keeping rd[31:0]. -/
  | lih (d : Disp)
  /-- BEQ (R340). Branches when rs1 = rs2. -/
  | beq (d : Disp)
  /-- BNE (R340). Branches when rs1 ≠ rs2. -/
  | bne (d : Disp)
  /-- BLT (R340). Branches when rs1 < rs2 signed. -/
  | blt (d : Disp)
  /-- BGE (R340). Branches when rs1 ≥ rs2 signed. -/
  | bge (d : Disp)
  /-- BLTU (R340). Branches when rs1 < rs2 unsigned. -/
  | bltu (d : Disp)
  /-- BGEU (R340). Branches when rs1 ≥ rs2 unsigned. -/
  | bgeu (d : Disp)
  /-- BBS (R340). Branches when the named bit of rs1 is 1. -/
  | bbs (d : Disp)
  /-- BBC (R340). Branches when the named bit of rs1 is 0. -/
  | bbc (d : Disp)
  /-- JAL (R340). rd = pc + 8 and jumps to pc + imm. -/
  | jal (d : Disp)
  /-- JALR (R340). rd = pc + 8 and jumps to rs1 + imm. -/
  | jalr (d : Disp)
  /-- LD8 (R342). Loads a zero-extended byte from the scratchpad. -/
  | ld8 (d : Disp)
  /-- LD16 (R342). Loads zero-extended 16 bits from the scratchpad. -/
  | ld16 (d : Disp)
  /-- LD32 (R342). Loads zero-extended 32 bits from the scratchpad. -/
  | ld32 (d : Disp)
  /-- LD64 (R342). Loads 64 bits from the scratchpad. -/
  | ld64 (d : Disp)
  /-- ST8 (R342). Stores a byte to the scratchpad. -/
  | st8 (d : Disp)
  /-- ST16 (R342). Stores 16 bits to the scratchpad. -/
  | st16 (d : Disp)
  /-- ST32 (R342). Stores 32 bits to the scratchpad. -/
  | st32 (d : Disp)
  /-- ST64 (R342). Stores 64 bits to the scratchpad. -/
  | st64 (d : Disp)
  /-- LDP (R342). Loads 16 aligned bytes into an even register pair. -/
  | ldp (d : Disp)
  /-- STP (R342). Stores an even register pair to 16 aligned bytes. -/
  | stp (d : Disp)
  /-- CAS (R343). Atomically compares a scratchpad word with rs3 and stores rs2 on a match, returning the old value. -/
  | cas (d : Disp)
  /-- FADD (R343). Atomically adds rs2 to a scratchpad word, returning the old value. -/
  | fadd (d : Disp)
  /-- FRD32 (R344). Reads a 32-bit management-space register after the seat's earlier writes have completed. -/
  | frd32 (d : Disp)
  /-- FRD64 (R344). Reads a 64-bit management-space register whole. -/
  | frd64 (d : Disp)
  /-- FWR32 (R345). Posts a 32-bit write to the management space. -/
  | fwr32 (d : Disp)
  /-- FWR64 (R345). Posts a 64-bit write to the management space. -/
  | fwr64 (d : Disp)
  /-- STOPF (R321). Stops a function, taking ownership, and waits for its drain. -/
  | stopf (d : Disp)
  /-- STARTF (R321). Checks a stopped function's settings together and resumes it, or returns an error code. -/
  | startf (d : Disp) (tie : Bool)
  /-- EPOCH (R347). Starts a rule epoch change on a host or fabric port and waits for it. -/
  | epoch (d : Disp)
  /-- FENCE (R348). Gives the fault collector fence cause 0x6 for a crew. -/
  | fence (d : Disp)
  /-- SCAN_COUNT (R349). Starts a directory walk that counts a crew's or skein's selected entries. -/
  | scanCount (d : Disp)
  /-- SCAN_FLUSH (R349). Starts a directory walk that evicts a crew's or skein's selected entries. -/
  | scanFlush (d : Disp)
  /-- HEAT_START_CMD (R351). HEAT with IMM[0] 0 writes LMASK and starts a heat on a fabric port. -/
  | heatStartCmd (d : Disp)
  /-- HEAT_ABORT_CMD (R351). HEAT with IMM[0] 1 aborts the heat on a fabric port. -/
  | heatAbortCmd (d : Disp)
  /-- BAY_ENABLE (R455). BAYCMD ENABLE turns feed X on and moves a Present or Off bay to Cooling or Ramping. -/
  | bayEnable (d : Disp)
  /-- BAY_OFF (R455). BAYCMD OFF turns the bay's feeds off and moves it to Off. -/
  | bayOff (d : Disp)
  /-- BAY_CLEAR (R455). BAYCMD CLEAR resets the retry count of a Tripped bay or clears a Damaged bay after a trial. -/
  | bayClear (d : Disp) (clean : Bool)
  /-- BAY_INDICATE (R462). BAYCMD INDICATE sets the bay's ATTN and LOCATE lights. -/
  | bayIndicate (d : Disp)
  /-- BAY_AUX_ON (R455). BAYCMD AUX_ON powers the 3.3 V auxiliary feed only. -/
  | bayAuxOn (d : Disp)
  /-- DMA (R353). Hands a descriptor to a DMA engine, which checks it and starts the transfer or returns a code. -/
  | dma (d : Disp)
  /-- DMA_DONE (R355). A DMA engine completes or stops and posts EV_DMA_DONE with its status. -/
  | dmaDone (engine : Fin 4) (obs : DmaObs)
  /-- WAITEV (R357). Makes the seat wait for an event record of the named groups, with an optional timeout. -/
  | waitev (d : Disp)
  /-- POSTEV (R357). Posts a record with code 0x70–0x7F into the engine event queue. -/
  | postev (d : Disp)
  /-- FSYNC (R358). Waits until every earlier write of the seat has completed. -/
  | fsync (d : Disp)
  /-- YIELD (R358). Makes the seat not Ready until the cox has passed it over once. -/
  | yield (d : Disp)
  /-- HALT (R358). Moves the seat to Halted. -/
  | halt (d : Disp)
  /-- TRAP (R358). Traps the seat with cause 0x7. -/
  | trap (d : Disp)
  /-- SECURE_REGION_LOCK (R365). A privileged write sets SPD_SEC_LOCK, locking the secure region against every other requester. -/
  | secureRegionLock (who : Requester)
  /-- TAMPER_ASSERT (R366). A qualified tamper assertion starts or restarts a wipe of the secure region and is reported. -/
  | tamperAssert (input : Fin 2)
  /-- WIPE_COMPLETE (R366). A secure-region wipe finishes and waiting accesses are served. -/
  | wipeComplete (released : List (Fin 2))
  /-- FIFO_POINTER_RESET (R374). A pointer mismatch or record parity error resets a duplicated-pointer FIFO to empty and is reported. -/
  | fifoPointerReset (fifo : FifoId)
  /-- DRAIN_TRACKER_RESTART (R375). After a tracker reset the port's outstanding table empties, the tracker restarts and held requests are released. -/
  | drainTrackerRestart (port : Fin 256)
  /-- DEBUG_ACCESS (R367). A debug port access is checked by protection unit 6 and the lifecycle and performed or refused. -/
  | debugAccess (addr : Fin 67108864) (wide : Bool) (write : Option Word) (lost session : Bool) (obs : WriteObs)
  /-- NOC_TIMEOUT (R393). A NoC request reaches NOC_CTL.TMO without a response and ends with all ones, a lost write or an internal error. -/
  | nocTimeout (index : Nat)
  /-- BRIDGE_DOWN (R385). After 16 bad transfers a bridge goes down, discards its packets, reports and retrains. -/
  | bridgeDown (bridge : Fin 18)
  /-- BRIDGE_UP (R385). A retrained bridge carries packets again. -/
  | bridgeUp (bridge : Fin 18)
  /-- ALERT_AT_ROOT (R396). The rail root takes an alert and broadcasts it once every named NI has room. -/
  | alertAtRoot 
  /-- ALERT_DELIVERY (R397). An alert reaches a rail NI's receive queue and is handed on. -/
  | alertDelivery (node : Fin 238)
  /-- BAR0_REQUEST (R408). A BAR0 request from the manager host becomes one management-space access, or is refused. -/
  | bar0Request (port : Fin 256) (r : BarReq) (lost : Bool) (obs : WriteObs)
  /-- BAR2_REQUEST (R409). A BAR2 request reaches a tenant mailbox page or the MSI-X table and PBA. -/
  | bar2Request (port : Fin 256) (r : BarReq)
  /-- INITIATE_FLR (R414). An Initiate Function Level Reset write starts the FLR of the HSF, stopping new TLPs and its DMA engines. -/
  | initiateFlr (port : Fin 256) (moved : List Nat)
  /-- FLR_TX_CUTOFF (R414). 10 µs after FLR start, HSF TLPs still unsent are discarded. -/
  | flrTxCutoff (port : Fin 256) (sent : Nat)
  /-- FLR_ACK (R420). HSF_CMD.FLR_ACK ends the FLR and resets the FLR domain. -/
  | flrAck (who : Requester) (port : Fin 256)
  /-- FLR_TIMEOUT (R414). 20 ms after FLR start without an acknowledgement, the FLR domain is reset and FLR_TMO is set. -/
  | flrTimeout (port : Fin 256) (tie : Bool)
  /-- BUS_MASTER_ENABLE_CLEAR (R415). A write clearing Bus Master Enable stops HSF requests, discards completions and pauses the engines. -/
  | busMasterEnableClear (port : Fin 256) (moved : List Nat)
  /-- DMA_RESUME (R416). HSF_CMD.DMA_RESUME ends the pause of engines paused for this HSF. -/
  | dmaResume (who : Requester) (port : Fin 256)
  /-- HSF_IRQ (R411). HSF_CMD.IRQ raises an MSI-X vector, sending it or setting its PBA bit. -/
  | hsfIrq (who : Requester) (port : Fin 256) (vec : Fin 64)
  /-- MSIX_PENDING_SEND (R411). Once every condition holds, a pending vector's message is sent and its PBA bit cleared. -/
  | msixPendingSend (port : Fin 256) (vec : Fin 64)
  /-- D3HOT_ENTRY (R404). The HSF enters D3hot and BAR requests complete with Unsupported Request. -/
  | d3hotEntry (port : Fin 256) (moved : List Nat)
  /-- DMA_COMPLETION_TIMEOUT (R413). An HSF DMA read reaches its completion timeout and the engine ends with status 0x03. -/
  | dmaCompletionTimeout (engine : Fin 4)
  /-- SLICE_CREATE (R429). SLC_CMD create claims meters, page and counters and moves a Free slice to Stopped. -/
  | sliceCreate (who : Requester) (slice : Fin 1024)
  /-- SLICE_DELETE (R432). SLC_CMD delete releases a Stopped slice that no active map names. -/
  | sliceDelete (who : Requester) (slice : Fin 1024)
  /-- DOORBELL (R435). A doorbell write sets the mailbox Busy and posts EV_SLC_DOORBELL, or sets PEND or DB_LOST. -/
  | doorbell (slice : Fin 1024) (tag : Fin 65536)
  /-- COMMAND_AREA_WRITE (R433). A tenant write to the command area is stored, or dropped with WLOCK while Busy. -/
  | commandAreaWrite (slice : Fin 1024) (off : Fin 256) (bytes : List Byte)
  /-- MAILBOX_DONE (R435). SLC_MB_DONE moves the mailbox from Busy to Done and may raise the slice's vector. -/
  | mailboxDone (who : Requester) (slice : Fin 1024) (irq : Bool)
  /-- COMPARATOR_TRIP (R446). A short comparator pulls a feed's gate low and latches it without the controller. -/
  | comparatorTrip (bay : Fin 32) (feed : Fin 3)
  /-- COMPARATOR_TRIP_TAKEN (R448). On its next tick the controller takes a latched comparator as a trip. -/
  | comparatorTripTaken (bay : Fin 32) (tie : Bool)
  /-- FAULT_TIMER_EXPIRY (R447). A bay fault timer reaches TFLT and the bay trips with cause 0x4. -/
  | faultTimerExpiry (bay : Fin 32) (feedX tie : Bool) (o : BayObs)
  /-- OVER_TEMPERATURE_TRIP (R446). A FET estimate reaches TMAX and the bay trips with cause 0x5. -/
  | overTemperatureTrip (bay : Fin 32) (o : BayObs) (tie : Bool)
  /-- FALLBACK_LIMIT_TRIP (R445). A feed without a valid estimate exceeds a fallback limit and trips with cause 0x6. -/
  | fallbackLimitTrip (bay : Fin 32) (o : BayObs) (tie : Bool)
  /-- ESTIMATE_SOURCE_CHANGE (R445). A feed's estimate source changes and EV_BAY is posted and reported. -/
  | estimateSourceChange (bay : Fin 32) (o : BayObs)
  /-- RAMP_TIMEOUT (R449). A bay not On 200 ms after its ramp began trips with cause 0x7. -/
  | rampTimeout (bay : Fin 32) (tie : Bool)
  /-- RAMP_HOLD (R449). An estimate at TRAMP stops the controller raising the gates. -/
  | rampHold (bay : Fin 32) (o : BayObs)
  /-- RAMP_RESUME (R449). Every estimate falls to TRAMP − 5 °C and the ramp resumes. -/
  | rampResume (bay : Fin 32) (o : BayObs)
  /-- POWER_GOOD (R450). BAY_VO has stayed in the window for 2 ms with the fault timer idle, so power-good asserts and the bay is On. -/
  | powerGood (bay : Fin 32) (vo : Fin 65536) (timerStarts : Bool)
  /-- HOLD_OFF_EXPIRY (R454). BAY_HOLD reaches 0 and a Tripped bay moves to Cooling or to Off. -/
  | holdOffExpiry (bay : Fin 32)
  /-- RAMP_BEGIN (R454). A Cooling bay whose hold-off has ended and whose feeds have cooled begins its ramp. -/
  | rampBegin (bay : Fin 32) (o : BayObs)
  /-- ON_RETRY_RESET (R454). After 10 s in On the retry count returns to 0. -/
  | onRetryReset (bay : Fin 32)
  /-- PRESENCE_QUALIFIED (R454). PRSNT_N has been low for 64 ms and an Empty bay becomes Present. -/
  | presenceQualified (bay : Fin 32)
  /-- PRESENCE_LOST (R454). PRSNT_N high on two ticks turns every gate off and makes the bay Empty. -/
  | presenceLost (bay : Fin 32) (tie : Bool)
  /-- ATTN_PRESS (R463). ATTN_N qualified as pressed posts EV_BAY. -/
  | attnPress (bay : Fin 32)
  /-- ATTN_RELEASE (R463). ATTN_N qualified as released. -/
  | attnRelease (bay : Fin 32)
  /-- ATTN_LONG_PRESS (R454). ATTN_N held low for 5 s with LPOFF set turns the bay Off. -/
  | attnLongPress (bay : Fin 32)
  /-- INPUT_LOSS (R452). A 12 V input below VIN_MIN for 1 ms turns its feed off and sets SINGLE, or trips the bay when both are lost. -/
  | inputLoss (bay : Fin 32) (feed : Fin 2) (tie : Bool)
  /-- INPUT_RETURN (R452). A lost input has stayed good for 10 ms and its feed ramps back in. -/
  | inputReturn (bay : Fin 32) (feed : Fin 2)
  /-- SHARE_ERROR (R451). A feed outside 35–65 % of the total for 100 ms sets SHARE and is reported. -/
  | shareError (bay : Fin 32)
  /-- SHARE_CLEAR (R451). After 100 ms within 40–60 % SHARE clears. -/
  | shareClear (bay : Fin 32)
  /-- DAMAGE_FOUND (R453). A FET found conducting when off, or not gating on, moves the bay to Damaged. -/
  | damageFound (bay : Fin 32) (fet : Fin 3)
  /-- INDICATOR_SHIFT (R462). Every 1 ms the controller shifts the 128 light bits out and pulses IND_LOAD. -/
  | indicatorShift (slow fast : Bool)
  /-- BAY_LOCKOUT (R538). VDD_BAY or VBAY_HV falls below its level, the gates are pulled off and the controller held in reset. -/
  | bayLockout 
  /-- BAY_LOCKOUT_RELEASE (R538). The bay supplies recover and the controller starts as after power-on. -/
  | bayLockoutRelease 
  /-- FAULT_REPORT (R475). The collector takes a report, counts it in its window and fires the source's action when it reaches N. -/
  | faultReport (slot : Fin 1536) (tie : Bool)
  /-- FAULT_WINDOW_CLOSE (R475). A source window reaches its W-th tick and WCNT returns to 0. -/
  | faultWindowClose (slot : Fin 1536)
  /-- SOURCE_CLEAR (R479). A write of 1 to FLT_SRC_STS.PEND clears a source, or is refused while its cause is present. -/
  | sourceClear (who : Requester) (slot : Fin 1536)
  /-- SAFE_REQUEST (R484). FLT_CTL.SAFE_REQ enters the safe state with cause 0x4. -/
  | safeRequest (who : Requester)
  /-- PARITY_ERROR (R485). The collector finds a parity error in its registers and enters the safe state. -/
  | parityError (word : Fin 67108864)
  /-- SAFE_NOTICE_PORT (R487). A port island takes the safe notice and withholds credits or completes its outstanding requests by role. -/
  | safeNoticePort (island : Fin 64)
  /-- SAFE_NOTICE_ENGINE (R488). The engine takes the safe notice, halts seats 1–15 and sends seat 0 to the recovery loop or halts it. -/
  | safeNoticeEngine 
  /-- SAFE_NOTICE_BAY (R459). The bay controller takes the safe notice and holds each bay's power state. -/
  | safeNoticeBay 
  /-- FAULT_QUEUE_POP (R480). A privileged read of FLT_FQ_POP returns and removes the head record of the fault queue. -/
  | faultQueuePop (seat : Fin 16) (rd : Fin 32)
  /-- SAFE_QUEUE_POP (R480). A privileged read of FLT_SQ_POP returns and removes the head record of the safe-state queue. -/
  | safeQueuePop (seat : Fin 16) (rd : Fin 32)
  /-- PMC_FREEZE (R502). A write of PMC_CTL.FRZ stops or resumes counting in every source island. -/
  | pmcFreeze (who : Requester) (freeze : Bool)
  /-- PMC_FLUSH (R502). PMC_CTL.FLUSH makes every source island send its accumulators. -/
  | pmcFlush (who : Requester) (frozen : Bool)
  /-- PMC_CLEAR_ALL (R502). PMC_CTL.CLR_ALL clears every counter of the global, port and slice banks. -/
  | pmcClearAll (who : Requester) (frozen : Bool)
  /-- ACCUMULATOR_SEND (R494). A source island sends an accumulated increment at 4,096 or after 1 µs. -/
  | accumulatorSend (island : Fin 157) (stale : Bool) (obs : List CycleObs)
  /-- PMC_COUNTER_CLEAR (R501). A write to a PMC counter clears it and advances its generation. -/
  | pmcCounterClear (who : Requester) (bank : Fin 3) (i : Fin 1024) (j : Fin 8) (value : Word)
  /-- TD_SNAP (R508). DIR_TD_CTL.SNAP copies the slice's live slot totals into the snapshot registers. -/
  | tdSnap (who : Requester) (slice : Fin 64) (on : Bool)
  /-- TD_CLEAR (R508). DIR_TD_CTL.CLR sets the slice's live slot totals to 0. -/
  | tdClear (who : Requester) (slice : Fin 64) (on : Bool)
  /-- DIR_EIDX_READ (R89). DIR_EIDX.GO reads one directory entry through a lookup slot. -/
  | dirEidxRead (who : Requester) (slice : Fin 64) (set : Fin 2048) (way : Fin 16)
  /-- DIR_EIDX_DONE (R90). The indirect read completes and DIR_EDATA holds the entry. -/
  | dirEidxDone (slice : Fin 64) (dt : Nat) (ecc : List (Fin 16 × EccObs))
  /-- REFCLK_LOSS (R510). A reference misses its count, moving a core die to its alternate or holdover, or a lane die into holdover. -/
  | refclkLoss (ref : Fin 8)
  /-- REFCLK_GOOD (R510). A lost reference is within 1 % for 100 windows and is good again. -/
  | refclkGood (ref : Fin 8)
  /-- HKCLK_LOSS (R510). HKCLK is lost and the dies change to an internal 25 MHz oscillator. -/
  | hkclkLoss 
  /-- POWER_ON_RESET (R515). PWR_OK low or a supply monitor trip resets the device and runs fuse load. -/
  | powerOnReset (byMonitor : Bool)
  /-- COLD_RESET (R515). COLD_RST_N asserted resets the device as power-on does. -/
  | coldReset 
  /-- WARM_RESET (R515). WARM_RST_N asserted resets Warm-domain state, keeping bay power and the privileged image. -/
  | warmReset 
  /-- GLB_COLD_RESET_REQUEST (R514). GLB_RST_CTL OP 0b10 with the key requests a cold reset. -/
  | glbColdResetRequest (who : Requester)
  /-- GLB_WARM_RESET_REQUEST (R514). GLB_RST_CTL OP 0b01 with the key requests a warm reset. -/
  | glbWarmResetRequest (who : Requester)
  /-- FUSE_LOAD (R518). Fuse load completes, loading Fuse-domain registers, or fails and stops the device in boot. -/
  | fuseLoad (cause : Fin 5) (row : Fin 256) (keyBad : List (Fin 4)) (fwBad userBad fusePwr : Bool)
  /-- PLL_LOCK_TIMEOUT (R511). An island PLL has not locked within 1 ms of fuse load, stopping the boot or setting PLL_FAIL. -/
  | pllLockTimeout (island : Option (Fin 64))
  /-- BOOT_SEQUENCE (R520). Seat 0 runs the boot ROM, verifying and loading firmware from flash or host, and enters firmware or halts. -/
  | bootSequence (sel : Fin 4) (slotA slotB : List Byte)
  /-- BOOT_HOST_GO (R521). GLB_BOOT_HOST.GO tells the boot ROM that a host image is in place. -/
  | bootHostGo (who : Requester) (haddr : BitVec 32) (hlen : Fin 1048576) (image : Option (List Byte))
  /-- KEY_SLOT_PROGRAM (R523). FUSE_PGM OP 0x1 burns a key hash into an operator key slot. -/
  | keySlotProgram (who : Requester) (slot : Fin 4) (src : Fin 131072)
  /-- KEY_SLOT_REVOKE (R523). FUSE_PGM OP 0x2 revokes an operator key slot. -/
  | keySlotRevoke (who : Requester) (slot : Fin 4)
  /-- FW_MIN_VERSION_RAISE (R523). FUSE_PGM OP 0x3 raises the firmware minimum version by one. -/
  | fwMinVersionRaise (who : Requester)
  /-- USER_MIN_VERSION_RAISE (R523). FUSE_PGM OP 0x4 raises the user minimum version by one. -/
  | userMinVersionRaise (who : Requester)
  /-- FUSE_BURN_DONE (R523). A fuse burn and its verification finish and RESULT is written. -/
  | fuseBurnDone (verified bad : Bool)
  /-- LIFECYCLE_TRANSITION (R525). GLB_LIFECYCLE.GO checks and burns a lifecycle bit and commits, starting the secure-region wipe. -/
  | lifecycleTransition (who : Requester) (target : Fin 16) (verified : Bool)
  /-- LIFECYCLE_COMMIT_DONE (R525). The wipe after a lifecycle commit completes, so CODE and RESULT are written and the extra effect applies. -/
  | lifecycleCommitDone 
  /-- THERMAL_SAMPLE (R542). Every 1 ms the hottest sensor of each die is read and WARN is recorded. -/
  | thermalSample (readings : List (Fin 1024))
  /-- THERMTRIP (R543). A trip comparator reaches the trip limit and latches THERMTRIP_N low. -/
  | thermtrip 
  /-- RAIL_OUT_OF_TOLERANCE (R537). VDDA_LANE or VDDH_LANE leaves tolerance and the lanes lose lock without a reset. -/
  | railOutOfTolerance 
  /-- HOST_CONFIGURATION_WRITE (R403). A host configuration write reaches the emulated headers of the HSF or a vPPB. It sets Memory Space Enable, Bus Master Enable, MSI-X enable and masks, the power state, Completion Timeout Value or PASID Enable. -/
  | hostConfigurationWrite (port : Fin 256) (target : CfgTarget) (word : Fin 1024) (value : BitVec 32) (enable : Fin 16) (moved : List Nat)
  /-- DMA_READ_COMPLETION (R413). A completion for an HSF DMA read arrives from the host. It stops the read's timer, delivers data, or ends the engine with status 0x04, or it is late and logged as Unexpected Completion. -/
  | dmaReadCompletion (port : Fin 256) (target : Option (Fin 4)) (c : DmaCpl) (tie : Bool) (obs : DmaObs)
  /-- HEAT_SPARE_LOCK_TIMEOUT (R299). A heat whose spare receiver has not locked within 1 ms ends with RESULT 0x7 and posts EV_HEAT_DONE. -/
  | heatSpareLockTimeout (port : Fin 256) (tie : Bool)
  /-- MEMORY_ACTIVE_TIMEOUT (R245). The Memory_Active timeout advertised in the device's DVSEC runs out during step 3 of enumeration, which then fails with ENUM_ERR 0x6. -/
  | memoryActiveTimeout (port : Fin 256)
  /-- MANAGER_MAILBOX_COMMAND (R309). The manager submits a request to the management mailbox, and the device posts EV_MGR_CMD with the manager host port as SRC. -/
  | managerMailboxCommand (port : Fin 256)
  deriving DecidableEq, Repr

end Sys2Proof
end

