-- ==== Sys2Proof/Decode.lean ====
section
/-! DEFINITION. The command that a word spells by the bits of spec/opcode_table.json. Its rows give no bits: no word spells a
command. -/

namespace Sys2Proof

/-- The command of an instruction word numbered as the table numbers it: none, since no row has bits. -/
def decodeTableWord (_nbits _w : Nat) : Option Instr := none

end Sys2Proof
end

