-- ==== Sys2Proof/Config.lean ====
section
/-! DEFINITION. The free values of the model: what the spec leaves open. Each is a constant without a body, applied to a
counter that State keeps or to the values it depends on, so that nothing can be proved of any one of them. -/

namespace Sys2Proof.Config

/-- A number drawn by the device's random source (R106, R193), by draw. -/
opaque random : Nat → Nat

/-- The SECDED check bits of a directory entry (R78), by bits [143:0] of the entry. -/
opaque dirEcc : Nat → BitVec 9

/-- The raw bits of a word read with an uncorrectable error (R89), by draw. -/
opaque rawWord : Nat → BitVec 64

/-- The SHA-384 digest of a list of bytes (R311, R312, R520), as a number. -/
opaque sha384 : List (BitVec 8) → Nat

/-- Whether an ECDSA P-384 signature verifies (R311, R312), by public key, digest and signature. -/
opaque verifies : List (BitVec 8) → Nat → List (BitVec 8) → Bool

/-- The length of a round trip on the NoC in ns (R30, R402), by draw. -/
opaque latency : Nat → Nat

/-- The port island cycles between a meter's last request and one that was held at ingress and is checked again (R56, R156), by
draw. -/
opaque elapsed : Nat → Nat

/-- The 64 bytes of a Lafoush slot (R201): protocol content that the spec does not lay out, by draw. -/
opaque slotBytes : Nat → BitVec 512

/-- The PRE and POST that a PCIe preset stands for before they are brought to the nearest coefficients of the device (R258), by
preset, at 64 GT/s (true) or below. -/
opaque pciePreset : Bool → Nat → Nat × Nat

/-- The hashes of Aedeus keys (R522): 0 the manufacturing key of the boot ROM, 1 development, 2 production, 3 return. -/
opaque keyHash : Nat → Nat

/-- The bits that a locked pattern checker has compared since it was last asked, and those that were wrong (R270), by lane and
draw. -/
opaque compared : Nat → Nat → Nat × Nat

/-- What a stage of a bay's thermal model holds after a tick where its time constant is 0 (R444), by stage, the change that the
tick would make without the division, and the value before. -/
opaque noTau : Bool → Int → Int → Int

/-- What an adaptation register of a lane shows while its loops run (R262, R275, R276), by lane, register (0 gain and peaking,
1 and 2 the taps) and draw. -/
opaque adapted : Nat → Nat → Nat → BitVec 64

end Sys2Proof.Config
end

