-- ==== Sys2Proof/Machine/NocRoute.lean ====
section
/-! DEFINITION. The nodes of the NoC and the default routes (spec/15_internal_noc.md, R382 to R389, R392, R400). -/

namespace Sys2Proof.Machine

/-- Where a node's NI stands: its die (0–7 lane dies, 8 and 9 core dies, 10 the bay die), its ring stop or tree router,
and the hop code by which that router reaches it (R382, R383, R384, R400). -/
structure NodePlace where
  die : Nat
  router : Nat
  port : Nat
  deriving DecidableEq, Repr

/-- The place of node n, or none for a node number without a node (R382). -/
def nodePlace (n : Nat) : Option NodePlace :=
  if n < 0x40 then some ⟨n / 8, 7 + n % 8, 1⟩
  else if n < 0x80 then some ⟨(n - 0x40) / 8, 7 + n % 8, 2⟩
  else if n < 0xC0 then let s := n - 0x80; some ⟨8 + s / 32, s % 32 / 2, s % 2⟩
  else if n < 0xD0 then let p := n - 0xC0; some ⟨8 + p / 8, p % 8, 2⟩
  else if n < 0xD8 then let t := n - 0xD0; some ⟨8 + t / 4, 2 + 4 * (t % 4), 3⟩
  else if n < 0xE0 then some ⟨n - 0xD8, 0, 4⟩
  else match n with
    | 0xE0 => some ⟨8, 17, 2⟩
    | 0xE1 => some ⟨8, 17, 3⟩
    | 0xE2 => some ⟨8, 17, 4⟩
    | 0xE3 => some ⟨8, 17, 5⟩
    | 0xE4 => some ⟨8, 17, 6⟩
    | 0xE5 => some ⟨8, 18, 3⟩
    | 0xE6 => some ⟨8, 18, 2⟩
    | 0xE7 => some ⟨8, 16, 2⟩
    | 0xE8 => some ⟨8, 19, 2⟩
    | 0xE9 => some ⟨9, 19, 2⟩
    | 0xEA => some ⟨8, 19, 3⟩
    | 0xEB => some ⟨9, 19, 3⟩
    | 0xEC => some ⟨8, 16, 3⟩
    | 0xED => some ⟨10, 0x1F, 0⟩
    | _ => none

/-- The register NOC_NODE[n] (R400). -/
def nodeWord (n : Nat) : Nat :=
  match nodePlace n with
  | some p => 2 ^ 28 * p.die + 2 ^ 16 * p.router + 2 ^ 8 * p.port
  | none => 0xF * 2 ^ 28

/-- The codes that carry a packet from ring stop a to stop b: the shorter way, clockwise on a tie of 10 (R389). -/
def ringTravel (a b : Nat) : List Nat :=
  let cw := (b + 20 - a) % 20
  if cw = 0 then [] else if cw ≤ 10 then [0xE, cw] else [0xF, 20 - cw]

/-- The codes from tree router i up to the root, on a tree of the given remaining depth. -/
def treeDepth (i : Nat) : Nat := if i = 0 then 0 else if i ≤ 2 then 1 else if i ≤ 6 then 2 else 3

/-- The codes from the root down to tree router i. -/
def treeDown : Nat → Nat → List Nat
  | 0, _ => []
  | fuel + 1, i => if i = 0 then [] else treeDown fuel ((i - 1) / 2) ++ [if i % 2 = 1 then 1 else 2]

/-- The codes from router a to router b of one tree, through their lowest common router. -/
def treeTravel : Nat → Nat → Nat → List Nat
  | 0, _, _ => []
  | fuel + 1, a, b =>
    if a = b then []
    else if treeDepth a > treeDepth b then 0 :: treeTravel fuel ((a - 1) / 2) b
    else if treeDepth a < treeDepth b then treeTravel fuel a ((b - 1) / 2) ++ [if b % 2 = 1 then 1 else 2]
    else 0 :: (treeTravel fuel ((a - 1) / 2) ((b - 1) / 2) ++ [if b % 2 = 1 then 1 else 2])

/-- The codes from an NI of die p to the ring stop of core die c at which the packet enters, with that stop. For an NI
of core die c itself there is nothing to travel first (R389). -/
def toCore (p : NodePlace) (c : Nat) : List Nat × Nat :=
  if p.die < 8 then
    (List.replicate (treeDepth p.router) 0 ++ [if c = 0 then 0 else 3], 16 + p.die / 2)
  else if p.die = 10 then
    if c = 0 then ([], 18) else (ringTravel 18 19 ++ [4], 19)
  else if p.die = 8 + c then ([], p.router)
  else (ringTravel p.router 19 ++ [4], 19)

/-- The default route from node n to node t: whether it is relayed and its codes (R389). -/
def routeCodes (n t : Nat) : Option (Bool × List Nat) :=
  match nodePlace n, nodePlace t with
  | some p, some q =>
    if q.die = 8 ∨ q.die = 9 then
      let (pre, stop) := toCore p (q.die - 8)
      some (false, pre ++ ringTravel stop q.router ++ [q.port])
    else if q.die = 10 then
      if p.die = 10 then some (false, [])
      else
        let (pre, stop) := toCore p 0
        some (false, pre ++ ringTravel stop 18 ++ [4])
    else if p.die = q.die then some (false, treeTravel 8 p.router q.router ++ [q.port])
    else if p.die < 8 then
      let (pre, stop) := toCore p 0
      some (true, pre ++ ringTravel stop 16 ++ [2])
    else
      let c := if p.die = 9 then 1 else 0
      let (pre, stop) := toCore p c
      some (false, pre ++ ringTravel stop (16 + q.die / 2) ++ [q.die % 2] ++ treeDown 4 q.router ++ [q.port])
  | _, _ => none

/-- Hop codes packed with the first in bits [3:0] (R388). -/
def packCodes : List Nat → Nat
  | [] => 0
  | c :: cs => c % 16 + 16 * packCodes cs

/-- The default entry NOC_RT[n][t] (R388, R389). -/
def defaultRoute (n t : Nat) : Nat :=
  match routeCodes n t with
  | some (relay, cs) => 2 ^ 63 + (if relay then 2 ^ 62 else 0) + 2 ^ 32 * cs.length + packCodes cs
  | none => 0

/-- The node whose island owns the register at address a (R392). -/
def nodeOfAddr (a : Nat) : Nat :=
  if a < 0x100000 then 0xE8
  else if a < 0x200000 then 0xE6
  else if a < 0x800000 then 0xE0
  else if a < 0x900000 then let n := (a - 0x800000) / 0x1000; 8 * (n / 32) + n % 32 / 4
  else if a < 0xC00000 then
    let p := (a - 0xA00000) / 0x400
    let j := if p % 72 < 64 then p % 72 / 8 else p % 72 - 64
    0x40 + 8 * (p / 72) + j
  else if a < 0x1000000 then (a - 0xC00000) / 0x2000 % 64
  else if a < 0x1400000 then 0xEA
  else if a < 0x1800000 then 0x80 + (a - 0x1400000) / 0x10000
  else if a < 0x1900000 then 0xE6
  else if a < 0x1C00000 then 0xEA
  else if a < 0x2000000 then 0xD0
  else if a < 0x2800000 then 0xEB
  else if a < 0x2900000 then 0xED
  else if a < 0x2A00000 then 0xEC
  else if a < 0x2B00000 then 0xE7
  else if a < 0x2C00000 then 0xEB
  else 0xE8

end Sys2Proof.Machine
end

