-- ==== Sys2Proof/Machine/RegReset.lean ====
section
/-! DEFINITION. The reset value of every register (the Reset columns of spec/): the constant of the map, and the registers
whose value differs from instance to instance. -/

namespace Sys2Proof.Machine

/-- The default link credits of the virtual channels Q, S, P, D, M (R213, R226). -/
def defaultCredits (v : Nat) : Nat :=
  match v with
  | 0 => 512
  | 1 => 256
  | 2 => 512
  | 3 => 1664
  | _ => 128

/-- LN_STS.MAP and LOGICAL of a lane on a die without a fuse repair (R272, R253), with the other fields at reset. -/
def laneReset (p : Nat) : Nat :=
  let rest := 0x40000FF
  if p % 72 < 64 then rest + 2 ^ 10 * (64 * (p / 72) + p % 72)
  else rest + 2 ^ 30 + 0x3FF * 2 ^ 10

/-- The value of a register after a power-on or cold reset. -/
def RKey.reset (k : RKey) : Word :=
  match k.r with
  | .TM_QRATE => if k.i % 64 = 63 then 0x800186A0000186A0 else 0
  | .ICF_SEAT_CTL => if k.i = 0 then 0x80C00000 else 0xC00000
  | .LFL_CRD_INIT => wordOf (defaultCredits k.j)
  | .LN_STS => wordOf (laneReset k.i)
  | .HSF_CFG => if k.j = 0x58 / 4 then 0x2910 else if k.j = 0x10C / 4 then 0x462030 else if k.j = 0x114 / 4 then 0x2000 else 0
  | .BAY_HOLD => 1000
  | .NOC_NODE => wordOf (nodeWord k.i)
  | .NOC_RT => wordOf (defaultRoute k.i k.j)
  | r => wordOf r.row.reset

/-- The order of register keys: by register, then by instance, then by inner index. -/
def RKey.ord (k : RKey) : Nat := Nat.pair k.r.ctorIdx (Nat.pair k.i k.j)

end Sys2Proof.Machine
end

