-- ==== Sys2Proof/Machine/State.lean ====
section
/-! DEFINITION. The state of the device, its faults and refusals, and the state after reset. -/

namespace Sys2Proof.Machine

/-- The mailbox return codes that the spec names (R50, R242, R244). -/
inductive MbxCode where
  | success | invalidInput | unsupported
  deriving DecidableEq, Repr

/-- The return codes of fabric manager commands that the spec names (R250). -/
inductive FmCode where
  | success | background | unsupported | invalidInput
  deriving DecidableEq, Repr

/-- What leaves the device, in order: messages on host, device and fabric links, and levels and messages of its pins. -/
inductive Out where
  /-- Data for a host request, with its MetaValue and poison (R99). -/
  | hostData (port tag : Nat) (m : MetaVal) (poison : Bool)
  /-- Poisoned data for a host read (R52). -/
  | hostPoison (port tag : Nat)
  /-- A completion for a host request: Cmp (I), Cmp-S or Cmp-E (R96, R103). -/
  | hostCmp (port tag : Nat) (m : MetaVal)
  /-- A back-invalidate sent to a host (R100). -/
  | hostSnoop (port : Nat) (k : Snp) (mport addr : Nat)
  /-- BIConflictAck (R111). -/
  | biConflictAck (port mport addr : Nat)
  /-- Viral signalled to a host (R115, R240). -/
  | viral (port : Nat)
  /-- A request sent to a memory device (R99). -/
  | device (port : Nat) (write : Bool) (addr : Nat) (poison : Bool)
  /-- A line written by a scrub engine: the pattern repeated (R61). -/
  | scrubWrite (port addr pattern : Nat)
  /-- The answer to a mailbox command of a host's logical memory device (R242): return code and output words. -/
  | mailbox (port : Nat) (code : MbxCode) (data : List Nat)
  /-- A flit sent on a Lafoush link (R208), with the PAM4 levels of its codeword on each physical lane (R202). -/
  | flit (port : Nat) (f : Flit) (lanes : List (Nat × List Nat))
  /-- A lane training block sent on a lane (R216), and whether its levels are inverted (R271). -/
  | ltb (lane : Nat) (block : BitVec 320) (inverted : Bool)
  /-- The credits that a fabric port grants its far end to Q, S, P, D and M at Credit init (R214). -/
  | grants (port : Nat) (credits : List Nat)
  /-- A packet for the management program, KIND 0x3 (R181). -/
  | management (m : Msg)
  /-- PME_TO_Ack (R231). -/
  | pmeToAck (port : Nat)
  /-- A lane margining command served on a lane's shadow sampler (R284). -/
  | margining (lane : Nat)
  /-- FS and LF advertised in the equalisation of a CXL or PCIe port (R257). -/
  | eqAdvert (port fs lf : Nat)
  /-- A setting requested of a CXL or PCIe lane's far transmitter (R258). -/
  | eqRequest (lane pre post : Nat)
  /-- The answer to such a request of the far end: whether it is accepted, and the setting in use (R257, R258). -/
  | eqAnswer (lane : Nat) (accepted : Bool) (pre post : Nat)
  /-- The answer to an L0p width request (R231). -/
  | l0p (port : Nat) (consent : Bool)
  /-- A hot reset sent on a downstream or upstream link: to a bound device (R249), or by STARTF to clear viral (R236, R240). -/
  | hotReset (port : Nat)
  /-- A configuration write forwarded on a link (R249, R250). -/
  | config (port addr : Nat) (value : Word)
  /-- A configuration read sent on a link (R250). -/
  | configRead (port addr : Nat)
  /-- A hot-add or a surprise removal reported by a vPPB (R249). -/
  | vppb (hport vppb : Nat) (added : Bool)
  /-- A configuration or mailbox request of an enumeration (R245), by step. -/
  | enumRequest (port step : Nat)
  /-- The answer to a fabric manager command (R250), by its message tag. -/
  | fmAnswer (tag : Nat) (code : FmCode) (data : List Nat)
  /-- A request TLP of a Host Service Function sent (R412). -/
  | hsf (port : Nat) (t : HsfTlp)
  /-- The completion of a BAR or configuration request (R408, R409, R414). -/
  | bar (port : Nat) (a : BarAnswer)
  /-- A PCIe error message of a Host Service Function, by the bit of its uncorrectable error status (R418). -/
  | pcieError (port bit : Nat)
  /-- A correctable error message of the HSF, to its host (R418). -/
  | pcieCorrectable (port : Nat)
  /-- What the debug port answers: the word read, and whether its status reports an error or a write lost (R362, R367). -/
  | debug (value : Word) (error lost : Bool)
  /-- The 128 bits of the indicator chain, in the order in which they leave (R462). -/
  | indicators (bits : List Bool)
  /-- A TLP or other CXL.io message sent on a port (R249), with its poison (R127, R174). -/
  | tlp (port : Nat) (posted : Bool) (payload : Nat) (poison : Bool)
  deriving DecidableEq, Repr

/-- The reasons for a fault. No meaning of this model faults. -/
inductive Fault where
  /-- Raised by nothing: kept so that the type names what a fault would be, a command that no sender can form. Safe. -/
  | illFormed (mnemonic : String)
  deriving DecidableEq, Repr

/-- The reasons for a refusal. -/
inductive Refusal where
  /-- Raised by an arm of exec for a command whose meaning is not modelled yet. Safe. -/
  | notModelled (mnemonic : String)
  deriving DecidableEq, Repr

/-- The state. regs holds every register of the map that a command has changed from its reset value, mem the scratchpad
bytes that are not 0 (R360, R364), pending the commands that wait. free counts the draws of free values made so far. -/
structure State where
  regs : List (RKey × Word) := []
  mem : List Host.Cell := []
  pending : List Instr := []
  out : List Out := []
  free : Nat := 0
  latches : List Latch := []
  fns : Tab Fn := []
  eng : Engine := {}
  flt : FltSt := {}
  noc : NocSt := {}
  ports : Tab Port := []
  slices : Tab Slice := []
  halves : Tab Half := []
  lanes : Tab LaneSt := []
  core : CoreSt := {}
  tm : TmSt := {}
  fab : FabSt := {}
  eid : Nat := 0
  marks : Tab (Option Mark) := []
  pmc : PmcSt := {}
  hsfs : Tab Hsf := []
  bays : Tab Bay := []
  chip : Chip := {}
  deriving DecidableEq, Repr

/-- The state right after a power-on reset: every register at its reset value, nothing pending. -/
def State.reset : State := {}

end Sys2Proof.Machine
end

