-- ==== Sys2Proof/Machine/Ops.lean ====
section
/-! DEFINITION. The named operations over the state: registers and their fields, tables, the scratchpad, draws of free
values, priority FIFOs, engine events, fault reports and fence causes on their way, functions, near-miss counters. -/

namespace Sys2Proof.Machine

/-! Registers -/

/-- The stored value of a register. -/
def State.rd (s : State) (k : RKey) : Word := tabGet RKey.reset s.regs k

/-- The state with a register's stored value replaced. -/
def State.wr (s : State) (k : RKey) (v : Word) : State :=
  { s with regs := tabSet RKey.ord RKey.reset s.regs k v }

/-- A field of instance (i, j) of its register, as a number. -/
def State.fld (s : State) (f : Fld) (i : Nat := 0) (j : Nat := 0) : Nat := bitsOf (s.rd ⟨f.r, i, j⟩) f.hi f.lo

/-- The state with a field replaced. -/
def State.setFld (s : State) (f : Fld) (n : Nat) (i : Nat := 0) (j : Nat := 0) : State :=
  s.wr ⟨f.r, i, j⟩ (putBits (s.rd ⟨f.r, i, j⟩) f.hi f.lo n)

/-- A one-bit field as a flag. -/
def State.flag (s : State) (f : Fld) (i : Nat := 0) (j : Nat := 0) : Bool := s.fld f i j == 1

/-- The state with a saturating counter field raised by n (R573). -/
def State.count (s : State) (f : Fld) (n : Nat := 1) (i : Nat := 0) (j : Nat := 0) : State :=
  s.setFld f (satAdd (2 ^ (f.hi + 1 - f.lo) - 1) (s.fld f i j) n) i j

/-- The state with a wrapping counter field raised by n (R573). -/
def State.countWrap (s : State) (f : Fld) (n : Nat := 1) (i : Nat := 0) (j : Nat := 0) : State :=
  s.setFld f ((s.fld f i j + n) % 2 ^ (f.hi + 1 - f.lo)) i j

/-- First-occurrence capture (R573, "capture, VLD"): the word is stored with bit 63 set where bit 63 is clear. -/
def State.capture64 (s : State) (k : RKey) (v : Word) : State :=
  if bitOf (s.rd k) 63 then s else s.wr k (putBits v 63 63 1)

/-- Capture into a 32-bit register whose VLD is bit 31. -/
def State.capture32 (s : State) (k : RKey) (v : Word) : State :=
  if bitOf (s.rd k) 31 then s else s.wr k (putBits v 31 31 1)

/-! Tables -/

def State.port (s : State) (p : Nat) : Port := tabGet (fun _ => {}) s.ports p
def State.setPort (s : State) (p : Nat) (v : Port) : State := { s with ports := tabSet id (fun _ => {}) s.ports p v }
def State.modPort (s : State) (p : Nat) (f : Port → Port) : State := s.setPort p (f (s.port p))

def State.slice (s : State) (d : Nat) : Slice := tabGet (fun _ => {}) s.slices d
def State.setSlice (s : State) (d : Nat) (v : Slice) : State :=
  { s with slices := tabSet id (fun _ => {}) s.slices d v }
def State.modSlice (s : State) (d : Nat) (f : Slice → Slice) : State := s.setSlice d (f (s.slice d))

def State.coreIn (s : State) (e : Nat) : CoreIn := tabGet (fun _ => {}) s.core.inputs e
def State.setCoreIn (s : State) (e : Nat) (v : CoreIn) : State :=
  { s with core := { s.core with inputs := tabSet id (fun _ => {}) s.core.inputs e v } }

def State.coreOut (s : State) (e : Nat) : CoreOut := tabGet (fun _ => {}) s.core.outputs e
def State.setCoreOut (s : State) (e : Nat) (v : CoreOut) : State :=
  { s with core := { s.core with outputs := tabSet id (fun _ => {}) s.core.outputs e v } }

def State.plane (s : State) (p : Nat) : Plane := tabGet (fun _ => {}) s.core.planes p
def State.setPlane (s : State) (p : Nat) (v : Plane) : State :=
  { s with core := { s.core with planes := tabSet id (fun _ => {}) s.core.planes p v } }

/-- An egress queue after reset: the reset settings in force, its counts 0 (R166, R167). -/
def queueReset (q : Nat) : EQueue :=
  { rate := RKey.reset ⟨.TM_QRATE, q, 0⟩, bkt := RKey.reset ⟨.TM_QBKT, q, 0⟩ }

def State.queue (s : State) (q : Nat) : EQueue := tabGet queueReset s.tm.queues q
def State.setQueue (s : State) (q : Nat) (v : EQueue) : State :=
  { s with tm := { s.tm with queues := tabSet id queueReset s.tm.queues q v } }

def State.half (s : State) (i : Nat) : Half := tabGet (fun _ => {}) s.halves i
def State.setHalf (s : State) (i : Nat) (v : Half) : State := { s with halves := tabSet id (fun _ => {}) s.halves i v }
def State.modHalf (s : State) (i : Nat) (f : Half → Half) : State := s.setHalf i (f (s.half i))

def State.lane (s : State) (p : Nat) : LaneSt := tabGet (fun _ => {}) s.lanes p
def State.setLane (s : State) (p : Nat) (v : LaneSt) : State := { s with lanes := tabSet id (fun _ => {}) s.lanes p v }
def State.modLane (s : State) (p : Nat) (f : LaneSt → LaneSt) : State := s.setLane p (f (s.lane p))

def State.hsf (s : State) (p : Nat) : Hsf := tabGet (fun _ => {}) s.hsfs p
def State.setHsf (s : State) (p : Nat) (v : Hsf) : State := { s with hsfs := tabSet id (fun _ => {}) s.hsfs p v }
def State.modHsf (s : State) (p : Nat) (f : Hsf → Hsf) : State := s.setHsf p (f (s.hsf p))

def State.bay (s : State) (k : Nat) : Bay := tabGet (fun _ => {}) s.bays k
def State.setBay (s : State) (k : Nat) (v : Bay) : State := { s with bays := tabSet id (fun _ => {}) s.bays k v }
def State.modBay (s : State) (k : Nat) (f : Bay → Bay) : State := s.setBay k (f (s.bay k))

def State.dma (s : State) (e : Nat) : DmaSt := tabGet (fun _ => {}) s.eng.dmas e
def State.setDma (s : State) (e : Nat) (v : DmaSt) : State :=
  { s with eng := { s.eng with dmas := tabSet id (fun _ => {}) s.eng.dmas e v } }

def State.seat (s : State) (n : Nat) : Seat := tabGet (fun _ => {}) s.eng.seats n
def State.setSeat (s : State) (n : Nat) (v : Seat) : State :=
  { s with eng := { s.eng with seats := tabSet id (fun _ => {}) s.eng.seats n v } }
def State.modSeat (s : State) (n : Nat) (f : Seat → Seat) : State := s.setSeat n (f (s.seat n))

/-- A function before any command: skein groups (KIND 0x2) and shaper groups (KIND 0x6) run, every other is Stopped
(R321). -/
def fnReset (fid : Nat) : Fn := { run := if fid / 4096 = 2 ∨ fid / 4096 = 6 then .running else .stopped }

def State.fn (s : State) (fid : Nat) : Fn := tabGet fnReset s.fns fid
def State.setFn (s : State) (fid : Nat) (v : Fn) : State := { s with fns := tabSet id fnReset s.fns fid v }

/-- Function IDs by kind (R319). -/
def fidPort (p : Nat) : Nat := p
def fidCrew (c : Nat) : Nat := 0x1000 + c
def fidGroup (g : Nat) : Nat := 0x2000 + g
def fidSlice (d : Nat) : Nat := 0x3000 + d
def fidTenant (k : Nat) : Nat := 0x4000 + k
def fidBay (k : Nat) : Nat := 0x5000 + k
def fidShaper (n : Nat) : Nat := 0x6000 + n

/-! Port slots (R19, R254) -/

/-- Port slots that a port of a width covers (R19, R125): one per lane pair. -/
def widthSlots (code : Nat) : Nat := 2 ^ code

/-- Whether a port's function is started: it has a role and is not Stopped (R254). -/
def State.started (s : State) (p : Nat) : Bool :=
  s.fld PRT_CTL.ROLE p != 0 && (s.fn (fidPort p)).run != .stopped

/-- Whether a wider started port covers a port slot (R19, R234). -/
def State.covered (s : State) (p : Nat) : Bool :=
  (List.range 8).any (fun k => k != 0 && decide (k ≤ p) && s.started (p - k) &&
    decide (k < widthSlots (s.fld PRT_CTL.WIDTH (p - k))))

/-- The role of a port slot: a covered slot has none (R19). -/
def State.role (s : State) (p : Nat) : Nat := if s.covered p then 0 else s.fld PRT_CTL.ROLE p

/-- Whether a port slot holds a started host port. -/
def State.startedHost (s : State) (p : Nat) : Bool := s.started p && s.fld PRT_CTL.ROLE p == 1

/-! What leaves the device, and draws -/

/-- The state with one more thing sent. -/
def State.emit (s : State) (o : Out) : State := { s with out := s.out ++ [o] }

/-- A fresh draw of a free value, with the state that has made it. -/
def State.draw (s : State) : Nat × State := (s.free, { s with free := s.free + 1 })

/-- A free word: raw bits that the spec leaves open. -/
def State.drawWord (s : State) : Word × State :=
  let (n, s) := s.draw
  (Config.rawWord n, s)

/-! The scratchpad (R360): 2 MiB, an unlisted byte reads 0 -/

/-- The bytes of the scratchpad. -/
def memSize : Nat := 0x200000

/-- A byte of the scratchpad. -/
def State.byte (s : State) (a : Nat) : Byte := tabGet (fun _ => 0) s.mem a

/-- The state with one byte of the scratchpad written; outside it nothing changes. -/
def State.setByte (s : State) (a : Nat) (b : Byte) : State :=
  if a < memSize then { s with mem := tabSet id (fun _ => 0) s.mem a b } else s

/-- n bytes from a, lowest address first. -/
def State.bytes (s : State) (a n : Nat) : List Byte := (List.range n).map (fun k => s.byte (a + k))

/-- The little-endian number in n bytes from a (R342). -/
def State.load (s : State) (a n : Nat) : Nat := natOfBytes (s.bytes a n)

/-- Bytes written from a upwards. -/
def State.storeBytes (s : State) (a : Nat) : List Byte → State
  | [] => s
  | b :: bs => (s.setByte a b).storeBytes (a + 1) bs

/-- The low n bytes of a word written from a, little-endian (R342). -/
def State.store (s : State) (a n : Nat) (v : Word) : State := s.storeBytes a (bytesOf v n)

/-! Reports and causes on their way to the fault collector (R473, R474, R114) -/

/-- A report of a source sent to the fault collector. -/
def State.report (s : State) (slot : Nat) : State := { s with flt := { s.flt with reports := s.flt.reports ++ [slot] } }

/-- Source slots (R473). -/
def slotPort (p : Nat) : Nat := p
def slotAccess (p : Nat) : Nat := 0x100 + p
def slotSlice (d : Nat) : Nat := 0x200 + d
def slotPlane (p : Nat) : Nat := 0x240 + p
def slotOutput (e : Nat) : Nat := 0x250 + e
def slotTm (t : Nat) : Nat := 0x390 + t
def slotBay (k : Nat) : Nat := 0x398 + k
def slotEngine : Nat := 0x3B8
def slotSpad : Nat := 0x3B9
def slotTamper : Nat := 0x3BA
def slotNoc : Nat := 0x3BB
def slotFaultQ : Nat := 0x3BC
def slotSafeQ : Nat := 0x3BD
def slotTracker (p : Nat) : Nat := 0x3C0 + p

/-- A fence cause sent to the fault collector (R114). -/
def State.causeFence (s : State) (f : FenceReq) : State := { s with flt := { s.flt with fences := s.flt.fences ++ [f] } }

/-- Whether the device is in the safe state (R484). -/
def State.safe (s : State) : Bool := s.flag FLT_GSTS.SAFE

/-! Islands (R27, R506) -/

/-- The global octet of a port slot: 8 × (p div 32) + (p mod 32) div 4 (R19, R392), which is also its island (R495). -/
def octetOf (p : Nat) : Nat := p / 4

/-- The Lafoush registers of a port: 2 × global octet + half (R21). -/
def halfOf (p : Nat) : Nat := 2 * (p / 4) + p % 4 / 2

/-- The port whose Lafoush registers an instance holds. -/
def portOfHalf (i : Nat) : Nat := 4 * (i / 2) + 2 * (i % 2)

/-- Island indexes (R495). -/
def islandSlice (d : Nat) : Nat := 0x40 + d
def islandPlane (p : Nat) : Nat := 0x80 + p
def islandTm (t : Nat) : Nat := 0x90 + t
def islandEngine : Nat := 0x98
def islandFlt : Nat := 0x99
def islandBay : Nat := 0x9C

/-- The order of accumulator keys. -/
def AccKey.ord (k : AccKey) : Nat := Nat.pair k.island (Nat.pair k.bank (Nat.pair k.i k.j))

/-- Occurrences of an event added to one accumulator, where its selection w counts that event (R494, R497): in edge
mode the number of them, in level mode one for the cycle. -/
def accAdd (w : Word) (island bank i j evt n : Nat) (acc : List (AccKey × Nat)) : List (AccKey × Nat) :=
  if bitOf w 31 ∧ bitsOf w 7 0 = evt ∧ (bank ≠ 0 ∨ bitsOf w 23 16 = island) then
    let k : AccKey := ⟨island, bank, i, j⟩
    tabSet AccKey.ord (fun _ => 0) acc k (tabGet (fun _ => 0) acc k + (if bitOf w 30 then min n 1 else n))
  else acc

/-- The accumulators after n occurrences of an event in an island, for the global bank (R496, R498). -/
def accGlobal (s : State) (island evt n : Nat) : List (AccKey × Nat) :=
  (List.range 16).foldl (fun a c => accAdd (s.rd ⟨.PMC_GSEL, c, 0⟩) island 0 c 0 evt n a) s.pmc.acc

/-- The state after n occurrences of an island event (R498). Nothing counts while PMC_CTL.FRZ is set (R502). -/
def State.event (s : State) (island evt : Nat) (n : Nat := 1) : State :=
  { s with pmc := { s.pmc with acc := if s.flag PMC_CTL.FRZ then s.pmc.acc else accGlobal s island evt n } }

/-- The state after n occurrences of an event of one port: its own counters and the global ones of its octet (R498). -/
def State.portEvent (s : State) (p evt : Nat) (n : Nat := 1) : State :=
  let acc := if s.flag PMC_CTL.FRZ then s.pmc.acc
    else (List.range 8).foldl (fun a j => accAdd (s.rd ⟨.PMC_PSEL, p, j⟩) (octetOf p) 1 p j evt n a)
      (accGlobal s (octetOf p) evt n)
  { s with pmc := { s.pmc with acc := acc } }

/-- The state after n occurrences of an event of one tenant slice, counted in an island (R499). -/
def State.tenantEvent (s : State) (island k evt : Nat) (n : Nat := 1) : State :=
  let acc := if s.flag PMC_CTL.FRZ then s.pmc.acc
    else (List.range 4).foldl (fun a j => accAdd (tabGet (fun _ => 0) s.pmc.ssel (4 * k + j)) island 2 k j evt n a) s.pmc.acc
  { s with pmc := { s.pmc with acc := acc } }

/-- A near miss of an island: an awaited event on the tick on which its timer expired (R15, R506). -/
def State.nearMiss (s : State) (island : Nat) : State := (s.count PMC_NM.CNT 1 island).event island 0x0E

/-- A late arrival of an island (R17, R506). -/
def State.lateArrival (s : State) (island : Nat) : State := (s.count PMC_LATE.CNT 1 island).event island 0x0F

/-! Priority FIFOs (R371, R372) -/

/-- The level of a record (R315, R483). -/
def recLevel (w : Word) : Nat := bitsOf w 55 53

/-- Whether a FIFO of a capacity takes a record: the last 8 places are kept for level 7 (R372). -/
def fifoRoom (cap held level : Nat) : Bool := if level = 7 then held < cap else held + 8 < cap

/-- The highest level held. -/
def topLevel : List Word → Nat
  | [] => 0
  | w :: ws => max (recLevel w) (topLevel ws)

/-- The first record of a level with the queue without it. -/
def takeLevel (l : Nat) : List Word → Option (Word × List Word)
  | [] => none
  | w :: ws =>
    if recLevel w = l then some (w, ws)
    else match takeLevel l ws with
      | some (x, r) => some (x, w :: r)
      | none => none

/-- The oldest record of the highest level, with the queue without it (R372). -/
def fifoPop (q : List Word) : Option (Word × List Word) := takeLevel (topLevel q) q

/-- COUNT and FULL of a FIFO's registers after its queue has changed (R376). -/
def State.fifoRegs (s : State) (cnt fl : Fld) (cap held : Nat) : State :=
  (s.setFld cnt held).setFld fl (bit (held == cap))

/-- A record posted into the engine event queue, and whether it entered (R316, R372). -/
def State.postRecord (s : State) (w : Word) : State × Bool :=
  if fifoRoom 1024 s.eng.evq.length (recLevel w) then
    let q := s.eng.evq ++ [w]
    ((({ s with eng := { s.eng with evq := q } }).fifoRegs ICF_EVQ_CNT.COUNT ICF_EVQ_STS.FULL 1024 q.length).event
      islandEngine 0x08, true)
  else (s.setFld ICF_EVQ_STS.OVR 1, false)

/-- An event record (R315). -/
def eventWord (code pri src detail : Nat) : Word :=
  wordOf (2 ^ 56 * (code % 256) + 2 ^ 53 * (pri % 8) + 2 ^ 32 * (src % 2 ^ 16) + detail % 2 ^ 32)

/-- The priority of a device event (R316). -/
def eventPri (code : Nat) : Nat :=
  match code with
  | 0x01 | 0x02 => 7
  | 0x03 => 3
  | 0x10 => 6
  | 0x20 => 4
  | 0x21 => 5
  | 0x22 => 4
  | 0x23 => 6
  | 0x24 => 2
  | 0x30 | 0x31 | 0x32 => 3
  | 0x33 => 2
  | 0x40 => 5
  | 0x50 | 0x51 => 3
  | 0x52 | 0x60 => 2
  | _ => 0

/-- The group of an event code (R316). -/
def eventGroup (code : Nat) : Nat := code / 16

/-- A device event posted (R316). A record that finds no room is lost (R372). -/
def State.post (s : State) (code src detail : Nat) : State :=
  (s.postRecord (eventWord code (eventPri code) src detail)).1

/-- A record put into the fault queue (capacity 256) or the safe-state queue (capacity 32) (R371, R483). -/
def State.pushFault (s : State) (w : Word) : State :=
  if fifoRoom 256 s.flt.faultQ.length (recLevel w) then
    let q := s.flt.faultQ ++ [w]
    ({ s with flt := { s.flt with faultQ := q } }).fifoRegs FLT_FQ_CNT.COUNT FLT_FQ_STS.FULL 256 q.length
  else s.setFld FLT_FQ_STS.OVR 1

def State.pushSafe (s : State) (w : Word) : State :=
  if fifoRoom 32 s.flt.safeQ.length (recLevel w) then
    let q := s.flt.safeQ ++ [w]
    (({ s with flt := { s.flt with safeQ := q } }).fifoRegs FLT_SQ_CNT.COUNT FLT_SQ_STS.FULL 32 q.length).event islandFlt 0x06
  else s.setFld FLT_SQ_STS.OVR 1

/-! Lists -/

/-- The first element that satisfies a test, with the list without it. -/
def takeFirst {α : Type} (f : α → Bool) : List α → Option (α × List α)
  | [] => none
  | x :: xs =>
    if f x then some (x, xs)
    else match takeFirst f xs with
      | some (y, r) => some (y, x :: r)
      | none => none

/-- A list with its elements that satisfy a test changed. -/
def mapWhere {α : Type} (f : α → Bool) (g : α → α) (l : List α) : List α := l.map (fun x => if f x then g x else x)

/-- A fold over a list that carries the state. -/
def State.each {α : Type} (s : State) (l : List α) (f : State → α → State) : State := l.foldl f s

end Sys2Proof.Machine
end

