-- ==== Sys2Proof/Machine/Pool.lean ====
section
/-! DEFINITION. Skeins: the skein table, its state changes, host acceptance and release, capacity commands, the
validation and activation of a port's rules, scrubbing (spec/02, spec/07 R184 to R188). -/

namespace Sys2Proof.Machine

/-! Skein fields -/

/-- The size of a skein in granules of 256 MiB, by its SIZE code (R35); 0 for a reserved code. -/
def skeinGranules (code : Nat) : Nat := if code < 13 then 2 ^ code else 0

/-- The bytes of one granule. -/
def granule : Nat := 0x10000000

/-- The states of a skein that name it capacity (R38). -/
def skAbsent : Nat := 0
def skFree : Nat := 1
def skAllocated : Nat := 2
def skOffered : Nat := 3
def skBound : Nat := 4
def skReleasing : Nat := 5
def skRevoking : Nat := 6
def skScrubbing : Nat := 7
def skHeld : Nat := 8

/-- The crew number that marks a non-coherent skein (R64). -/
def noCrew : Nat := 0xFF

/-- The host port in owner slot k (R37). -/
def State.owner (s : State) (n k : Nat) : Nat :=
  if k < 8 then bitsOf (s.rd ⟨.SKN_W2, n, 0⟩) (8 * k + 7) (8 * k)
  else bitsOf (s.rd ⟨.SKN_W3, n, 0⟩) (8 * (k - 8) + 7) (8 * (k - 8))

/-- The valid owner slots that name a port. -/
def State.slotsOf (s : State) (n p : Nat) : List Nat :=
  (List.range 16).filter (fun k => bitOf (s.rd ⟨.SKN_W1, n, 0⟩) (16 + k) && s.owner n k == p)

/-- Whether a port's slot of a skein grants writes (R37). -/
def State.ownWr (s : State) (n p : Nat) : Bool :=
  (s.slotsOf n p).any (fun k => bitOf (s.rd ⟨.SKN_W1, n, 0⟩) (32 + k))

/-- The state with one bit of OWN_ACC written. -/
def State.setAcc (s : State) (n k : Nat) (b : Bool) : State :=
  s.wr ⟨.SKN_W1, n, 0⟩ (putBits (s.rd ⟨.SKN_W1, n, 0⟩) (48 + k) (48 + k) (bit b))

/-- The state with OWN_ACC cleared in every slot that names a port (R40, R49). -/
def State.clearAcc (s : State) (n p : Nat) : State :=
  s.each (List.range 16) (fun s k => if s.owner n k = p then s.setAcc n k false else s)

/-- Whether a host has accepted a skein. -/
def State.accepted (s : State) (n p : Nat) : Bool :=
  (List.range 16).any (fun k => bitOf (s.rd ⟨.SKN_W1, n, 0⟩) (48 + k) && s.owner n k == p)

/-- The skeins that are not Absent: those whose W0 is not at reset, with their states. -/
def State.skeins (s : State) : List Nat :=
  (s.regs.filter (fun e => e.1.r == .SKN_W0 && bitsOf e.2 63 60 != 0)).map (fun e => e.1.i)

/-- The active entries that name a skein, over all ports (R41, R188). -/
def State.bindings (s : State) (n : Nat) : Nat :=
  (s.ports.map (fun e => (e.2.ext.filter (fun a => a.skein == n)).length +
    (e.2.racl.filter (fun a => a.skein == n)).length)).foldl (· + ·) 0

/-- A crew's state (R71): 0 Free, 1 Stopped, 2 Active, 3 Fencing, 4 Fenced. -/
def State.crewState (s : State) (c : Nat) : Nat := s.fld CRW_STS.STATE c

/-- Whether an FEID is a member of a crew (R70). -/
def State.member (s : State) (c f : Nat) : Bool := bitOf (s.rd ⟨.CRW_MEM, c, f / 32⟩) (f % 32)

/-- The FEIDs of a crew (R70), in order. -/
def State.members (s : State) (c : Nat) : List Nat := (List.range 4096).filter (s.member c)

/-- Whether a crew is Fencing or Fenced. -/
def State.crewFenced (s : State) (c : Nat) : Bool := s.crewState c == 3 || s.crewState c == 4

/-- CREW may be left in an entry that is Allocated (R43). -/
def State.crewAllowed (s : State) (c : Nat) : Bool := c == noCrew || s.crewState c != 0

/-- A refused skein write or capacity command (R45). -/
def State.skeinErr (s : State) (n cause : Nat) : State :=
  s.capture32 ⟨.CORE_SKN_ERR, 0, 0⟩ (wordOf (2 ^ 28 * cause + n))

/-! Writes of the skein table (R36, R40, R42, R43) -/

/-- Whether a memory port has an enumerated device (R36, R246). -/
def State.enumerated (s : State) (p : Nat) : Bool :=
  s.role p == 2 && s.fld PRT_MEM_CAP.CAP_G p != 0

/-- Whether a granule range of a memory port meets a marked one of another skein (R36). -/
def State.overlaps (s : State) (n mport base size : Nat) : Bool :=
  s.marks.any (fun e => match e.2 with
    | none => false
    | some m => e.1 != n && m.mport == mport && base < m.dbase + m.size && m.dbase < base + size)

/-- The first failing check of R36 for skein n placed by a W0 word. -/
def State.placeErr (s : State) (n : Nat) (w : Word) : Option Nat :=
  let size := skeinGranules (bitsOf w 47 44)
  let p := bitsOf w 39 32
  let base := bitsOf w 12 0
  if size = 0 then some 5
  else if !s.enumerated p then some 2
  else if base % size ≠ 0 then some 1
  else if s.fld PRT_MEM_CAP.CAP_G p < base + size then some 2
  else if s.overlaps n p base size then some 0
  else none

/-- The state with a skein's granules marked as a W0 word gives them, or released. -/
def State.mark (s : State) (n : Nat) (m : Option Mark) : State :=
  { s with marks := tabSet id (fun _ => none) s.marks n m }

def markOf (w : Word) : Mark := ⟨bitsOf w 39 32, bitsOf w 12 0, skeinGranules (bitsOf w 47 44)⟩

/-- The outcome of the guards of R40 and R43 for a firmware W0 write that changes STATE from st: none where it passes. -/
def State.skeinGuard (s : State) (n : Nat) (st new : Nat) (v : Word) : Option Nat :=
  let w0 := s.rd ⟨.SKN_W0, n, 0⟩
  let w1 := s.rd ⟨.SKN_W1, n, 0⟩
  let crewOk := s.crewAllowed (bitsOf v 55 48)
  if 9 ≤ new then some 3
  else if st = skAbsent ∧ new = skFree then s.placeErr n v
  else if st = skFree ∧ new = skAbsent then none
  else if st = skFree ∧ new = skAllocated then
    if 2 ≤ bitsOf v 31 30 then some 5 else if !crewOk then some 3 else none
  else if st = skAllocated ∧ new = skOffered then
    if bitsOf v 55 48 ≠ bitsOf w0 55 48 ∧ !crewOk then some 3
    else if bitsOf w1 31 16 = 0 then some 3 else none
  else if st = skBound ∧ new = skReleasing then none
  else if (st = skAllocated ∨ st = skOffered ∨ st = skReleasing ∨ st = skHeld) ∧ new = skRevoking then
    if bitsOf w1 63 48 ≠ 0 then some 6
    else if st = skAllocated ∧ bitsOf v 55 48 ≠ bitsOf w0 55 48 ∧ !crewOk then some 3 else none
  else if st = skRevoking ∧ new = skScrubbing then if s.bindings n ≠ 0 then some 4 else none
  else if st = skRevoking ∧ new = skFree then
    if s.bindings n ≠ 0 then some 4 else if bitOf w0 29 then some 6 else none
  else if ((skAllocated ≤ st ∧ st ≤ skReleasing) ∨ st = skScrubbing) ∧ new = skHeld then
    if bitsOf w1 15 12 ≠ 3 then some 3
    else if st = skScrubbing ∧ (s.port (bitsOf w0 39 32)).scrub.isSome then some 3
    else if st = skAllocated ∧ bitsOf v 55 48 ≠ bitsOf w0 55 48 ∧ !crewOk then some 3 else none
  else some 3

/-- Whether a skein's group is stopped (R56). -/
def State.groupStopped (s : State) (g : Nat) : Bool := (s.fn (fidGroup g)).run == .stopped

/-- Whether new requests to a group's skeins are held: its stop has begun (R56). -/
def State.groupHolds (s : State) (g : Nat) : Bool := (s.fn (fidGroup g)).run != .running

/-- The fields of a W0 write that are stored (R42): all of them in Absent, Free and Allocated, else STATE, and MPORT and
DBASE where the group is stopped. EPOCH and reserved bits never. -/
def State.skeinMask (s : State) (n st : Nat) : Word :=
  if st ≤ skAllocated then 0xF0FFF0FFE0001FFF
  else if s.groupStopped (s.fld SKN_W1.GROUP n) then 0xF00000FF00001FFF
  else 0xF000000000000000

/-- A firmware write of W0. -/
def writeSkeinW0 (s : State) (n : Nat) (v : Word) : State :=
  let w := s.rd ⟨.SKN_W0, n, 0⟩
  let st := bitsOf w 63 60
  let new := bitsOf v 63 60
  let m := s.skeinMask n st
  let stored := (w &&& ~~~m) ||| (v &&& m)
  if new = st then
    if st = skAllocated ∧ bitsOf v 55 48 ≠ bitsOf w 55 48 ∧ !s.crewAllowed (bitsOf v 55 48) then s.skeinErr n 3
    else s.wr ⟨.SKN_W0, n, 0⟩ stored
  else match s.skeinGuard n st new v with
    | some c => s.skeinErr n c
    | none =>
      let s := s.wr ⟨.SKN_W0, n, 0⟩ stored
      if st = skAbsent then s.mark n (some (markOf stored))
      else if new = skAbsent then s.mark n none
      else if new = skFree ∧ st = skRevoking then s.setFld SKN_W1.HOLD 0 n
      else s

/-- A firmware write of W1 (R37, R42): OWN_WR, OWN_VLD and HOLD in every state, GROUP in Absent, Free and Allocated. A
reserved HOLD code leaves HOLD. -/
def writeSkeinW1 (s : State) (n : Nat) (v : Word) : State :=
  let w := s.rd ⟨.SKN_W1, n, 0⟩
  let m : Word := if s.fld SKN_W0.STATE n ≤ skAllocated then 0x0000FFFFFFFF03FF else 0x0000FFFFFFFF0000
  let m : Word := if bitsOf v 15 12 ≤ 3 then m ||| 0xF000 else m
  s.wr ⟨.SKN_W1, n, 0⟩ ((w &&& ~~~m) ||| (v &&& m))

/-- A firmware write of W2 or W3 (R42). -/
def writeSkeinOwners (s : State) (k : RKey) (v : Word) : State :=
  if s.fld SKN_W0.STATE k.i ≤ skAllocated then s.wr k v else s

/-- The state with a skein moved to Held by the device with a hold cause (R40). -/
def State.holdSkein (s : State) (n cause : Nat) : State :=
  (s.setFld SKN_W0.STATE skHeld n).setFld SKN_W1.HOLD cause n

/-- Whether a skein belongs to a crew: none belongs to crew 255, whose number marks a non-coherent skein (R64). -/
def State.skeinOfCrew (s : State) (c n : Nat) : Bool := c != noCrew && s.fld SKN_W0.CREW n == c

/-- Every skein of a crew moved to Held with HOLD 0x1 from Allocated to Releasing (R40, R115). -/
def State.holdCrew (s : State) (c : Nat) : State :=
  s.each s.skeins (fun s n =>
    let st := s.fld SKN_W0.STATE n
    if s.skeinOfCrew c n ∧ skAllocated ≤ st ∧ st ≤ skReleasing then s.holdSkein n 1 else s)

/-- The scrub engine of a memory port stopped: its write that still waits in queue 63 leaves it, and an answer to one that the
device has counts for nothing any more (R61, R62). -/
def State.stopScrub (s : State) (p : Nat) : State :=
  let s := if (s.queue (64 * p + 63)).msgs.isEmpty then s
    else s.setQueue (64 * p + 63) { s.queue (64 * p + 63) with msgs := [], deficit := 0 }
  (s.modPort p (fun q => { q with scrub := none })).setFld PRT_SCRB_STS.BUSY 0 p

/-- Every skein of a memory port whose link is down moved to Held with HOLD 0x2, its scrub aborted (R40, R63). -/
def State.holdPort (s : State) (p : Nat) : State :=
  (s.each s.skeins (fun s n =>
    let st := s.fld SKN_W0.STATE n
    if s.fld SKN_W0.MPORT n = p ∧ ((skAllocated ≤ st ∧ st ≤ skReleasing) ∨ st = skScrubbing) then s.holdSkein n 2
    else s)).stopScrub p

/-! Capacity: offers, acceptance, release (R40, R46, R49, R50, R186, R243, R244) -/

/-- Places of a Dynamic Capacity event log. -/
def dcLogSize : Nat := 64

/-- A record added to a port's Dynamic Capacity event log. -/
def State.dcRecord (s : State) (p : Nat) (r : DcRecord) : State :=
  let q := s.port p
  (s.setPort p { q with dcLog := q.dcLog ++ [r] }).setFld PRT_DC_STS.PEND (q.dcLog.length + 1) p

/-- What an add, a release request or a forced release does at the port once it is taken. -/
def State.dcTaken (s : State) (p op : Nat) (x : Bool × Nat) : State :=
  match op with
  | 1 => s.modPort p (fun q => { q with
      offers := q.offers.filter (· != x) ++ [x], barred := q.barred.filter (· != x) })
  | 3 => s.modPort p (fun q => { q with
      offers := q.offers.filter (· != x), barred := q.barred.filter (· != x) ++ [x] })
  | _ => s

/-- A write of PRT_DCE (R49). -/
def writeDce (s : State) (p : Nat) (v : Word) : State :=
  let op := bitsOf v 31 30
  let n := bitsOf v 15 0
  if op = 0 then s
  else if (s.slotsOf n p).isEmpty then s.skeinErr n 7
  else if op = 1 ∧ !(s.port p).ext.any (fun a => a.skein == n) then s.setFld PRT_DC_STS.NOMAP 1 p
  else if dcLogSize ≤ (s.port p).dcLog.length then s.setFld PRT_DC_STS.OVF 1 p
  else
    let s := (s.dcRecord p ⟨op, false, n, n, s.fld SKN_W0.CREW n⟩).dcTaken p op (false, n)
    if op = 3 then s.clearAcc n p else s

/-- A write of PRT_RDCE (R186). -/
def writeRdce (s : State) (p : Nat) (v : Word) : State :=
  let op := bitsOf v 31 30
  let i := bitsOf v 4 0
  if op = 0 then s
  else if op = 1 ∧ !(s.port p).rext.any (fun a => a.idx == i) then s.setFld PRT_DC_STS.NOMAP 1 p
  else if dcLogSize ≤ (s.port p).dcLog.length then s.setFld PRT_DC_STS.OVF 1 p
  else
    let s := (s.dcRecord p ⟨op, true, i, s.fld PRT_REXT_W0.HSKEIN p i, s.fld PRT_REXT_W0.HCREW p i⟩).dcTaken p op (true, i)
    if op = 3 then s.setFld PRT_REXT_W0.ACC 0 p i else s

/-- The detail word of the capacity events (R315 table). -/
def dcDetail (x : Bool × Nat) : Nat := 2 ^ 31 * (bit x.1) + x.2

/-- Whether a host may accept an extent now (R40, R50, R243). -/
def State.mayAccept (s : State) (p : Nat) (x : Bool × Nat) : Bool :=
  (s.port p).offers.contains x && !(s.port p).barred.contains x &&
    (if x.1 then s.flag PRT_REXT_W0.VLD p x.2
     else
       let st := s.fld SKN_W0.STATE x.2
       decide (skOffered ≤ st ∧ st ≤ skReleasing) && !(s.slotsOf x.2 p).isEmpty)

/-- A host's acceptance of an extent that it may accept (R40, R186). Where several valid owner slots name the host's port, the bit
of the lowest is set: DESIGN CHOICE (log entry 99). -/
def State.accept (s : State) (p : Nat) (x : Bool × Nat) : State :=
  let s := s.modPort p (fun q => { q with offers := q.offers.filter (· != x) })
  let s := if x.1 then s.setFld PRT_REXT_W0.ACC 1 p x.2
    else match s.slotsOf x.2 p with
      | k :: _ => (s.setFld SKN_W0.STATE skBound x.2).setAcc x.2 k true
      | [] => s
  s.post 0x30 p (dcDetail x)

/-- A host's Add Dynamic Capacity Response (R243): the extents that it lists are accepted; an offer it answers and omits is
declined. A list with an extent that may not be accepted is refused with Invalid Input and changes nothing (R50). -/
def execAddDcResponse (port : Fin 256) (listed : List (Bool × Nat)) (s : State) : Host.Outcome State Fault Refusal :=
  let p := port.val
  if listed.all (s.mayAccept p) then
    let oldest := (s.port p).offers.head?
    let s := s.each listed (fun s x => s.accept p x)
    let s := match oldest with
      | some x => if listed.contains x then s
        else (s.modPort p (fun q => { q with offers := q.offers.filter (· != x) })).post 0x32 p (dcDetail x)
      | none => s
    .next (s.emit (.mailbox p .success []))
  else .next (s.emit (.mailbox p .invalidInput []))

/-- A host's release of an extent it has accepted (R40, R50, R186). -/
def State.release (s : State) (p : Nat) (x : Bool × Nat) : State :=
  let s := if x.1 then s.setFld PRT_REXT_W0.ACC 0 p x.2 else s.clearAcc x.2 p
  s.post 0x31 p (dcDetail x)

/-- Whether a host releases an extent with effect: it has accepted it, and a local skein is Bound, Releasing or Held. -/
def State.mayRelease (s : State) (p : Nat) (x : Bool × Nat) : Bool :=
  if x.1 then s.flag PRT_REXT_W0.ACC p x.2
  else
    let st := s.fld SKN_W0.STATE x.2
    (st == skBound || st == skReleasing || st == skHeld) && s.accepted x.2 p

/-- Release Dynamic Capacity (R40, R242). -/
def execReleaseDynamicCapacity (port : Fin 256) (remote : Bool) (index : Fin 65536) (s : State) :
    Host.Outcome State Fault Refusal :=
  let x := (remote, index.val)
  if s.mayRelease port.val x then .next ((s.release port.val x).emit (.mailbox port.val .success []))
  else .next (s.emit (.mailbox port.val .invalidInput []))

/-! Epochs (R54, R55, R57, R185, R187) -/

/-- A staged extent map entry with its skein's fields as the table now holds them. -/
def State.stagedExt (s : State) (p i : Nat) : ActExt :=
  let n := s.fld PRT_EXT.SKEIN p i
  { idx := i, skein := n, base := s.fld PRT_EXT.DPA_BASE p i, size := skeinGranules (s.fld SKN_W0.SIZE n),
    crew := s.fld SKN_W0.CREW n, mport := s.fld SKN_W0.MPORT n, dbase := s.fld SKN_W0.DBASE n, wr := s.ownWr n p,
    slice := if s.flag PRT_EXT_SLC.VLD p i then some (s.fld PRT_EXT_SLC.SLICE p i) else none, group := s.fld SKN_W1.GROUP n }

/-- The valid staged extent map entries of a port, in index order. -/
def State.stagedExts (s : State) (p : Nat) : List ActExt :=
  ((List.range 256).filter (fun i => s.flag PRT_EXT.VLD p i)).map (s.stagedExt p)

/-- The valid staged remote entries of a port, in index order (R184). -/
def State.stagedRexts (s : State) (p : Nat) : List ActRext :=
  ((List.range 32).filter (fun i => s.flag PRT_REXT_W0.VLD p i)).map (fun i =>
    { idx := i, base := s.fld PRT_REXT_W0.DPA_BASE p i, size := skeinGranules (s.fld PRT_REXT_W0.SIZE p i),
      hswid := s.fld PRT_REXT_W0.HSWID p i, hcrew := s.fld PRT_REXT_W0.HCREW p i,
      hskein := s.fld PRT_REXT_W0.HSKEIN p i, wr := s.flag PRT_REXT_W0.WR p i,
      slice := if s.flag PRT_REXT_W1.SVLD p i then some (s.fld PRT_REXT_W1.SLICE p i) else none,
      fenced := s.flag PRT_REXT_W0.FENCED p i })

/-- The FEID of the first valid map entry that names a port of this switch, or 0xFFF. -/
def State.mappedFeid (s : State) (p : Nat) : Nat :=
  let here := s.fld CORE_FAB_ID.SWID
  match s.regs.find? (fun e => e.1.r == .CORE_FEID_MAP && bitOf e.2 31 && bitsOf e.2 25 16 == here &&
      bitsOf e.2 7 0 == p) with
  | some e => e.1.i
  | none => 0xFFF

/-- The FEID of a port (R178): a started host port has that of its map entry, any other port none (0xFFF). -/
def State.feidOf (s : State) (p : Nat) : Nat := if s.startedHost p then s.mappedFeid p else 0xFFF

/-- The check of one staged extent map entry (R54 step 2). -/
def State.extErr (s : State) (p : Nat) (a : ActExt) : Option Nat :=
  let st := s.fld SKN_W0.STATE a.skein
  if !(decide (skAllocated ≤ st ∧ st ≤ skReleasing) || st == skHeld) then some 5
  else if (s.slotsOf a.skein p).isEmpty then some 4
  else if a.size = 0 ∨ a.base % a.size ≠ 0 then some 2
  else if s.fld PRT_DCR.SIZE_G p < a.base + a.size then some 3
  else none

/-- The check of one staged remote entry (R54 step 2, R185). -/
def State.rextErr (s : State) (p : Nat) (a : ActRext) : Option Nat :=
  if a.size = 0 then some 5
  else if a.hcrew ≠ noCrew ∧ !s.member 255 (s.feidOf p) then some 4
  else if a.base % a.size ≠ 0 then some 2
  else if s.fld PRT_DCR.SIZE_G p < a.base + a.size then some 3
  else none

/-- Whether two entries of a list of granule ranges overlap. -/
def rangesOverlap : List (Nat × Nat) → Bool
  | [] => false
  | (b, n) :: t => t.any (fun e => b < e.1 + e.2 && e.1 < b + n) || rangesOverlap t

/-- The result code of the validation of a host port's staged map: 0 where it passes. -/
def State.epochErr (s : State) (p : Nat) : Nat :=
  let xs := s.stagedExts p
  let rs := s.stagedRexts p
  match xs.findSome? (s.extErr p) with
  | some c => c
  | none => match rs.findSome? (s.rextErr p) with
    | some c => c
    | none =>
      if rangesOverlap (xs.map (fun a => (a.base, a.size)) ++ rs.map (fun a => (a.base, a.size))) then 1 else 0

/-- The skeins named by an old or a new entry of the entries that differ (R37, R54). -/
def changedSkeins (old new : List ActExt) : List Nat :=
  let key := fun (a : ActExt) => (a.idx, a.skein, a.base)
  let o := old.filter (fun a => !(new.map key).contains (key a))
  let n := new.filter (fun a => !(old.map key).contains (key a))
  ((o ++ n).map (·.skein)).eraseDups

/-- The active copies that a fabric port takes (R187, R188): the skein table, the member bits and the access list. -/
def State.fabricCopy (s : State) (q : Port) : Port :=
  let of := fun r => s.regs.filter (fun e => e.1.r == r)
  { q with
    skeins := ((of .SKN_W0).map (·.1.i)).map (fun n =>
      { skein := n, state := s.fld SKN_W0.STATE n, crew := s.fld SKN_W0.CREW n, size := s.fld SKN_W0.SIZE n,
        mport := s.fld SKN_W0.MPORT n, dbase := s.fld SKN_W0.DBASE n, group := s.fld SKN_W1.GROUP n })
    members := (of .CRW_MEM).flatMap (fun e =>
      ((List.range 32).filter (fun j => bitOf e.2 j)).map (fun j => (e.1.i, 32 * e.1.j + j)))
    racl := ((of .CORE_RACL).filter (fun e => bitOf e.2 63)).map (fun e =>
      { feid := bitsOf e.2 59 48, skein := bitsOf e.2 15 0, wr := bitOf e.2 62 }) }

/-- The activation cycle (R54 step 3). -/
def State.activate (s : State) (p : Nat) : State :=
  let q := s.port p
  let q := { q with epoch := (q.epoch + 1) % 16 }
  if s.role p = 4 then s.setPort p (s.fabricCopy q)
  else
    let new := s.stagedExts p
    let s1 := s.setPort p { q with ext := new, rext := s.stagedRexts p }
    s1.each (changedSkeins q.ext new) (fun s n => s.countWrap SKN_W0.EPOCH 1 n)

/-- Whether a request of an epoch remains in a port's path (R55). -/
def Port.epochOpen (q : Port) (e : Nat) : Bool := q.out.any (fun x => x.epoch == e)

/-! Scrubbing (R61 to R63) -/

/-- The lines of a skein. -/
def State.skeinLines (s : State) (n : Nat) : Nat := 0x400000 * skeinGranules (s.fld SKN_W0.SIZE n)

/-- The scrub engine puts its next line into queue 63 once the line before has left it (R61, R161). The write takes no space
of the egress buffer, which holds what the core releases (R162), and the pattern is the one that PRT_SCRB_PAT then holds: DESIGN
CHOICE (log entry 100). -/
def State.feedScrub (s : State) (p : Nat) : State :=
  match (s.port p).scrub with
  | none => s
  | some c =>
    let q := s.queue (64 * p + 63)
    if c.issued < s.skeinLines c.skein ∧ q.msgs.isEmpty then
      let m : Msg := { body := .scrub (s.fld PRT_SCRB_PAT.PAT p), src := p, dsts := [p], len := 0, eq := 63, port := p,
                       tag := c.mark, mport := p, addr := granule * s.fld SKN_W0.DBASE c.skein + 64 * c.issued }
      (s.setQueue (64 * p + 63) { q with msgs := [{ msg := m, counted := 64, red := false }] }).modPort p
        (fun q => { q with scrub := some { c with issued := c.issued + 1 } })
    else s

/-- A write of PRT_SCRB_CTL: SKEIN is stored; GO starts the engine or is refused (R61). -/
def writeScrb (s : State) (p : Nat) (v : Word) : State :=
  let n := bitsOf v 15 0
  let s := s.setFld PRT_SCRB_CTL.SKEIN n p
  if !bitOf v 31 then s
  else if s.fld SKN_W0.STATE n = skScrubbing ∧ s.fld SKN_W0.MPORT n = p ∧ (s.port p).scrub.isNone then
    (((s.modPort p (fun q => { q with scrub := some { skein := n, mark := q.nextTag }, nextTag := q.nextTag + 1 })).setFld
      PRT_SCRB_STS.BUSY 1 p).setFld PRT_SCRB_STS.PROG_MIB 0 p).feedScrub p
  else s.setFld PRT_SCRB_STS.ERR 1 p

/-- The device has acknowledged a line of the scrub with a mark (R62, R63). -/
def State.scrubAck (s : State) (p mark : Nat) : State :=
  match (s.port p).scrub with
  | none => s
  | some c =>
    if c.mark = mark then
      (s.modPort p (fun q => { q with scrub := some { c with acked := c.acked + 1 } })).setFld PRT_SCRB_STS.PROG_MIB
        ((c.acked + 1) / 0x4000) p
    else s

/-- A write of the scrub with a mark failed: the engine stops and the skein stays Scrubbing (R62). -/
def State.scrubFail (s : State) (p mark : Nat) : State :=
  if (s.port p).scrub.any (fun c => c.mark == mark) then (s.stopScrub p).setFld PRT_SCRB_STS.ERR 1 p else s

/-- The memory device has acknowledged every scrub write (R63): the skein becomes Free. -/
def execScrubComplete (port : Fin 256) (s : State) : Host.Outcome State Fault Refusal :=
  let p := port.val
  match (s.port p).scrub with
  | none => .next s
  | some sc =>
    if sc.acked < s.skeinLines sc.skein ∨ s.fld SKN_W0.STATE sc.skein ≠ skScrubbing then .next s
    else
      let s := s.modPort p (fun q => { q with scrub := none })
      let s := (s.setFld PRT_SCRB_STS.BUSY 0 p).setFld PRT_SCRB_STS.DONE 1 p
      let s := (s.setFld SKN_W0.STATE skFree sc.skein).setFld SKN_W1.HOLD 0 sc.skein
      .next (s.post 0x33 p sc.skein)

end Sys2Proof.Machine
end

