-- ==== Sys2Proof/Machine/Seat.lean ====
section
/-! DEFINITION. Seats as the rest of the machine sees them: registers, states, the end of a wait; functions that end their
stop; EPOCH of a port (spec/12 R304, R306, R320, R321; R54). -/

namespace Sys2Proof.Machine

/-- The seat states of ICF_SEAT_STS (R326). -/
def seatIdle : Nat := 0
def seatReady : Nat := 1
def seatWaiting : Nat := 2
def seatTrapped : Nat := 3
def seatHalted : Nat := 4

/-- A general register of a seat; g0 reads 0 (R304). -/
def State.greg (s : State) (n r : Nat) : Word := if r = 0 then 0 else tabGet (fun _ => 0) (s.seat n).g r

/-- The state with a general register of a seat written; g0 ignores writes (R304). -/
def State.setGreg (s : State) (n r : Nat) (v : Word) : State :=
  if r = 0 then s else s.modSeat n (fun q => { q with g := tabSet id (fun _ => 0) q.g r v })

/-- A seat's state (R326). -/
def State.seatState (s : State) (n : Nat) : Nat := s.fld ICF_SEAT_STS.STATE n

def State.setSeatState (s : State) (n st : Nat) : State := s.setFld ICF_SEAT_STS.STATE st n

/-- Whether a seat is privileged (R307, R325). -/
def State.priv (s : State) (n : Nat) : Bool := s.flag ICF_SEAT_CTL.PRIV n

/-- The awaited completion of a Waiting seat: the result is written to its destination register and the seat is Ready
(R306). -/
def State.finishWait (s : State) (n rd : Nat) (v : Word) : State :=
  if s.seatState n = seatWaiting then
    ((s.modSeat n (fun q => { q with wait := none })).setGreg n rd v).setSeatState n seatReady
  else s

/-- finishWait for a wait whose seat may have left (R306). -/
def State.finishOpt (s : State) (seat : Option Nat) (rd : Nat) (v : Word) : State :=
  match seat with
  | some n => s.finishWait n rd v
  | none => s

/-- A result word (R320). -/
def resultWord (code sub detail : Nat) : Word := wordOf (2 ^ 16 * (detail % 2 ^ 16) + 256 * (sub % 256) + code % 256)

/-- The end of a function's stop: it is Stopped, and each waiting STOPF completes, the owner's with the code given and an
earlier owner's with 0x02 and the owner's number (R321). -/
def State.stopDone (s : State) (fid : Nat) (v : Word) (keepOwner : Bool := true) : State :=
  let f := s.fn fid
  let s := s.setFn fid { f with run := .stopped, waiters := [], collector := false,
                                owner := if keepOwner then f.owner else none }
  s.each f.waiters (fun s w =>
    s.finishWait w.1 w.2 (if f.owner = some w.1 ∨ !keepOwner then v else resultWord 2 0 (f.owner.getD 0)))

/-! EPOCH of a port (R54) -/

/-- The activation of the first EPOCH that a port holds, once none drains: its staged map is validated, and taken in or
refused (R54 steps 2 and 3). -/
def execEpochActivate (port : Fin 256) (s : State) : Host.Outcome State Fault Refusal :=
  let p := port.val
  match (s.port p).epochs with
  | [] => .next s
  | e :: rest =>
    if e.draining.isSome ∨ (s.port p).trackerDown then .next s
    else
      let code := if s.role p = 4 then 0 else s.epochErr p
      if code ≠ 0 then .next ((s.modPort p (fun q => { q with epochs := rest })).finishOpt e.seat e.rd (wordOf code))
      else
        let old := (s.port p).epoch
        .next ((s.activate p).modPort p (fun q => { q with epochs := { e with draining := some old } :: rest }))

/-- No request of the previous epoch remains in the port's path: the EPOCH completes with 0 (R54 step 4). -/
def execEpochComplete (port : Fin 256) (s : State) : Host.Outcome State Fault Refusal :=
  let p := port.val
  match (s.port p).epochs with
  | [] => .next s
  | e :: rest =>
    match e.draining with
    | none => .next s
    | some old =>
      if (s.port p).epochOpen old ∨ (s.port p).trackerDown then .next s
      else .next ((s.modPort p (fun q => { q with epochs := rest })).finishOpt e.seat e.rd 0)

end Sys2Proof.Machine
end

