-- ==== Sys2Proof/Machine/Crew.lean ====
section
/-! DEFINITION. Crews as firmware sees them: CRW_CMD, CRW_CTL, CRW_MEM; the home of a sector; the fence of a crew
(spec/03 R64 to R76, spec/04 R114, R115). -/

namespace Sys2Proof.Machine

/-- The entries of the register file that belong to one crew's CRW_MEM. -/
def State.clearMem (s : State) (c : Nat) : State :=
  { s with regs := s.regs.filter (fun e => !(e.1.r == .CRW_MEM && e.1.i == c)) }

/-- The number of members of a crew, the true count (R69, R73). -/
def State.nmem (s : State) (c : Nat) : Nat :=
  ((s.regs.filter (fun e => e.1.r == .CRW_MEM && e.1.i == c)).map (fun e =>
    ((List.range 32).filter (fun j => bitOf e.2 j)).length)).foldl (· + ·) 0

/-- The skeins of a crew that are in Allocated to Held (R70). -/
def State.skeinCount (s : State) (c : Nat) : Nat :=
  (s.skeins.filter (fun n => s.skeinOfCrew c n && skAllocated ≤ s.fld SKN_W0.STATE n)).length

def State.cmdErr (s : State) (c : Nat) : State := s.setFld CRW_STS.CMD_ERR 1 c

/-- A write of CRW_CMD (R68, R72). -/
def writeCrewCmd (s : State) (c : Nat) (v : Word) : State :=
  let st := s.crewState c
  match bitsOf v 2 0 with
  | 0 => s
  | 1 =>
    if st ≠ 0 ∨ s.safe then s.cmdErr c
    else
      let s := (s.clearMem c).wr ⟨.CRW_CTL, c, 0⟩ (RKey.reset ⟨.CRW_CTL, c, 0⟩)
      let s := (s.setFld CRW_STS.FCAUSE 0 c).setFld CRW_STS.STATE 1 c
      s.setFn (fidCrew c) { run := .stopped }
  | 2 =>
    if st = 0 then s
    else if (st = 1 ∨ st = 4) ∧ s.skeinCount c = 0 ∧ s.fld CRW_ENT_CNT.CNT c = 0 then
      let s := (s.setFld CRW_STS.STATE 0 c).wr ⟨.CRW_FINFO, c, 0⟩ 0
      let s := s.setFn (fidCrew c) { run := .stopped }
      let s := { s with flt := { s.flt with purged := tabSet id (fun _ => []) s.flt.purged c [] } }
      s.each (List.range 64) (fun s d => s.modSlice d (fun q => { q with fenced := q.fenced.filter (· != c) }))
    else s.cmdErr c
  | _ => s.cmdErr c

/-- A write of CRW_CTL (R66). -/
def writeCrewCtl (s : State) (c : Nat) (v : Word) : State :=
  if s.crewState c = 1 then s.wr ⟨.CRW_CTL, c, 0⟩ (v &&& 0x8FFFFF00) else s.cmdErr c

/-- A write of CRW_MEM[k] (R70). A member bit that it clears is remembered for the check of R73. -/
def writeCrewMem (s : State) (c k : Nat) (v : Word) : State :=
  if s.crewState c = 1 then
    let old := s.rd ⟨.CRW_MEM, c, k⟩
    let s := if (old &&& ~~~v) ≠ 0 ∧ !s.flt.memCut.contains c then
      { s with flt := { s.flt with memCut := s.flt.memCut ++ [c] } } else s
    s.wr ⟨.CRW_MEM, c, k⟩ (lowHalf v)
  else s.cmdErr c

/-- The home slice, set and tag of an address of a memory port (R76). -/
def hsa (mport addr : Nat) : Nat := 2 ^ 31 * mport + addr / 1024 % 2 ^ 31

def homeSlice (mport addr : Nat) : Nat :=
  let h := hsa mport addr
  (h % 64) ^^^ (h / 2 ^ 6 % 64) ^^^ (h / 2 ^ 12 % 64) ^^^ (h / 2 ^ 18 % 64) ^^^ (h / 2 ^ 24 % 64) ^^^ (h / 2 ^ 30 % 64) ^^^
    (h / 2 ^ 36 % 8)

def homeSet (mport addr : Nat) : Nat :=
  let h := hsa mport addr
  (h % 2 ^ 11) ^^^ (h / 2 ^ 11 % 2 ^ 11)

def homeTag (mport addr : Nat) : Nat := hsa mport addr / 2 ^ 11

/-- The line of an address within its sector (R76). -/
def lineOf (addr : Nat) : Nat := addr / 64 % 16

/-- The memory port and the address of the first byte of the sector that a tag and a set name (R76). -/
def sectorOf (tag set : Nat) : Nat × Nat :=
  let low := set ^^^ (tag % 2 ^ 11)
  let h := 2 ^ 11 * tag + low
  (h / 2 ^ 31, 1024 * (h % 2 ^ 31))

/-! Fences (R72, R114, R115, R185, R192) -/

/-- The number of links of the route to a switch, as HOPS has it (R181). -/
def State.hopsTo (s : State) (sw : Nat) : Nat := s.fld CORE_SW_RT.NT sw + 1

/-- The fabric port toward a switch (R179), where its entry is valid; the entry of the own Switch ID is ignored. -/
def State.routePort (s : State) (sw : Nat) : Option Nat :=
  if s.flag CORE_SW_RT.VLD sw ∧ sw ≠ s.fld CORE_FAB_ID.SWID then some (s.fld CORE_SW_RT.PORT sw) else none

/-- The port by which an FEID is reached (R100, R191): its host port on this switch, or the fabric port toward its switch. -/
def State.agentPort (s : State) (f : Nat) : Option Nat :=
  if !s.flag CORE_FEID_MAP.VLD f then none
  else if s.fld CORE_FEID_MAP.SWID f = s.fld CORE_FAB_ID.SWID then some (s.fld CORE_FEID_MAP.PORT f)
  else s.routePort (s.fld CORE_FEID_MAP.SWID f)

/-- The switches, other than this one, that members of a crew are attached to. -/
def State.memberSwitches (s : State) (c : Nat) : List Nat :=
  (((s.members c).filter (fun f => s.flag CORE_FEID_MAP.VLD f)).map (fun f => s.fld CORE_FEID_MAP.SWID f)).eraseDups.filter
    (fun w => w != s.fld CORE_FAB_ID.SWID)

/-- A message put at its input, in the order of becoming ready (R128). -/
def State.send (s : State) (m : Msg) : State :=
  let i := s.coreIn m.src
  s.setCoreIn m.src { i with ready := i.ready ++ [m] }

/-- Core endpoints (R122). -/
def epSlice (d : Nat) : Nat := 256 + d
def epCollector : Nat := 320
def epEngine : Nat := 321

/-- FENCED set in the coherent remote entries of a port, staged and active, that a test selects (R184, R192, R195). -/
def State.setFenced (s : State) (p : Nat) (f : Nat → Nat → Bool) : State :=
  let s := s.modPort p (fun q => { q with
    rext := mapWhere (fun a => a.hcrew != noCrew && f a.hswid a.hcrew) (fun a => { a with fenced := true }) q.rext })
  s.each (List.range 32) (fun s i =>
    if s.flag PRT_REXT_W0.VLD p i ∧ s.fld PRT_REXT_W0.HCREW p i ≠ noCrew ∧
        f (s.fld PRT_REXT_W0.HSWID p i) (s.fld PRT_REXT_W0.HCREW p i) then s.setFld PRT_REXT_W0.FENCED 1 p i
    else s)

/-- The memory ports, and the port agents of a crew's members (R115). -/
def State.fenceTargets (s : State) (c : Nat) : List Nat :=
  let agents := (s.members c).filterMap s.agentPort
  let mems := (List.range 256).filter (fun p => s.role p == 2)
  (List.range 256).filter (fun p => agents.contains p || mems.contains p)

/-- The notices that go to member switches by the bypass channel, over the NoC (R192). -/
def State.fenceAlerts (s : State) (c : Nat) : List Alert :=
  (s.memberSwitches c).filterMap (fun w =>
    (s.routePort w).map (fun p => ⟨octetOf p, 0xE6, p, .fence w (s.fld CORE_FAB_ID.SWID) (s.hopsTo w) c⟩))

/-- One crew taken to Fencing (R72, R115 steps 1 and 2), where it is Active or Stopped. -/
def State.fenceCrew (s : State) (c cause : Nat) (slice : Option Nat) (feid : Nat) : State :=
  if s.crewState c ≠ 1 ∧ s.crewState c ≠ 2 then s
  else
    let f := s.fn (fidCrew c)
    let s := if f.run = .stopping then s else s.setFn (fidCrew c) { run := .stopped }
    let s := (s.setFld CRW_STS.STATE 3 c).setFld CRW_STS.FCAUSE cause c
    let s := s.wr ⟨.CRW_FINFO, c, 0⟩ (wordOf (2 ^ 31 + 2 ^ 30 * (bit slice.isSome) + 2 ^ 24 * (slice.getD 0) + feid))
    let s := s.holdCrew c
    let s := if c = 255 then s.each (List.range 256) (fun s p => s.setFenced p (fun _ _ => true)) else s
    let s := { s with noc := { s.noc with send := s.noc.send ++ s.fenceAlerts c } }
    s.send { body := .fence, src := epCollector, dsts := s.fenceTargets c ++ (List.range 64).map epSlice, cls := 0,
             crew := c }

/-- The crews that a fence cause names (R114). -/
def CrewSel.crews : CrewSel → List Nat
  | .one c => [c]
  | .all => List.range 256

/-- The collector takes a fence cause (R115). -/
def State.takeFence (s : State) (f : FenceReq) : State :=
  let s := ({ s with flt := { s.flt with fences := s.flt.fences.erase f } }).event islandFlt 0x04
  s.each f.crews.crews (fun s c => s.fenceCrew c f.cause f.slice f.feid)

/-- A fence cause that the collector may take next: no earlier one of its unit waits (R28, R474). -/
def State.nextFence (s : State) (n : Nat) : Option FenceReq :=
  match s.flt.fences[n]? with
  | some f => if (s.flt.fences.take n).any (fun g => g.unit == f.unit) then none else some f
  | none => none

/-- FENCE_CAUSE (R115): the cause at a place of the list of those on their way has reached the fault collector. Another that
reaches it on the same cycle is taken with it, the lower code first, so that a crew that both name records that one (R196). -/
def execFenceCause (which : Nat) (other : Option Nat) (s : State) : Host.Outcome State Fault Refusal :=
  match s.nextFence which, (other.filter (· != which)).bind s.nextFence with
  | none, _ => .next s
  | some f, none => .next (s.takeFence f)
  | some f, some g =>
    if f.cause ≤ g.cause then .next ((s.takeFence f).takeFence g) else .next ((s.takeFence g).takeFence f)

/-- CREW_FENCED (R72, R88): all 64 slices have reported the purge of a Fencing crew. -/
def execCrewFenced (crew : Fin 256) (s : State) : Host.Outcome State Fault Refusal :=
  let c := crew.val
  if s.crewState c = 3 ∧ (tabGet (fun _ => []) s.flt.purged c).length = 64 then
    let s := (s.setFld CRW_STS.STATE 4 c).setFld CRW_ENT_CNT.CNT 0 c
    .next (s.post 0x10 c (s.fld CRW_STS.FCAUSE c))
  else .next s

end Sys2Proof.Machine
end

