-- ==== Sys2Proof/Machine/Meter.lean ====
section
/-! DEFINITION. Meters at ingress (spec/06 R150 to R160). -/

namespace Sys2Proof.Machine

/-- One byte in the units of a token count (R156: 24 fractional bits). -/
def tokenByte : Nat := 2 ^ 24

/-- The hundredths of a unit by which a rate in Mbit/s fills a count in dt cycles of a port island at 1.6 GHz (R156). -/
def portFill (rate dt : Nat) : Nat := 131072 * (rate * dt)

/-- The cap of a burst setting in units of 64 bytes. -/
def burstCap (b : Nat) : Nat := tokenByte * (64 * b)

def metersOf (s : State) (m : Nat) : Meter := tabGet (fun _ => {}) s.tm.meters m

def State.setMeter (s : State) (m : Nat) (v : Meter) : State :=
  { s with tm := { s.tm with meters := tabSet id (fun _ => {}) s.tm.meters m v } }

/-- CIR, PIR (never below CIR), CBS cap and PBS cap of the settings in force (R156). -/
def Meter.cir (m : Meter) : Nat := bitsOf m.rate 19 0
def Meter.pir (m : Meter) : Nat := max (bitsOf m.rate 51 32) m.cir
def Meter.cbs (m : Meter) : Nat := burstCap (bitsOf m.bkt 15 0)
def Meter.pbs (m : Meter) : Nat := burstCap (bitsOf m.bkt 47 32)
def Meter.pol (m : Meter) : Nat := bitsOf m.rate 63 62

/-- The refill for dt port island cycles (R156). What is left of a unit stays for the next refill, so that no rate is lost. -/
def Meter.refill (m : Meter) (dt : Nat) : Meter :=
  let c := m.rc + portFill m.cir dt
  let p := m.rp + portFill m.pir dt
  { m with tc := min m.cbs (m.tc + c / 100), tp := min m.pbs (m.tp + p / 100), rc := c % 100, rp := p % 100 }

/-- The colour of one request with the counts after it (R156). -/
def Meter.mark (m : Meter) : Colour × Meter :=
  if m.tp < 64 * tokenByte then (.red, m)
  else if m.tc < 64 * tokenByte then (.yellow, { m with tp := m.tp - 64 * tokenByte })
  else (.green, { m with tc := m.tc - 64 * tokenByte, tp := m.tp - 64 * tokenByte })

/-- The meter that a tenant slice maps a meter class to (R152, SLC_MTR). -/
def State.meterFor (s : State) (k cls : Nat) : Option Nat :=
  let w := s.rd ⟨.SLC_MTR, k, 0⟩
  if bitOf w (16 * cls + 15) then some (bitsOf w (16 * cls + 11) (16 * cls)) else none

/-- What metering gives a request: its colour, whether a red one is delayed, whether it is dropped, its queue (R153, R157). -/
structure Metered where
  colour : Colour := .unmetered
  delay : Bool := false
  drop : Bool := false
  eq : Nat := 0
  deriving DecidableEq, Repr

/-- The metering of a request of a port that hit an entry with the given tenant slice, in a meter class (R152, R153, R156,
R157). dt is the time since the meter's last request. -/
def State.meter (s : State) (p : Nat) (slice : Option Nat) (cls dt : Nat) : Metered × State :=
  let plain : Metered := { eq := s.fld PRT_TM.DEF_EQ p }
  match slice with
  | none => (plain, s)
  | some k =>
    let island := octetOf p
    if s.fld SLC_CTL.HPORT k ≠ p then (plain, s)
    else if (s.fn (fidTenant k)).run ≠ .running then (plain, s.tenantEvent island k 0x07)
    else match s.meterFor k cls with
      | none => (plain, s)
      | some m =>
        let (c, m') := ((metersOf s m).refill dt).mark
        let s := ((s.setMeter m m').portEvent p 0x0D).tenantEvent island k 0x01
        let s := s.tenantEvent island k 0x06 64
        let eq := s.fld SLC_TM.EQ k
        match c with
        | .green => (⟨.green, false, false, eq⟩, (s.count TM_MTR_GRN.CNT 1 m).tenantEvent island k 0x02)
        | .yellow => (⟨.yellow, false, false, eq⟩, (s.count TM_MTR_YEL.CNT 1 m).tenantEvent island k 0x03)
        | _ =>
          let s := (s.count TM_MTR_RED.CNT 1 m).tenantEvent island k 0x04
          let drop := m'.pol == 2 && cls == 3
          let s := if drop then (s.count TM_MTR_DRP.CNT 1 m).tenantEvent island k 0x05 else s
          (⟨.red, m'.pol == 1 || m'.pol == 2, drop, eq⟩, s)

/-- A write of TM_MTR_RATE (R157, R158): it is staged. A reserved POL keeps POL; a rate above 1,000,000 keeps that rate. -/
def writeMeterRate (s : State) (m : Nat) (v : Word) : State :=
  let k : RKey := ⟨.TM_MTR_RATE, m, 0⟩
  let w := s.rd k
  let pol := if bitsOf v 63 62 = 3 then bitsOf w 63 62 else bitsOf v 63 62
  let pir := if 1000000 < bitsOf v 51 32 then bitsOf w 51 32 else bitsOf v 51 32
  let cir := if 1000000 < bitsOf v 19 0 then bitsOf w 19 0 else bitsOf v 19 0
  s.wr k (wordOf (2 ^ 62 * pol + 2 ^ 32 * pir + cir))

/-- A meter takes its staged settings; its counts are kept and clipped (R160, STARTF of its slice). -/
def State.applyMeter (s : State) (m : Nat) : State :=
  let q : Meter := { metersOf s m with rate := s.rd ⟨.TM_MTR_RATE, m, 0⟩, bkt := s.rd ⟨.TM_MTR_BKT, m, 0⟩ }
  s.setMeter m { q with tc := min q.tc q.cbs, tp := min q.tp q.pbs }

/-- A meter takes its staged settings with full counts (R160, creation of its slice). -/
def State.fillMeter (s : State) (m : Nat) : State :=
  let q : Meter := { rate := s.rd ⟨.TM_MTR_RATE, m, 0⟩, bkt := s.rd ⟨.TM_MTR_BKT, m, 0⟩ }
  s.setMeter m { q with tc := q.cbs, tp := q.pbs }

end Sys2Proof.Machine
end

