-- ==== Sys2Proof/Machine/Ingress.lean ====
section
/-! DEFINITION. The port agent's side of a request: its answers, what it sends, the ingress check of a host port
(spec/02 R51 to R56, spec/04 R93, R95, R106 to R109, spec/07 R181, R185). -/

namespace Sys2Proof.Machine

/-! Answers -/

/-- The header of an answer that returns to the sender of a header, its other fields echoed (R191). -/
def State.answerHdr (s : State) (h : FabHdr) : FabHdr :=
  { h with dswid := h.sswid, sswid := s.fld CORE_FAB_ID.SWID, hops := s.hopsTo h.sswid, kind := 1, sfeid := 0xFFF,
           dfeid := h.sfeid }

/-- What an answer to an outstanding entry is: data with a MetaValue, poisoned data of no stated MetaValue, a completion. -/
inductive Reply where
  | data (m : MetaVal) (poison : Bool)
  | poison
  | cmp (m : MetaVal)
  deriving DecidableEq, Repr

/-- Whether an outstanding entry awaits data (R52, R115: "reads with poisoned data and writes with Cmp"). -/
def HostOp.isRead : HostOp → Bool
  | .memRd _ => true
  | .memRdData => true
  | .memSpecRd => true
  | .memInv _ => false
  | .memWr _ _ _ => false
  | .memClnEvct => false

def OutKind.isRead : OutKind → Bool
  | .coh .eRead => true
  | .coh .sRead => true
  | .coh .iRead => true
  | .coh .eOwn => false
  | .coh .iWrite => false
  | .ncRead _ => true
  | .ncWrite => false
  | .wb _ => false
  | .cln => false
  | .remote op => op.isRead

/-- The answer that ends an entry in error (R52, R115, R192). -/
def OutKind.errorReply (k : OutKind) : Reply := if k.isRead then .poison else .cmp .i

/-- The header that an answer returns to: none for an entry of this port's own host. -/
def OutKind.returnHdr (k : OutKind) (h : Option FabHdr) : Option FabHdr :=
  match k with
  | .remote _ => none
  | _ => h

/-- The answer sent: to the host on its link, or toward the agent's switch on the fabric port's link. -/
def State.reply (s : State) (p : Nat) (e : OutEntry) (r : Reply) : State :=
  match e.kind.returnHdr e.fab with
  | none =>
    match r with
    | .data m x => (s.portEvent p 0x05 64).emit (.hostData p e.hostTag m x)
    | .poison => (s.portEvent p 0x05 64).emit (.hostPoison p e.hostTag)
    | .cmp m => s.emit (.hostCmp p e.hostTag m)
  | some h =>
    let (b, len, x) := match r with
      | .data m x => (Body.data m, 80, x)
      | .poison => (Body.data .i, 80, true)
      | .cmp m => (Body.cmp m, 16, false)
    s.modPort p (fun q => { q with linkTx := q.linkTx ++
      [{ body := b, src := p, cls := 3, len := len + 16, feid := h.sfeid, tag := e.hostTag, crew := e.crew, poison := x,
         fab := some (s.answerHdr h) }] })

/-! Credits and what may be sent (R71, R106, R108, R109) -/

/-- A port agent's free count at a slice. -/
def State.credits (s : State) (p d : Nat) : Nat := tabGet (fun _ => 0) (s.port p).credits d

def State.setCredits (s : State) (p d n : Nat) : State :=
  s.modPort p (fun q => { q with credits := tabSet id (fun _ => 0) q.credits d n })

/-- Whether a crew is large (R65). -/
def State.large (s : State) (c : Nat) : Bool := s.flag CRW_CTL.MODE c

/-- Whether requests of a crew go out (R71): it is Active and its stop has not begun. -/
def State.crewRuns (s : State) (c : Nat) : Bool :=
  s.crewState c == 2 && (s.fn (fidCrew c)).run == .running

/-- Whether a port agent sends requests homed at a slice (R109): it runs, or it is stopping and the port agent has not yet
taken its stop. -/
def State.sliceTakes (s : State) (p d : Nat) : Bool :=
  match (s.fn (fidSlice d)).run with
  | .running => true
  | .stopping => !(s.port p).stops.contains d
  | .stopped => false

/-- Whether crew 255 holds the coherent remote requests of this switch (R185): it is Stopped, or its stop has begun. -/
def State.crew255Holds (s : State) : Bool :=
  s.crewState 255 == 1 || (s.crewState 255 == 2 && (s.fn (fidCrew 255)).run != .running)

/-- Whether an entry may be sent now. A coherent request needs its crew, its slice and, in a large crew, a credit; a remote
one waits while crew 255 is stopped (R185). Writebacks are never held (R71, R109). -/
def State.sendable (s : State) (p : Nat) (e : OutEntry) : Bool :=
  match e.kind with
  | .coh _ => s.crewRuns e.crew && s.sliceTakes p e.slice && (e.credit || !s.large e.crew || 0 < s.credits p e.slice)
  | .remote (.memWr false _ _) => true
  | .remote .memClnEvct => true
  | .remote _ => e.crew == noCrew || !s.crew255Holds
  | _ => true

/-- The header fields that every message of an entry carries. -/
def OutEntry.base (e : OutEntry) (p : Nat) : Msg :=
  { body := .mgmt, src := p, epoch := e.epoch, colour := e.colour, delay := e.delay, eq := e.eq, feid := e.feid, port := p,
    tag := e.tag, slice := e.slice, crew := e.crew, mport := e.mport, addr := e.addr, poison := e.poison }

/-- The class of a remote request (R145, R185, R191). -/
def remoteClass (op : HostOp) (crew : Nat) : Nat :=
  if crew = noCrew then 5
  else match op with
    | .memWr false _ _ => 2
    | .memClnEvct => 2
    | _ => 4

/-- The length of a host message in the core: 16 bytes, and 64 more with data (R125). -/
def HostOp.len : HostOp → Nat
  | .memWr _ _ _ => 80
  | _ => 16

/-- The core message that an entry sends (R93, R145, R185). -/
def OutEntry.msg (e : OutEntry) (p : Nat) : Msg :=
  let b := e.base p
  match e.kind with
  | .coh x => { b with body := .cohReq x, dsts := [epSlice e.slice], cls := 4, len := if x = .iWrite then 80 else 16 }
  | .ncRead g => { b with body := .memRead g, dsts := [e.mport], cls := 5 }
  | .ncWrite => { b with body := .memWrite, dsts := [e.mport], cls := 5, len := 80 }
  | .wb m => { b with body := .writeback m, dsts := [epSlice e.slice], cls := 2, len := 80 }
  | .cln => { b with body := .clnEvct, dsts := [epSlice e.slice], cls := 2 }
  | .remote op => { b with body := .remoteReq op, dsts := [e.mport], cls := remoteClass op e.crew, len := op.len + 16,
                           fab := e.fab }

/-- An entry of a port's outstanding table replaced. -/
def State.setEntry (s : State) (p : Nat) (e : OutEntry) : State :=
  s.modPort p (fun q => { q with out := mapWhere (fun x => x.tag == e.tag) (fun _ => e) q.out })

/-- An entry leaves the outstanding table. -/
def State.dropEntry (s : State) (p tag : Nat) : State :=
  s.modPort p (fun q => { q with out := q.out.filter (fun x => x.tag != tag) })

/-- A large-crew request spends a credit when it is sent (R108). -/
def State.spend (s : State) (p : Nat) (e : OutEntry) : OutEntry × State :=
  match e.kind with
  | .coh _ =>
    if s.large e.crew ∧ !e.credit then ({ e with credit := true }, s.setCredits p e.slice (s.credits p e.slice - 1))
    else (e, s)
  | _ => (e, s)

/-- An entry sent: into the core. -/
def State.sendEntry (s : State) (p : Nat) (e : OutEntry) : State :=
  let (e, s) := s.spend p e
  let s := if e.resend then s.countWrap PRT_RETRY_CNT.CNT 1 p else s
  let e := { e with phase := .sent, answered := false, resend := false }
  ((s.setEntry p e).send (e.msg p)).portEvent p 0x06

/-- Every held entry of a port that may now be sent is sent, in the order in which they were taken (R108, R109). -/
def State.releasePort (s : State) (p : Nat) : State :=
  s.each (s.port p).out (fun s e => if e.phase = .held ∧ s.sendable p e then s.sendEntry p e else s)

/-- A credit comes back to a port agent's free count, and a request that waited for one goes (R108). A stopped slice has granted
none (R109). -/
def State.creditBack (s : State) (p d : Nat) : State :=
  if (s.fn (fidSlice d)).run = .stopped then s else (s.setCredits p d (s.credits p d + 1)).releasePort p

/-- releasePort for every port. -/
def State.releaseAll (s : State) : State := s.each (s.ports.map (·.1)) (fun s p => s.releasePort p)

/-- A new entry taken into a port's outstanding table and sent, or held there without error. -/
def State.takeEntry (s : State) (p : Nat) (e : OutEntry) : State :=
  let q := s.port p
  let e := { e with tag := q.nextTag, epoch := q.epoch, phase := .held }
  let s := s.setPort p { q with nextTag := q.nextTag + 1, out := q.out ++ [e] }
  if s.sendable p e then s.sendEntry p e else s

/-! The ingress check (R51, R52, R185) -/

/-- The intended state of a message (R95), none where no directory action is taken. -/
def HostOp.intent : HostOp → Option Intent
  | .memRd (some .a) => some .eRead
  | .memRd (some .s) => some .sRead
  | .memRd (some .i) => some .iRead
  | .memRd none => some .iRead
  | .memRdData => some .sRead
  | .memInv .a => some .eOwn
  | .memInv .s => none
  | .memInv .i => none
  | .memWr true _ _ => some .iWrite
  | .memWr false _ _ => none
  | .memClnEvct => none
  | .memSpecRd => none

/-- Whether a message writes (R51). -/
def HostOp.writes : HostOp → Bool
  | .memWr _ _ _ => true
  | _ => false

/-- The MetaValue that a read of a non-coherent skein is granted (R582). -/
def HostOp.grant (op : HostOp) : MetaVal :=
  match op.intent with
  | some .eRead => .a
  | some .eOwn => .a
  | some .sRead => .s
  | _ => .i

/-- The meter class of a request that is metered (R152). -/
def HostOp.meterClass (op : HostOp) (coherent : Bool) : Option Nat :=
  match coherent, op.intent, op.writes with
  | true, some .iWrite, _ => some 1
  | true, some _, _ => some 0
  | true, none, _ => none
  | false, _, true => some 3
  | false, _, false => if op.isRead then some 2 else none

/-- Whether a message travels on the M2S Req channel, whose credits a stopping port holds back (R238). -/
def HostOp.onReq : HostOp → Bool
  | .memWr _ _ _ => false
  | _ => true

/-- What the check gives: a cause, a local entry, a remote entry, or a remote request that crew 255's stop holds. -/
inductive Checked where
  | fail (cause : Nat) (viral : Bool)
  | local (a : ActExt)
  | remote (a : ActRext)
  | hold
  deriving DecidableEq, Repr

/-- Whether a path to a switch is there: a valid route whose port's link is Active (R185). -/
def State.linkActive (s : State) (p : Nat) : Bool :=
  if s.fld PRT_CTL.ROLE p = 4 then s.fld LFL_STS.STATE (halfOf p) == 10
  else s.fld PRT_STS.STATE p == 4 && s.flag PRT_STS.LUP p

def State.routed (s : State) (sw : Nat) : Bool :=
  match s.routePort sw with
  | some p => s.linkActive p
  | none => false

/-- The check of a request against a port's active copy, in the order of R51 and R185. Held acts at once (R51), and so do
FENCED and the fence of crew 255 (R184, R185). While crew 255 is Stopped a coherent remote request is held before its other
checks; a writeback is no such request (R71). -/
def State.check (s : State) (p : Nat) (op : HostOp) (dpa : Option Nat) : Checked :=
  let q := s.port p
  match dpa with
  | none => .fail 5 false
  | some a =>
    let g := a / granule
    if s.fld PRT_DCR.SIZE_G p ≤ g then .fail 4 false
    else match q.ext.find? (fun e => e.base ≤ g && g < e.base + e.size) with
      | some e =>
        if s.fld SKN_W0.STATE e.skein = skHeld then
          .fail 2 (e.crew != noCrew && s.crewFenced e.crew)
        else if op.writes ∧ !e.wr then .fail 1 false
        else .local e
      | none => match q.rext.find? (fun e => e.base ≤ g && g < e.base + e.size) with
        | none => .fail 0 false
        | some r =>
          let coh := r.hcrew != noCrew
          if coh ∧ op.intent.isSome ∧ s.crewState 255 = 1 then .hold
          else if r.fenced ∨ (coh ∧ s.crewFenced 255) then .fail 2 coh
          else if op.writes ∧ !r.wr then .fail 1 false
          else if !s.routed r.hswid then .fail 2 coh
          else .remote r

/-- Viral signalled on a host link (R115, R235). -/
def State.signalViral (s : State) (p : Nat) : State := (s.setFld PRT_STS.VIRAL_TX 1 p).emit (.viral p)

/-- A port access fault (R52, R53). -/
def State.accessFault (s : State) (p cause hpa : Nat) (wr : Bool) : State :=
  let s := (s.count PRT_AF_CNT.CNT 1 p).portEvent p 0x03
  let s := s.capture64 ⟨.PRT_AF_LOG, p, 0⟩
    (wordOf (2 ^ 60 * cause + 2 ^ 56 * ((s.port p).epoch) + hpa / 64 % 2 ^ 46 * 64 + bit wr))
  s.report (slotAccess p)

/-- A host message answered without entering the core. -/
def State.answerHost (s : State) (p : Nat) (r : HostReq) (a : Reply) : State :=
  s.reply p { tag := 0, hostTag := r.tag, kind := .cln, phase := .held, feid := 0, crew := 0, mport := 0, addr := 0,
              slice := 0, epoch := 0 } a

/-- A request held at ingress (R56, R375). -/
def State.holdIngress (s : State) (p : Nat) (h : Held) : State := s.modPort p (fun q => { q with held := q.held ++ [h] })

/-- The outstanding entry of a host message, before its tag and epoch. -/
def HostReq.entry (r : HostReq) (s : State) (p : Nat) (kind : OutKind) (m : Metered) : OutEntry :=
  { tag := 0, hostTag := r.tag, kind := kind, phase := .held, feid := s.feidOf p, crew := noCrew, mport := 0, addr := 0,
    slice := 0, epoch := 0, colour := m.colour, delay := m.delay, eq := m.eq, poison := r.poison }

/-- A message that passed the check on a local entry (R51, R56, R95, R152, R582). -/
def State.admitLocal (s : State) (p : Nat) (r : HostReq) (a : ActExt) (dpa : Nat) : State :=
  let coh := a.crew != noCrew
  let addr := a.dbase * granule + (dpa - a.base * granule)
  match r.op with
  | .memSpecRd => s
  | .memInv .s => s.answerHost p r (.cmp .i)
  | .memInv .i => s.answerHost p r (.cmp .i)
  | .memInv .a =>
    if !coh then s.answerHost p r (.cmp .a)
    else if s.groupHolds a.group then s.holdIngress p (.host r (some a.group))
    else
      let (m, s) := s.meter p a.slice 0 r.dt
      s.takeEntry p { r.entry s p (.coh .eOwn) m with
        crew := a.crew, mport := a.mport, addr := addr, slice := homeSlice a.mport addr }
  | .memClnEvct =>
    if !coh then s.answerHost p r (.cmp .i)
    else s.takeEntry p { r.entry s p .cln {} with
      crew := a.crew, mport := a.mport, addr := addr, slice := homeSlice a.mport addr }
  | op =>
    let wb := coh && !op.intent.isSome
    if !wb ∧ s.groupHolds a.group then s.holdIngress p (.host r (some a.group))
    else
      let (m, s) := match op.meterClass coh with
        | some c => s.meter p a.slice c r.dt
        | none => (({ eq := 62 } : Metered), s)
      if m.drop then s.answerHost p r (.cmp .i)
      else
        let kind := match coh, op.intent, op with
          | true, some x, _ => OutKind.coh x
          | true, none, .memWr _ v _ => OutKind.wb v
          | true, none, _ => OutKind.wb .i
          | false, _, _ => if op.writes then OutKind.ncWrite else OutKind.ncRead op.grant
        s.takeEntry p { r.entry s p kind m with
          crew := a.crew, mport := a.mport, addr := addr, slice := if coh then homeSlice a.mport addr else 0 }

/-- The header of a remote request (R181, R185). -/
def State.remoteHdr (s : State) (p : Nat) (a : ActRext) (off : Nat) : FabHdr :=
  { dswid := a.hswid, sswid := s.fld CORE_FAB_ID.SWID, hops := s.hopsTo a.hswid, kind := 0, sfeid := s.feidOf p,
    dfeid := 0xFFF, hcrew := a.hcrew, hskein := a.hskein, offset := off / 64 }

/-- A message that passed the check on a remote entry (R185). -/
def State.admitRemote (s : State) (p : Nat) (r : HostReq) (a : ActRext) (dpa : Nat) : State :=
  let coh := a.hcrew != noCrew
  match r.op with
  | .memSpecRd => s
  | .memInv .s => s.answerHost p r (.cmp .i)
  | .memInv .i => s.answerHost p r (.cmp .i)
  | op =>
    if !coh ∧ op = .memInv .a then s.answerHost p r (.cmp .a)
    else if !coh ∧ op = .memClnEvct then s.answerHost p r (.cmp .i)
    else
      let (m, s) := match op.meterClass coh with
        | some c => s.meter p a.slice c r.dt
        | none => (({} : Metered), s)
      if m.drop then s.answerHost p r (.cmp .i)
      else
        let off := dpa - a.base * granule
        s.takeEntry p { r.entry s p (.remote op) m with
          crew := a.hcrew, mport := (s.routePort a.hswid).getD 0, addr := off, rext := some a.idx,
          fab := some (s.remoteHdr p a off) }

/-- One message of a host checked and admitted, answered or held (R51, R52, R56). A port whose drain tracker was reset holds what
travels on the M2S Req channel, as a stopping one does (R238, R375). -/
def State.ingress (s : State) (p : Nat) (r : HostReq) : State :=
  if (s.port p).trackerDown && r.op.onReq then s.holdIngress p (.host r none)
  else
    let s := s.portEvent p 0x02
    match s.check p r.op r.dpa with
    | .hold => s.holdIngress p (.host r none)
    | .fail c v =>
      let s := s.accessFault p c r.hpa r.op.writes
      let s := if v then s.signalViral p else s
      if r.op = .memSpecRd then s else s.answerHost p r (if r.op.isRead then .poison else .cmp .i)
    | .local a => s.admitLocal p r a (r.dpa.getD 0)
    | .remote a => s.admitRemote p r a (r.dpa.getD 0)

/-- Whether a host port takes a message: its link is up, and one of the M2S Req channel only while the port is Active, its
stop has not begun and it has not taken the safe notice (R234, R238, R487). -/
def State.hostTakes (s : State) (p : Nat) (op : HostOp) : Bool :=
  s.fld PRT_CTL.ROLE p == 1 && s.flag PRT_STS.LUP p &&
    (!op.onReq || (s.fld PRT_STS.STATE p == 4 && (s.fn (fidPort p)).run == .running && !(s.port p).safe))

/-- HOST_REQUEST (R51). -/
def execHostRequest (port : Fin 256) (r : HostReq) (s : State) : Host.Outcome State Fault Refusal :=
  if s.hostTakes port.val r.op then
    let s := if r.op.writes then s.portEvent port.val 0x04 64 else s
    .next (s.ingress port.val r)
  else .next s

end Sys2Proof.Machine
end

