-- ==== Sys2Proof/Machine/Agent.lean ====
section
/-! DEFINITION. The port agent's side of NACKs, parks, snoops, answers, grants and fences (spec/04 R100 to R116). -/

namespace Sys2Proof.Machine

/-- The first message in a port's inbox that satisfies a test, with the state without it. -/
def State.takeInbox (s : State) (p : Nat) (f : Msg → Bool) : Option (Msg × State) :=
  match takeFirst f (s.port p).inbox with
  | some (m, r) => some (m, s.modPort p (fun q => { q with inbox := r }))
  | none => none

/-- An entry of a port's outstanding table by its tag. -/
def State.entry (s : State) (p tag : Nat) : Option OutEntry := (s.port p).out.find? (fun e => e.tag == tag)

/-! BIConflict (R111) -/

/-- Whether an outstanding entry is a host's request for the line of a snoop. -/
def sameLine (e : OutEntry) (x : SnpEntry) : Bool :=
  match e.kind, x.fab with
  | .coh _, none => e.mport == x.mport && e.addr / 64 == x.addr / 64
  | .remote op, some h => op.intent.isSome && e.fab.any (fun g =>
      g.dswid == h.sswid && g.hskein == h.hskein && g.offset == h.offset)
  | _, _ => false

/-- Whether BIConflictAck may be sent for a snoop: no request of the host for its line still waits for a first answer. -/
def Port.ackable (q : Port) (x : SnpEntry) : Bool := q.out.all (fun e => !sameLine e x || e.answered)

/-- BIConflictAck sent for every snoop that waits for one and may have it (R111). -/
def State.ackConflicts (s : State) (p : Nat) : State :=
  let q := s.port p
  let due := fun (x : SnpEntry) => x.conflict && q.ackable x
  let s := s.each (q.snoops.filter due) (fun s x => s.emit (.biConflictAck p x.mport x.addr))
  s.modPort p (fun q => { q with snoops := mapWhere due (fun x => { x with conflict := false }) q.snoops })

/-! NACK and park notice (R106, R110, R111) -/

/-- The back-off window of a crew in units of 8 ns, and the draw from it (R106). -/
def State.drawBackoff (s : State) (c : Nat) : Nat × State :=
  let lo := s.fld CRW_CTL.BO_MIN c
  let hi := s.fld CRW_CTL.BO_MAX c
  let (n, s) := s.draw
  (lo + Config.random n % (hi - lo + 1), s)

/-- NACK_RECEIVED (R106). -/
def execNackReceived (port : Fin 256) (s : State) : Host.Outcome State Fault Refusal :=
  let p := port.val
  match s.takeInbox p (fun m => m.body == .nack) with
  | none => .next s
  | some (m, s) =>
    let s := s.portEvent p 0x08
    match s.entry p m.tag with
    | none => .next s
    | some e =>
      let (b, s) := s.drawBackoff e.crew
      .next ((s.setEntry p { e with phase := .backoff, answered := true, backoff := b, resend := true }).ackConflicts p)

/-- BACKOFF_EXPIRY (R106): the request is sent again, or held where its crew or its slice has stopped (R71, R109). -/
def execBackoffExpiry (port : Fin 256) (tag : Nat) (s : State) : Host.Outcome State Fault Refusal :=
  let p := port.val
  match s.entry p tag with
  | none => .next s
  | some e =>
    if e.phase ≠ .backoff then .next s
    else
      let e := { e with phase := .held }
      let s := s.setEntry p e
      .next (if s.sendable p e then s.sendEntry p e else s)

/-- PARK_NOTICE_RECEIVED (R110, R111). -/
def execParkNoticeReceived (port : Fin 256) (s : State) : Host.Outcome State Fault Refusal :=
  let p := port.val
  match s.takeInbox p (fun m => m.body == .parkNotice) with
  | none => .next s
  | some (m, s) =>
    let s := s.portEvent p 0x08
    match s.entry p m.tag with
    | none => .next s
    | some e => .next ((s.setEntry p { e with phase := .parked, answered := true }).ackConflicts p)

/-! Back-invalidates (R100, R112, R113) -/

/-- The lines of a granule, as OFFSET counts them (R181). -/
def granuleLines : Nat := 0x400000

/-- Whether an active binding of a host port maps the line of a snoop (R100). -/
def Port.maps (q : Port) (m : Msg) : Bool :=
  match m.fab with
  | none => q.ext.any (fun a => a.mport == m.mport && a.dbase ≤ m.addr / granule && m.addr / granule < a.dbase + a.size)
  | some h => q.rext.any (fun a => a.hswid == h.sswid && a.hcrew == h.hcrew && a.hskein == h.hskein &&
      h.offset < a.size * granuleLines)

/-- The kind of a snoop message. -/
def Body.snp : Body → Option Snp
  | .snoop k => some k
  | _ => none

/-- The header of an answer to a snoop of another switch (R191). -/
def State.snoopAnswerHdr (s : State) (p : Nat) (h : FabHdr) : FabHdr :=
  { h with dswid := h.sswid, sswid := s.fld CORE_FAB_ID.SWID, hops := s.hopsTo h.sswid, kind := 0,
           sfeid := s.feidOf p, dfeid := 0xFFF }

/-- The header of a snoop that another switch sent; none for a snoop of a slice of this one. -/
def State.awayHdr (s : State) (x : SnpEntry) : Option FabHdr := x.fab.filter (fun h => h.sswid != s.fld CORE_FAB_ID.SWID)

/-- An answer of a port agent to a snoop: to the home slice, or toward the home switch (R93, R191). -/
def State.sendAnswer (s : State) (p : Nat) (x : SnpEntry) (a : Ans) : State :=
  let m : Msg := { body := .answer x.kind a, src := p, cls := 2, feid := x.feid, port := p, slice := x.slice, crew := x.crew,
                   mport := x.mport, addr := x.addr }
  let s := s.portEvent p 0x06
  match s.awayHdr x with
  | none => s.send { m with dsts := [epSlice x.slice] }
  | some h => match s.routePort h.sswid with
    | some r => s.send { m with dsts := [r], len := 32, fab := some (s.snoopAnswerHdr p h) }
    | none => s

/-- The skein that holds a device address, and the offset in it. -/
def State.skeinAt (s : State) (mport addr : Nat) : Option (Nat × Nat) :=
  let g := addr / granule
  (s.skeins.find? (fun n => s.fld SKN_W0.MPORT n == mport && s.fld SKN_W0.DBASE n ≤ g &&
    g < s.fld SKN_W0.DBASE n + skeinGranules (s.fld SKN_W0.SIZE n))).map
    (fun n => (n, addr - s.fld SKN_W0.DBASE n * granule))

/-- The header of a snoop to a remote agent (R181, R191). -/
def State.snoopHdr (s : State) (m : Msg) (f : Nat) : FabHdr :=
  let sw := s.fld CORE_FEID_MAP.SWID f
  let (n, off) := (s.skeinAt m.mport m.addr).getD (0, 0)
  { dswid := sw, sswid := s.fld CORE_FAB_ID.SWID, hops := s.hopsTo sw, kind := 1, sfeid := 0xFFF, dfeid := f,
    hcrew := m.crew, hskein := n, offset := off / 64 }

/-- The snoop entry of a snoop for one agent. -/
def snoopEntry (m : Msg) (k : Snp) (f : Nat) : SnpEntry :=
  { slice := m.slice, crew := m.crew, feid := f, mport := m.mport, addr := m.addr, kind := k, tmo := m.tmo, fab := m.fab }

def State.addSnoop (s : State) (p : Nat) (x : SnpEntry) : State :=
  s.modPort p (fun q => { q with snoops := q.snoops ++ [x] })

/-- The agent of a host port that a snoop is for: the one of its targets that the port serves (R100). -/
def State.snoopedAgent (s : State) (p : Nat) (m : Msg) : Nat :=
  (m.agents.find? (fun f => s.agentPort f == some p)).getD (s.feidOf p)

/-- The delivery of a snoop at a host port (R100, R113). -/
def State.deliverHost (s : State) (p : Nat) (m : Msg) (k : Snp) : State :=
  let f := s.snoopedAgent p m
  let x := snoopEntry m k f
  if !(s.port p).maps m then s.sendAnswer p x .i
  else if !s.linkActive p then
    if m.fab.isNone then (s.causeFence { cause := 2, unit := octetOf p, crews := .one m.crew, slice := some m.slice, feid := f }).report
      (slotPort p) else s
  else ((s.addSnoop p { x with timed := m.fab.isNone }).portEvent p 0x09).emit (.hostSnoop p k m.mport m.addr)

/-- The delivery of a snoop at the fabric port by which an agent is reached: a packet for its switch. The timer starts when
the packet's flit leaves (R112). -/
def State.deliverFabric (s : State) (p : Nat) (m : Msg) (k : Snp) (f : Nat) : State :=
  if s.agentPort f ≠ some p ∨ !s.linkActive p then
    (s.causeFence { cause := 3, unit := octetOf p, crews := .one m.crew, slice := some m.slice, feid := f }).report
      (slotPort p)
  else
    let h := s.snoopHdr m f
    let s := (s.addSnoop p { snoopEntry m k f with fab := some h }).portEvent p 0x09
    s.modPort p (fun q => { q with linkTx := q.linkTx ++ [{ m with feid := f, len := 32, fab := some h }] })

/-- BACK_INVALIDATE_DELIVERY (R100). -/
def execBackInvalidateDelivery (port : Fin 256) (s : State) : Host.Outcome State Fault Refusal :=
  let p := port.val
  match s.takeInbox p (fun m => m.body.snp.isSome) with
  | none => .next s
  | some (m, s) =>
    let k := m.body.snp.getD .inv
    if s.fld PRT_CTL.ROLE p = 4 then
      .next (s.each (m.agents.filter (fun f => s.agentPort f == some p)) (fun s f => s.deliverFabric p m k f))
    else .next (s.deliverHost p m k)

/-- Whether an answer satisfies a snoop (R101). -/
def Snp.satisfied : Snp → Ans → Bool
  | .inv, .i => true
  | .inv, .s => false
  | .inv, .e => false
  | .data, .e => false
  | .data, _ => true
  | .cur, _ => true

/-- The snoop entry at a position of a port's list removed. -/
def State.dropSnoop (s : State) (p n : Nat) : State :=
  s.modPort p (fun q => { q with snoops := q.snoops.eraseIdx n })

/-- A snoop answer that has reached its port agent: of the host, or of a remote agent (R101, R112). -/
def State.takeAnswer (s : State) (p n : Nat) (a : Ans) (tie : Bool) : State :=
  match (s.port p).snoops[n]? with
  | none => s.count PRT_SNP_DISC.CNT 1 p
  | some x =>
    if x.expired then (s.dropSnoop p n).lateArrival (octetOf p)
    else if !x.kind.satisfied a then s.count PRT_SNP_DISC.CNT 1 p
    else
      let s := if tie && x.timed then s.nearMiss (octetOf p) else s
      (s.dropSnoop p n).sendAnswer p x a

/-- HOST_SNOOP_ANSWER (R112): the host answers the snoop at a position of its port's list, or one that the port does not
hold. tie says that the answer is taken on the tick on which the snoop's timer expires (R15). -/
def execHostSnoopAnswer (port : Fin 256) (which : Nat) (a : Ans) (tie : Bool) (s : State) :
    Host.Outcome State Fault Refusal := .next (s.takeAnswer port.val which a tie)

/-- BICONFLICT (R111). -/
def execBiconflict (port : Fin 256) (which : Nat) (s : State) : Host.Outcome State Fault Refusal :=
  let p := port.val
  let s := s.count PRT_BICONF_CNT.CNT 1 p
  .next ((s.modPort p (fun q => { q with
    snoops := q.snoops.modify which (fun x => { x with conflict := true }) })).ackConflicts p)

/-- SNOOP_TIMEOUT (R112). -/
def execSnoopTimeout (port : Fin 256) (which : Nat) (s : State) : Host.Outcome State Fault Refusal :=
  let p := port.val
  match (s.port p).snoops[which]? with
  | none => .next s
  | some x =>
    if !x.timed ∨ x.expired then .next s
    else
      let s := s.modPort p (fun q => { q with
        snoops := q.snoops.modify which (fun x => { x with expired := true, timed := false }) })
      .next ((s.causeFence { cause := 2, unit := octetOf p, crews := .one x.crew, slice := some x.slice,
                             feid := x.feid }).report (slotPort p))

/-! Data and grants (R99) -/

/-- The reply that a data or grant message is. -/
def Body.reply (poison : Bool) : Body → Option Reply
  | .data m => some (.data m poison)
  | .cmp m => some (.cmp m)
  | _ => none

/-- DATA_TO_REQUESTER (R99). A message for which no entry is held is discarded (R116). -/
def execDataToRequester (port : Fin 256) (s : State) : Host.Outcome State Fault Refusal :=
  let p := port.val
  match s.takeInbox p (fun m => (m.body.reply m.poison).isSome) with
  | none => .next s
  | some (m, s) =>
    match s.entry p m.tag, m.body.reply m.poison with
    | some e, some r => .next (((s.reply p e r).dropEntry p e.tag).ackConflicts p)
    | _, _ => .next s

/-! Fences and stops at a port agent (R109, R115, R116) -/

/-- Every outstanding entry of a port that a test selects taken out of the table, with the credits that they had spent given
back (R108, R115). -/
def State.dropEntries (s : State) (p : Nat) (f : OutEntry → Bool) : State :=
  let es := (s.port p).out.filter f
  (s.modPort p (fun q => { q with out := q.out.filter (fun e => !f e) })).each es (fun s e =>
    if e.credit then s.creditBack p e.slice else s)

/-- Every outstanding entry of a port that a test selects ended in error: answered and out of the table (R115). -/
def State.endEntries (s : State) (p : Nat) (f : OutEntry → Bool) : State :=
  let es := (s.port p).out.filter f
  ((s.dropEntries p f).each es (fun s e => s.reply p e e.kind.errorReply)).ackConflicts p

/-- Whether an entry belongs to a local crew, or to the coherent remote entries that crew 255 serves. -/
def OutEntry.ofCrew (e : OutEntry) (c : Nat) : Bool :=
  match e.kind with
  | .remote _ => c == 255 && e.crew != noCrew
  | _ => e.crew == c && c != noCrew

/-- What a port agent does on a fence notice (R115 step 3). -/
def State.fenceAgent (s : State) (p c : Nat) : State :=
  let s := if s.role p = 1 ∧ s.member c (s.feidOf p) then s.signalViral p else s
  let s := s.endEntries p (fun e => e.ofCrew c)
  s.modPort p (fun q => { q with snoops := q.snoops.filter (fun x => !(x.crew == c && (s.awayHdr x).isNone)) })

/-- SLICE_STOP_TAKEN (R109). -/
def execSliceStopTaken (port : Fin 256) (slice : Fin 64) (s : State) : Host.Outcome State Fault Refusal :=
  let d := slice.val
  if (s.fn (fidSlice d)).run = .stopping ∧ !(s.port port.val).stops.contains d then
    .next (s.modPort port.val (fun q => { q with stops := q.stops ++ [d] }))
  else .next s

end Sys2Proof.Machine
end

