-- ==== Sys2Proof/Machine/Directory.lean ====
section
/-! DEFINITION. The directory of a slice: entries, ways, sharers, lookups, admission, conflicts, evictions, the writeback
lane, answers and completion notices, parked requests (spec/03 R77 to R92, spec/04 R96 to R110, R119). -/

namespace Sys2Proof.Machine

/-! Entries -/

/-- The pipeline of a set (R77). -/
def pipeOf (set : Nat) : Nat := set % 2

def Slice.entry (q : Slice) (set way : Nat) : DirEntry := tabGet (fun _ => {}) q.entries (16 * set + way)

def Slice.setEntry (q : Slice) (set way : Nat) (e : DirEntry) : Slice :=
  { q with entries := tabSet id (fun _ => {}) q.entries (16 * set + way) e }

/-- The way of a set that holds a sector's entry. -/
def Slice.find (q : Slice) (set tag : Nat) : Option Nat :=
  (List.range 16).find? (fun w => (q.entry set w).v && (q.entry set w).tag == tag)

/-- The LRU ranks of a set, by way; reset leaves way w at rank w (R85). -/
def Slice.ranks (q : Slice) (set : Nat) : List Nat := tabGet (fun _ => List.range 16) q.lru set

/-- The touched way takes rank 0; every way whose rank was lower rises by one (R85). -/
def Slice.touch (q : Slice) (set way : Nat) : Slice :=
  let rs := q.ranks set
  let old := rs.getD way 0
  let new := (List.range 16).map (fun w =>
    let r := rs.getD w 0
    if w = way then 0 else if r < old then r + 1 else r)
  { q with lru := tabSet id (fun _ => List.range 16) q.lru set new }

/-- The state of a line (R79). -/
def DirEntry.line (e : DirEntry) (i : Nat) : LineState :=
  match e.lst.getLsbD (2 * i + 1), e.lst.getLsbD (2 * i) with
  | false, false => .i
  | false, true => .s
  | true, false => .e
  | true, true => .pending

def LineState.code : LineState → Nat
  | .i => 0
  | .s => 1
  | .e => 2
  | .pending => 3

def DirEntry.setLine (e : DirEntry) (i : Nat) (l : LineState) : DirEntry :=
  { e with lst := (e.lst &&& ~~~(3#32 <<< (2 * i))) ||| (BitVec.ofNat 32 l.code <<< (2 * i)) }

/-- The 16-bit slot k of an exact sharer field (R80). -/
def slot16 (v : BitVec 64) (k : Nat) : Nat := v.toNat / 2 ^ (16 * k) % 2 ^ 16

/-- The FEIDs in the valid slots of an exact entry. -/
def DirEntry.exact (e : DirEntry) : List Nat :=
  ((List.range 4).filter (fun k => 2 ^ 15 ≤ slot16 e.shr k)).map (fun k => slot16 e.shr k % 2 ^ 12)

/-- The agents that the sharer field names (R80). -/
def State.sharers (s : State) (e : DirEntry) : List Nat :=
  if e.shm then (s.members e.crew).filter (fun f => e.shr.getLsbD (f / 64)) else e.exact

/-- An agent recorded in the sharer field (R81). -/
def DirEntry.record (e : DirEntry) (f : Nat) : DirEntry :=
  let group := fun (v : BitVec 64) g => v ||| (1#64 <<< (g / 64))
  if e.shm then { e with shr := group e.shr f }
  else if e.exact.contains f then e
  else match (List.range 4).find? (fun k => slot16 e.shr k < 2 ^ 15) with
    | some k => { e with shr := putBits e.shr (16 * k + 15) (16 * k) (2 ^ 15 + f) }
    | none => { e with shm := true, shr := (f :: e.exact).foldl group 0 }

/-- The valid entries of a crew change its count (R70, R83). -/
def State.entCount (s : State) (c : Nat) (up : Bool) : State :=
  if up then s.setFld CRW_ENT_CNT.CNT (s.fld CRW_ENT_CNT.CNT c + 1) c
  else s.setFld CRW_ENT_CNT.CNT (s.fld CRW_ENT_CNT.CNT c - 1) c

def State.dirEntry (s : State) (d set way : Nat) : DirEntry := (s.slice d).entry set way

def State.setDirEntry (s : State) (d set way : Nat) (e : DirEntry) : State :=
  s.modSlice d (fun q => q.setEntry set way e)

/-- A way freed (R83): V cleared, and the crew's count lowered. -/
def State.freeWay (s : State) (d set way : Nat) : State :=
  let e := s.dirEntry d set way
  if e.v then (s.setDirEntry d set way { e with v := false }).entCount e.crew false else s

/-! Ready parked requests (R110) -/

/-- Whether a set has a way that a parked request can use. -/
def Slice.usable (q : Slice) (set : Nat) : Bool :=
  (List.range 16).any (fun w => !(q.entry set w).v) ||
    ((List.range 16).any (fun w => (q.entry set w).otc == 0) && !q.evicts.any (fun e => e.set == set))

/-- Whether a line is not pending. -/
def Slice.lineFree (q : Slice) (mport addr : Nat) : Bool :=
  let set := homeSet mport addr
  match q.find set (homeTag mport addr) with
  | some w => (q.entry set w).line (lineOf addr) != .pending
  | none => true

/-- The parked requests whose line or set has come free are ready (R110). -/
def Slice.wake (q : Slice) : Slice :=
  { q with retry := q.retry.map (fun r => match r.wait with
      | .line p a => { r with ready := r.ready || q.lineFree p a }
      | .set n => { r with ready := r.ready || q.usable n }) }

/-- A sector's entry after a change: freed once every line is I and OTC is 0 (R83), and what waits on it made ready. -/
def State.settle (s : State) (d set way : Nat) : State :=
  let e := s.dirEntry d set way
  let s := if e.v ∧ e.lst = 0 ∧ e.otc = 0 then s.freeWay d set way else s
  s.modSlice d Slice.wake

/-! Messages of a slice -/

/-- The header fields that a slice copies from a request (R99, R157). -/
def Msg.fromReq (m : Msg) (d : Nat) : Msg :=
  { m with src := epSlice d, slice := d, fromSlice := true, len := 16, agents := [], fab := none }

/-- NACK (R65, R106). -/
def State.nack (s : State) (d : Nat) (m : Msg) : State :=
  ((s.countWrap DIR_NACK_CNT.CNT 1 d).event (islandSlice d) 0x03).send
    { m.fromReq d with body := .nack, dsts := [m.port], cls := 3, poison := false }

/-- A memory read that a slice issues for a request (R99). -/
def State.issueRead (s : State) (d : Nat) (m : Msg) (g : MetaVal) : State :=
  s.send { m.fromReq d with body := .memRead g, dsts := [m.mport], cls := 4, poison := false }

/-- A grant without data (R93). -/
def State.grant (s : State) (d : Nat) (m : Msg) (g : MetaVal) : State :=
  s.send { m.fromReq d with body := .cmp g, dsts := [m.port], cls := 3, poison := false }

/-- The write-in-progress entries of a pipeline (R102). -/
def wipSize : Nat := 256

def Slice.wipFull (q : Slice) (pipe : Nat) : Bool := wipSize ≤ (q.wip.filter (fun w => w.pipe == pipe)).length

def Slice.wipHas (q : Slice) (mport addr : Nat) : Bool :=
  q.wip.any (fun w => w.mport == mport && w.addr / 64 == addr / 64)

/-- A memory write that a slice issues (R93, R102): it takes a write-in-progress entry. -/
def State.issueWrite (s : State) (d : Nat) (m : Msg) : State :=
  let s := s.modSlice d (fun q => { q with wip := q.wip ++ [⟨m.mport, m.addr, pipeOf (homeSet m.mport m.addr)⟩] })
  s.send { m.fromReq d with body := .memWrite, dsts := [m.mport], cls := 2, len := 80 }

/-! Transactions (R96 to R98, R102) -/

/-- The way that holds the entry of a line at its home slice. -/
def State.wayOf (s : State) (d mport addr : Nat) : Option Nat :=
  (s.slice d).find (homeSet mport addr) (homeTag mport addr)

/-- The close of a transaction on a line: OTC falls and the line takes a state (R98). A way that has lost the sector's entry
since, by an error of R87, is left alone. -/
def State.closeLine (s : State) (d set way tag line : Nat) (l : LineState) : State :=
  let e := s.dirEntry d set way
  if e.v ∧ e.tag = tag then
    (s.setDirEntry d set way { e.setLine line l with otc := e.otc - 1 }).settle d set way
  else s

/-- A transaction left open, at a stage. -/
def State.keepTxn (s : State) (d : Nat) (t : Txn) (st : TxnStage) : State :=
  s.modSlice d (fun q => { q with txns := q.txns ++ [{ t with stage := st }] })

/-- The close of a request's transaction, where it raised OTC. -/
def State.closeTxn (s : State) (d : Nat) (t : Txn) (l : LineState) : State :=
  if t.counted then s.closeLine d t.set t.way (homeTag t.mport t.addr) (lineOf t.addr) l else s

/-- What a transaction does once its snoops are answered (R96, R98, R102): it waits for the line's write-in-progress entry, and a
write also for room in the table. -/
def State.proceed (s : State) (d : Nat) (t : Txn) : State :=
  let q := s.slice d
  match t.kind with
  | .evict => s.keepTxn d t .issued
  | .request .iWrite =>
    if q.wipHas t.mport t.addr then s.keepTxn d t .waitWip
    else if q.wipFull (pipeOf t.set) then s.keepTxn d t .waitRoom else (s.issueWrite d t.req).closeTxn d t .i
  | .request x =>
    if q.wipHas t.mport t.addr then s.keepTxn d t .waitWip
    else match x with
      | .eOwn => (s.grant d t.req .a).closeTxn d t .e
      | .eRead => (s.issueRead d t.req .a).keepTxn d t .issued
      | .sRead => (s.issueRead d t.req .s).keepTxn d t .issued
      | _ =>
        let s := s.issueRead d t.req .i
        if t.counted then s.keepTxn d t .issued else s

/-- The transactions that wait for a freed write-in-progress entry taken up again, in their order (R102). -/
def State.resume (s : State) (d : Nat) : State :=
  let ws := (s.slice d).txns.filter (fun t => t.stage == .waitWip || t.stage == .waitRoom)
  let s := s.modSlice d (fun q => { q with txns := q.txns.filter (fun t => !(t.stage == .waitWip || t.stage == .waitRoom)) })
  s.each ws (fun s t => s.proceed d t)

/-! Snoops (R100, R113) -/

/-- A back-invalidate for one line sent to agents. An FEID without a valid map entry is not sent to and fences the crew
(R113). -/
def State.sendSnoop (s : State) (d c mport addr : Nat) (k : Snp) (agents : List Nat) : State :=
  let ok := agents.filter (fun f => (s.agentPort f).isSome)
  let s := s.each (agents.filter (fun f => (s.agentPort f).isNone)) (fun s f =>
    s.causeFence { cause := 3, unit := slotSlice d, crews := .one c, slice := some d, feid := f })
  if ok.isEmpty then s
  else
    (s.event (islandSlice d) 0x08).send
      { body := .snoop k, src := epSlice d, dsts := ((ok.filterMap s.agentPort).eraseDups).mergeSort, cls := 1, slice := d,
        crew := c, mport := mport, addr := addr, tmo := s.fld CRW_CTL.SNP_TMO c, agents := ok, fromSlice := true }

/-- A transaction opened with a snoop of agents; with none to snoop it proceeds at once. -/
def State.openTxn (s : State) (d : Nat) (t : Txn) (agents : List Nat) : State :=
  let s := if agents.isEmpty then s else s.sendSnoop d t.crew t.mport t.addr t.snp agents
  if agents.isEmpty then s.proceed d t else s.keepTxn d { t with awaiting := agents } .snooping

/-! Evictions (R86) -/

/-- The start of an eviction of a way: its lines pending, a round for each. flush marks one that SCAN starts. -/
def State.startEvict (s : State) (d set way : Nat) (flush : Bool) : State :=
  let e := s.dirEntry d set way
  let lines := (List.range 16).filter (fun i => e.line i != .i)
  let agents := s.sharers e
  let (mport, base) := sectorOf e.tag set
  let e' := lines.foldl (fun e i => e.setLine i .pending) { e with otc := e.otc + 1 }
  let s := s.setDirEntry d set way e'
  let s := s.modSlice d (fun q => { q with evicts := q.evicts ++ [⟨set, way, e.crew, flush⟩] })
  s.each lines (fun s i => s.openTxn d
    { kind := .evict, req := { body := .mgmt }, set := set, way := way, mport := mport, addr := base + 64 * i,
      crew := e.crew, stage := .snooping, snp := .inv } agents)

/-- Whether every round of an eviction is done: its answers in, and the writebacks that they produced acknowledged. -/
def Slice.evictDone (q : Slice) (set way : Nat) : Bool :=
  q.txns.all (fun t => !(t.kind == .evict && t.set == set && t.way == way) ||
    (t.awaiting.isEmpty && !q.wipHas t.mport t.addr))

/-- Entries counted or evicted by the SCAN in progress (R350). -/
def State.scanCount (s : State) (n : Nat) : State :=
  match s.eng.scans with
  | [] => s
  | c :: cs => { s with eng := { s.eng with scans := { c with count := c.count + n } :: cs } }

/-- EVICTION_COMPLETE (R86 step 4). -/
def execEvictionComplete (slice : Fin 64) (set : Fin 2048) (way : Fin 16) (s : State) :
    Host.Outcome State Fault Refusal :=
  let d := slice.val
  let q := s.slice d
  if q.evicts.any (fun e => e.set == set.val && e.way == way.val) && q.evictDone set.val way.val then
    let s := if q.evicts.any (fun e => e.set == set.val && e.way == way.val && e.flush) then s.scanCount 1 else s
    let s := s.modSlice d (fun q => { q with
      evicts := q.evicts.filter (fun e => !(e.set == set.val && e.way == way.val)),
      txns := q.txns.filter (fun t => !(t.kind == .evict && t.set == set.val && t.way == way.val)) })
    let s := s.freeWay d set.val way.val
    let s := (s.countWrap DIR_EVICT_CNT.CNT 1 d).event (islandSlice d) 0x06
    .next (s.modSlice d Slice.wake)
  else .next s

/-! Errors in entries (R87) -/

/-- The records that a slice keeps of an entry that an error has taken from its way: its eviction, with the rounds of it. -/
def Slice.forget (q : Slice) (set way : Nat) : Slice :=
  { q with evicts := q.evicts.filter (fun e => !(e.set == set && e.way == way)),
           txns := q.txns.filter (fun t => !(t.kind == .evict && t.set == set && t.way == way)) }

/-- One way's ECC check (R87). A way that is lost is freed or cleared, and its eviction goes with it: its crew is fenced. -/
def State.eccWay (s : State) (d set : Nat) (o : Nat × EccObs) : State :=
  let e := s.dirEntry d set o.1
  match o.2 with
  | .ce => s.count DIR_ECC_CNT.CE 1 d
  | .ceCheck _ => s.count DIR_ECC_CNT.CE 1 d
  | .ueShadowGood =>
    let s := ((s.count DIR_ECC_CNT.UE 1 d).report (slotSlice d)).modSlice d (fun q => q.forget set o.1)
    if e.v then (s.freeWay d set o.1).causeFence
      { cause := 1, unit := slotSlice d, crews := .one e.crew, slice := some d }
    else s.setDirEntry d set o.1 {}
  | .ueShadowBad =>
    ((((s.count DIR_ECC_CNT.UE 1 d).report (slotSlice d)).modSlice d (fun q => q.forget set o.1)).setDirEntry d set o.1
      {}).causeFence { cause := 1, unit := slotSlice d, crews := .all, slice := some d }

/-- The ECC checks of a lookup, by way; what waited for a way that they have freed is ready (R110). -/
def State.eccCheck (s : State) (d set : Nat) (os : List (Fin 16 × EccObs)) : State :=
  if os.isEmpty then s else (s.each os (fun s o => s.eccWay d set (o.1.val, o.2))).modSlice d Slice.wake

/-- Whether a crew's fence has been caused by a slice, or its notice taken there (R87, R116). -/
def State.fencedAt (s : State) (d c : Nat) : Bool :=
  (s.slice d).fenced.contains c ||
    s.flt.fences.any (fun f => f.cause == 1 && f.slice == some d && f.crews.crews.contains c)

/-! Lookups (R83 to R86, R96, R97, R104, R110) -/

/-- What a lookup finds: the way to use, with a new entry where it allocates; no entry and none needed; or a conflict, with
what the request would wait on, and the way to evict for it. -/
inductive Found where
  | way (w : Nat)
  | alloc (w : Nat)
  | none
  | conflict (wait : ParkWait) (evict : Option Nat) (pinned : Bool)
  deriving DecidableEq, Repr

/-- Whether an earlier ready parked request reserves a line, or a set (R110). -/
def Slice.lineReserved (q : Slice) (mport addr : Nat) : Bool :=
  q.retry.any (fun r => r.ready && (match r.wait with
    | .line p a => p == mport && a / 64 == addr / 64
    | .set _ => false))

def Slice.setReserved (q : Slice) (set : Nat) : Bool :=
  q.retry.any (fun r => r.ready && (match r.wait with
    | .line _ _ => false
    | .set n => n == set))

/-- The way for an allocation (R85): the lowest invalid one, else the unpinned one of highest rank, which must first be
evicted, else none. A victim whose crew's fence notice the slice has taken is freed at once (R86). -/
def Slice.victim (q : Slice) (set : Nat) (line : ParkWait) : Found :=
  match (List.range 16).find? (fun w => !(q.entry set w).v) with
  | some w => .alloc w
  | none =>
    let free := (List.range 16).filter (fun w => (q.entry set w).otc == 0)
    let worst := free.foldl (fun b w => match b with
      | some x => if (q.ranks set).getD x 0 < (q.ranks set).getD w 0 then some w else b
      | none => some w) (none : Option Nat)
    match worst with
    | none => .conflict line none true
    | some w => if q.fenced.contains (q.entry set w).crew then .alloc w else .conflict line (some w) false

/-- Whether an intent allocates an entry where there is none (R83). -/
def Intent.allocates : Intent → Bool
  | .eRead => true
  | .eOwn => true
  | .sRead => true
  | .iRead => false
  | .iWrite => false

/-- Whether a request on a line in a state raises OTC (R97). -/
def Intent.counts (x : Intent) (l : LineState) : Bool :=
  match x, l with
  | .iRead, .e => true
  | .iRead, _ => false
  | .iWrite, .i => false
  | .iWrite, _ => true
  | _, _ => true

/-- The lookup of a request. fresh is false for the replay of a parked request, which no reservation stops. -/
def Slice.lookup (q : Slice) (x : Intent) (mport addr : Nat) (fresh : Bool) : Found :=
  let set := homeSet mport addr
  if fresh ∧ q.lineReserved mport addr then .conflict (.line mport addr) none false
  else match q.find set (homeTag mport addr) with
    | some w =>
      let e := q.entry set w
      let l := e.line (lineOf addr)
      if l = .pending ∨ (e.otc = 63 ∧ x.counts l) then .conflict (.line mport addr) none false else .way w
    | none =>
      if !x.allocates then .none
      else if fresh ∧ q.setReserved set then .conflict (.set set) none false
      else q.victim set (.set set)

/-- The snoop that a request sends on a line in a state (R96). -/
def Intent.snoop (x : Intent) (l : LineState) : Option Snp :=
  match x, l with
  | .eRead, .s => some .inv
  | .eRead, .e => some .inv
  | .eOwn, .s => some .inv
  | .eOwn, .e => some .inv
  | .sRead, .e => some .data
  | .iRead, .e => some .cur
  | .iWrite, .s => some .inv
  | .iWrite, .e => some .inv
  | _, _ => none

/-- A request that needs no entry (R96, R97). -/
def State.admitBare (s : State) (d : Nat) (m : Msg) (x : Intent) : State :=
  s.proceed d { kind := .request x, req := m, set := homeSet m.mport m.addr, way := 0, mport := m.mport, addr := m.addr,
                crew := m.crew, stage := .issued, counted := false }

/-- A request admitted at a way that holds its sector's entry (R96, R97): touched, the requester recorded, the line
pending and OTC raised where R97 says so, its snoop sent. -/
def State.admitAt (s : State) (d : Nat) (m : Msg) (x : Intent) (w : Nat) : State :=
  let set := homeSet m.mport m.addr
  let i := lineOf m.addr
  let e := s.dirEntry d set w
  let l := e.line i
  let targets := (s.sharers e).filter (fun f => f != m.feid)
  let s := s.modSlice d (fun q => q.touch set w)
  let e' := if x.allocates then e.record m.feid else e
  let s := s.setDirEntry d set w (if x.counts l then { e'.setLine i .pending with otc := e'.otc + 1 } else e')
  s.openTxn d { kind := .request x, req := m, set := set, way := w, mport := m.mport, addr := m.addr, crew := m.crew,
                stage := .snooping, snp := (x.snoop l).getD .inv, counted := x.counts l }
    (if (x.snoop l).isSome then targets else [])

/-- A new entry for a request's sector (R83). -/
def State.allocWay (s : State) (d : Nat) (m : Msg) (w : Nat) : State :=
  let set := homeSet m.mport m.addr
  ((s.freeWay d set w).setDirEntry d set w
    { v := true, tag := homeTag m.mport m.addr, crew := m.crew }).entCount m.crew true

/-- A request that is admitted has its credit back (R108). -/
def State.creditAdmitted (s : State) (m : Msg) : State :=
  match s.entry m.port m.tag with
  | some e => if e.credit then (s.setEntry m.port { e with credit := false }).creditBack m.port e.slice else s
  | none => s

/-- One slot's lookup of a request (R96). The answer says whether it was admitted; old is the place of a parked request that
is replayed. -/
def State.serve (s : State) (d : Nat) (m : Msg) (x : Intent) (fresh : Bool) : State × Option ParkWait :=
  match (s.slice d).lookup x m.mport m.addr fresh with
  | .none => ((s.creditAdmitted m).admitBare d m x, none)
  | .way w => ((s.creditAdmitted m).admitAt d m x w, none)
  | .alloc w => (((s.creditAdmitted m).allocWay d m w).admitAt d m x w, none)
  | .conflict w ev pin =>
    let s := if pin then (s.count DIR_PIN_CNT.CNT 1 d).event (islandSlice d) 0x05 else s
    match ev with
    | some v => (s.startEvict d (homeSet m.mport m.addr) v false, some w)
    | none => (s, some w)

/-- Slot accounting: total n of a slice raised by one while it runs and EN is set (R507). n is 1 retired, 2 wasted. -/
def State.slot (s : State) (d n : Nat) : State :=
  if (s.fn (fidSlice d)).run = .running ∧ s.flag DIR_TD_CTL.EN d then
    s.modSlice d (fun q => { q with td := q.td.modify n (· + 1) })
  else s

/-- The intent of a coherent request message. -/
def Body.coh : Body → Option Intent
  | .cohReq x => some x
  | _ => none

/-- A park (R110): into the retry queue, with a notice to the port agent. -/
def State.park (s : State) (d : Nat) (m : Msg) (w : ParkWait) : State :=
  let s := s.modSlice d (fun q => { q with
    retry := q.retry ++ [{ req := m, pipe := pipeOf (homeSet m.mport m.addr), wait := w }] })
  ((s.countWrap DIR_PARK_CNT.CNT 1 d).event (islandSlice d) 0x04).send
    { m.fromReq d with body := .parkNotice, dsts := [m.port], cls := 3, poison := false }

/-- dt slice cycles go by: the arbiter's pointer advances, and in a new cycle no pipeline has used its lane or its slot
(R104). -/
def Slice.cycle (q : Slice) (dt : Nat) : Slice :=
  if dt = 0 then q else { q with ptr := (q.ptr + dt) % 8, laneUsed := [], slotUsed := [] }

/-- Whether a pipeline's writeback lane may apply a message in this cycle: it has applied none, and its slot has not been
served (R104). -/
def Slice.laneOpen (q : Slice) (pipe : Nat) : Bool := !q.laneUsed.contains pipe && !q.slotUsed.contains pipe

/-- Whether a pipeline's lookup slot may be served in this cycle: it has served none, and the lane has done its part (R104). -/
def Slice.slotOpen (q : Slice) (pipe : Nat) : Bool :=
  !q.slotUsed.contains pipe && (q.laneUsed.contains pipe || q.wipFull pipe ||
    !q.wbIn.any (fun m => pipeOf (homeSet m.mport m.addr) == pipe))

def Slice.useSlot (q : Slice) (pipe : Nat) : Slice := { q with slotUsed := q.slotUsed ++ [pipe] }
def Slice.useLane (q : Slice) (pipe : Nat) : Slice := { q with laneUsed := q.laneUsed ++ [pipe] }

/-- The contending request that the input arbiter serves (R104): the first of the input that comes first from P. -/
def arbiter (reqs : List Msg) (pipe ptr : Nat) : Option (Msg × List Msg) :=
  let here := fun (i : Nat) (m : Msg) => m.src % 8 == i && pipeOf (homeSet m.mport m.addr) == pipe
  match ((List.range 8).map (fun k => (ptr + k) % 8)).find? (fun i => reqs.any (here i)) with
  | some i => takeFirst (here i) reqs
  | none => none

/-- COHERENT_REQUEST (R96): a lookup slot of a pipeline, dt slice cycles after the slice's last command that has a dt; ecc is
what the ECC check of the ways found. A ready parked request has the slot (R104). A request of a fenced crew is dropped: its
port agent has ended it (R115, R116). -/
def execCoherentRequest (slice : Fin 64) (pipe : Fin 2) (dt : Nat) (ecc : List (Fin 16 × EccObs)) (s : State) :
    Host.Outcome State Fault Refusal :=
  let d := slice.val
  let s := s.modSlice d (fun q => q.cycle dt)
  let q := s.slice d
  if !q.slotOpen pipe.val || q.retry.any (fun r => r.ready && r.pipe == pipe.val) then .next s
  else match arbiter q.reqIn pipe.val q.ptr with
    | none => .next s
    | some (m, rest) =>
      let s := s.modSlice d (fun q => { q with reqIn := rest }.useSlot pipe.val)
      let s := s.eccCheck d (homeSet m.mport m.addr) ecc
      match m.body.coh with
      | none => .next s
      | some x =>
        if s.fencedAt d m.crew then .next (s.slot d 1)
        else match s.serve d m x true with
          | (s, none) => .next ((s.slot d 1).event (islandSlice d) 0x02)
          | (s, some w) => .next (if s.large m.crew then (s.slot d 2).park d m w else (s.slot d 2).nack d m)

/-- PARKED_REPLAY (R110): the first ready parked request of a pipeline takes a lookup slot, dt slice cycles after the slice's
last command that has a dt. On a conflict it goes back to its place, and counts as parked again (R119). Once it has left the
queue, what its reservation held back is ready. -/
def execParkedReplay (slice : Fin 64) (pipe : Fin 2) (dt : Nat) (ecc : List (Fin 16 × EccObs)) (s : State) :
    Host.Outcome State Fault Refusal :=
  let d := slice.val
  let s := s.modSlice d (fun q => q.cycle dt)
  match if (s.slice d).slotOpen pipe.val then (s.slice d).retry.find? (fun r => r.ready && r.pipe == pipe.val) else none with
  | none => .next s
  | some r =>
    let s := s.modSlice d (fun q => q.useSlot pipe.val)
    let m := r.req
    let same := fun (x : Parked) => x.req.port == m.port && x.req.tag == m.tag
    let s := s.eccCheck d (homeSet m.mport m.addr) ecc
    let drop := fun (s : State) => s.modSlice d (fun q => { q with retry := q.retry.filter (fun x => !same x) }.wake)
    match m.body.coh with
    | none => .next (drop s)
    | some x =>
      if s.fencedAt d m.crew then .next ((drop s).slot d 1)
      else match s.serve d m x false with
        | (s, none) => .next (((drop s).slot d 1).event (islandSlice d) 0x02)
        | (s, some w) =>
          let s := s.modSlice d (fun q => { q with
            retry := mapWhere same (fun x => { x with wait := w, ready := false }) q.retry })
          .next (((s.slot d 2).countWrap DIR_PARK_CNT.CNT 1 d).event (islandSlice d) 0x04)

/-! The writeback lane (R101 to R103, R116) -/

/-- The first message of a pipeline in the writeback lane, where it passes a test; none while the pipeline's
write-in-progress table is full (R102) or its lane is not open in this cycle (R104). -/
def State.takeLane (s : State) (d pipe : Nat) (f : Msg → Bool) : Option (Msg × State) :=
  let q := s.slice d
  if q.wipFull pipe || !q.laneOpen pipe then none
  else match takeFirst (fun (m : Msg) => pipeOf (homeSet m.mport m.addr) == pipe) q.wbIn with
    | some (m, r) => if f m then some (m, s.modSlice d (fun q => { q with wbIn := r }.useLane pipe)) else none
    | none => none

/-- Cmp of the slice to a writer (R103, R116). -/
def State.cmpWriter (s : State) (d : Nat) (m : Msg) : State := s.grant d m .i

/-- STRAY_WRITEBACK (R103). -/
def State.stray (s : State) (d : Nat) (m : Msg) : State :=
  (((s.cmpWriter d m).count DIR_STRAY_CNT.CNT 1 d).event (islandSlice d) 0x0B).report (slotSlice d)

/-- A writeback's memory write: queue 62, unmetered (R157); a poisoned one fences the crew of the line (R114). -/
def State.writebackWrite (s : State) (d : Nat) (m : Msg) : State :=
  let s := s.issueWrite d { m with colour := .unmetered, delay := false, eq := 62 }
  if m.poison then
    (s.causeFence { cause := 4, unit := slotSlice d, crews := .one m.crew, slice := some d, feid := m.feid }).report
      (slotSlice d)
  else s

/-- The state of an E-owned line after a MemWr (R103). -/
def MetaVal.lineAfter : MetaVal → LineState
  | .i => .i
  | .s => .s
  | .a => .e

/-- The writeback lane's act on one writeback (R103). -/
def State.applyWriteback (s : State) (d : Nat) (m : Msg) : State :=
  let set := homeSet m.mport m.addr
  let i := lineOf m.addr
  if (s.slice d).fenced.contains m.crew then s.cmpWriter d m
  else match s.wayOf d m.mport m.addr, m.body with
    | none, .clnEvct => s.cmpWriter d m
    | none, _ => s.stray d m
    | some w, b =>
      let e := s.dirEntry d set w
      if !(s.sharers e).contains m.feid then s.stray d m
      else match b, e.line i with
        | .writeback v, .e => ((s.setDirEntry d set w (e.setLine i v.lineAfter)).writebackWrite d m).settle d set w
        | .writeback _, .pending => s.writebackWrite d m
        | .writeback _, _ => s.stray d m
        | _, .e => ((s.setDirEntry d set w (e.setLine i .i)).cmpWriter d m).settle d set w
        | _, _ => s.cmpWriter d m

/-- Whether a message is a writeback. -/
def Body.isWriteback : Body → Bool
  | .writeback _ => true
  | .clnEvct => true
  | _ => false

/-- WRITEBACK (R103), dt slice cycles after the slice's last command that has a dt. -/
def execWriteback (slice : Fin 64) (pipe : Fin 2) (dt : Nat) (s : State) : Host.Outcome State Fault Refusal :=
  let d := slice.val
  let s := s.modSlice d (fun q => q.cycle dt)
  match s.takeLane d pipe.val (fun m => m.body.isWriteback) with
  | none => .next s
  | some (m, s) => .next ((s.event (islandSlice d) 0x07).applyWriteback d m)

/-- The snoop and the answer that a message carries. -/
def Body.snoopAns : Body → Option (Snp × Ans)
  | .answer k a => some (k, a)
  | _ => none

/-- SNOOP_ANSWER (R101), dt slice cycles after the slice's last command that has a dt: the answer satisfies its snoop; the last
one lets the transaction proceed. -/
def execSnoopAnswer (slice : Fin 64) (pipe : Fin 2) (dt : Nat) (s : State) : Host.Outcome State Fault Refusal :=
  let d := slice.val
  let s := s.modSlice d (fun q => q.cycle dt)
  match s.takeLane d pipe.val (fun m => m.body.snoopAns.isSome) with
  | none => .next s
  | some (m, s) =>
    let q := s.slice d
    match takeFirst (fun (t : Txn) => t.mport == m.mport && t.addr / 64 == m.addr / 64 && t.awaiting.contains m.feid)
        q.txns with
    | none => .next s
    | some (t, rest) =>
      let a := (m.body.snoopAns.getD (.inv, .i)).2
      let t := { t with awaiting := t.awaiting.erase m.feid, ansE := t.ansE || a == .e, ansS := t.ansS || a == .s }
      let s := s.modSlice d (fun q => { q with txns := rest })
      .next (if t.awaiting.isEmpty then s.proceed d t else s.keepTxn d t .snooping)

/-! Completion notices (R98, R102) -/

/-- The state of a line when a memory read's transaction closes (R98). -/
def Txn.closeState (t : Txn) : LineState :=
  match t.kind with
  | .request .eRead => .e
  | .request .sRead => .s
  | _ => if t.ansE then .e else if t.ansS then .s else .i

/-- The notice of a write frees its write-in-progress entry; what waited for it goes on. -/
def State.writeDone (s : State) (d mport addr : Nat) : State :=
  match takeFirst (fun (w : WipEntry) => w.mport == mport && w.addr / 64 == addr / 64) (s.slice d).wip with
  | some (_, r) => (s.modSlice d (fun q => { q with wip := r })).resume d
  | none => s

/-- The notice of a read closes its transaction. -/
def State.readDone (s : State) (d port tag : Nat) : State :=
  match takeFirst (fun (t : Txn) => t.stage == .issued && t.kind != .evict && t.req.port == port && t.req.tag == tag)
      (s.slice d).txns with
  | some (t, r) => (s.modSlice d (fun q => { q with txns := r })).closeTxn d t t.closeState
  | none => s

/-- COMPLETION_NOTICE (R98). -/
def execCompletionNotice (slice : Fin 64) (s : State) : Host.Outcome State Fault Refusal :=
  let d := slice.val
  match takeFirst (fun (m : Msg) => match m.body with
      | .notice _ => true
      | _ => false) (s.slice d).noticeIn with
  | none => .next s
  | some (m, r) =>
    let s := s.modSlice d (fun q => { q with noticeIn := r })
    .next (if m.body = .notice true then s.writeDone d m.mport m.addr else s.readDone d m.port m.tag)

end Sys2Proof.Machine
end

