-- ==== Sys2Proof/Machine/Walks.lean ====
section
/-! DEFINITION. Fence notices at a slice, the purge walk, SCAN walks, the indirect directory read, slot accounting
(spec/03 R83, R88 to R90, spec/04 R115, R118, spec/13 R349, R350, spec/20 R507, R508). -/

namespace Sys2Proof.Machine

/-- The sets of one pipeline. -/
def pipeSets : Nat := 1024

def Slice.walk (q : Slice) (pipe : Nat) : PurgeWalk := tabGet (fun _ => {}) q.walks pipe

def Slice.setWalk (q : Slice) (pipe : Nat) (w : PurgeWalk) : Slice :=
  { q with walks := tabSet id (fun _ => {}) q.walks pipe w }

/-- A crew joins a pipeline's purge walk at the set the walk has reached (R88). -/
def PurgeWalk.join (w : PurgeWalk) (c : Nat) : PurgeWalk :=
  { w with crews := w.crews.filter (fun e => e.1 != c) ++ [(c, pipeSets)] }

/-- What a slice does on a fence notice (R115 step 4): parked requests discarded, open transactions abandoned, the purge
joined. Memory writes in the write-in-progress table go on. An eviction that ends so lets what waits for the set be ready
(R110). -/
def Slice.fence (q : Slice) (c : Nat) : Slice :=
  let q := { q with
    fenced := q.fenced.filter (· != c) ++ [c],
    retry := q.retry.filter (fun r => r.req.crew != c),
    txns := q.txns.filter (fun t => t.crew != c),
    evicts := q.evicts.filter (fun e => e.crew != c) }
  ((q.setWalk 0 ((q.walk 0).join c)).setWalk 1 ((q.walk 1).join c)).wake

/-- FENCE_NOTICE_AT_SLICE (R115). -/
def execFenceNoticeAtSlice (slice : Fin 64) (s : State) : Host.Outcome State Fault Refusal :=
  let d := slice.val
  match takeFirst (fun (m : Msg) => m.body == .fence) (s.slice d).noticeIn with
  | none => .next s
  | some (m, r) => .next (s.modSlice d (fun q => ({ q with noticeIn := r }).fence m.crew))

/-- PURGE_DONE_REPORT (R88): a slice's report of a crew's purge to the collector. -/
def State.purgeReport (s : State) (d c : Nat) : State :=
  let ds := tabGet (fun _ => []) s.flt.purged c
  if ds.contains d then s
  else { s with flt := { s.flt with purged := tabSet id (fun _ => []) s.flt.purged c (ds ++ [d]) } }

/-- PURGE_SLOT (R88), dt slice cycles after the slice's last command that has a dt: the ways of the crews that the walk serves
freed in one set, the walk taken on by one set, and the purge of a crew reported once both pipelines have visited every set since
it joined. -/
def execPurgeSlot (slice : Fin 64) (pipe : Fin 2) (dt : Nat) (ecc : List (Fin 16 × EccObs)) (s : State) :
    Host.Outcome State Fault Refusal :=
  let d := slice.val
  let s := s.modSlice d (fun q => q.cycle dt)
  let w := (s.slice d).walk pipe.val
  if w.crews.isEmpty || !(s.slice d).slotOpen pipe.val then .next s
  else
    let s := s.modSlice d (fun q => q.useSlot pipe.val)
    let set := 2 * w.pos + pipe.val
    let s := s.eccCheck d set ecc
    let s := s.each (List.range 16) (fun s i =>
      let e := s.dirEntry d set i
      if e.v && w.crews.any (fun c => c.1 == e.crew) then s.freeWay d set i else s)
    let crews := w.crews.map (fun c => (c.1, c.2 - 1))
    let done := (crews.filter (fun c => c.2 == 0)).map (·.1)
    let left := crews.filter (fun c => c.2 != 0)
    let s := s.modSlice d (fun q => (q.setWalk pipe.val
      { pos := if left.isEmpty then 0 else (w.pos + 1) % pipeSets, crews := left }).wake)
    let other := ((s.slice d).walk (1 - pipe.val)).crews.map (·.1)
    .next ((s.each (done.filter (fun c => !other.contains c)) (fun s c => s.purgeReport d c)).slot d 1)

/-! SCAN (R118, R349, R350) -/

/-- Whether a SCAN selects an entry of a set (R118). -/
def State.selected (s : State) (c : Scan) (e : DirEntry) (set : Nat) : Bool :=
  e.v && e.crew == c.crew && (match c.skein with
    | none => true
    | some n =>
      let (p, a) := sectorOf e.tag set
      let base := s.fld SKN_W0.DBASE n
      p == s.fld SKN_W0.MPORT n && base ≤ a / granule && a / granule < base + skeinGranules (s.fld SKN_W0.SIZE n))

/-- The sets that a walk has still to visit in a pipeline. -/
def Scan.leftIn (c : Scan) (d pipe : Nat) : Nat := tabGet (fun _ => pipeSets) c.left (2 * d + pipe)

def State.setScanLeft (s : State) (d pipe n : Nat) : State :=
  match s.eng.scans with
  | [] => s
  | c :: cs => { s with eng := { s.eng with
      scans := { c with left := tabSet id (fun _ => pipeSets) c.left (2 * d + pipe) n } :: cs } }

/-- Whether a valid selected entry remains in a pipeline of a slice. -/
def State.scanRemains (s : State) (c : Scan) (d pipe : Nat) : Bool :=
  (s.slice d).entries.any (fun x => pipeOf (x.1 / 16) == pipe && s.selected c x.2 (x.1 / 16))

/-- SCAN_SLOT (R118), dt slice cycles after the slice's last command that has a dt: one set counted, or its selected unpinned
entries evicted. A flush walks again while a selected entry remains, one that was pinned or one allocated behind the walk. -/
def execScanSlot (slice : Fin 64) (pipe : Fin 2) (dt : Nat) (ecc : List (Fin 16 × EccObs)) (s : State) :
    Host.Outcome State Fault Refusal :=
  let d := slice.val
  let s := s.modSlice d (fun q => q.cycle dt)
  match s.eng.scans with
  | [] => .next s
  | c :: _ =>
    let left := if c.leftIn d pipe.val = 0 ∧ c.flush ∧ s.scanRemains c d pipe.val then pipeSets else c.leftIn d pipe.val
    if left = 0 ∨ s.crewFenced c.crew ∨ !(s.slice d).slotOpen pipe.val then .next s
    else
      let s := s.modSlice d (fun q => q.useSlot pipe.val)
      let set := 2 * (pipeSets - left) + pipe.val
      let s := s.eccCheck d set ecc
      let ws := (List.range 16).filter (fun w => s.selected c (s.dirEntry d set w) set)
      let s := if c.flush then
          s.each ws (fun s w => if (s.dirEntry d set w).otc = 0 then s.startEvict d set w true else s)
        else s.scanCount ws.length
      .next ((s.setScanLeft d pipe.val (left - 1)).slot d 1)

/-- The SCAN result word (R350). -/
def scanWord (count code : Nat) : Word := wordOf (2 ^ 32 * (count % 2 ^ 32) + code)

/-- The code with which a SCAN ends at its start (R350). -/
def State.scanRefused (s : State) (c : Scan) : Option Nat :=
  let st := s.crewState c.crew
  if st = 0 ∨ st = 3 ∨ st = 4 then some 2
  else match c.skein with
    | some n => if s.fld SKN_W0.CREW n ≠ c.crew then some 3 else none
    | none => none

/-- The SCANs that wait begin in dispatch order, until one walks (R349). -/
def State.startScans (s : State) : List Scan → State
  | [] => { s with eng := { s.eng with scans := [] } }
  | c :: cs =>
    match s.scanRefused c with
    | some code => (s.finishOpt c.seat c.rd (scanWord 0 code)).startScans cs
    | none => { s with eng := { s.eng with scans := c :: cs } }

/-- The end of the SCAN in progress. -/
def State.endScan (s : State) (c : Scan) (code : Nat) : State :=
  (s.finishOpt c.seat c.rd (scanWord c.count code)).startScans (s.eng.scans.drop 1)

/-- SCAN_COMPLETE (R350): every walk is over, and of a flush no selected entry remains; or the crew has been fenced. -/
def execScanComplete (s : State) : Host.Outcome State Fault Refusal :=
  match s.eng.scans with
  | [] => .next s
  | c :: _ =>
    if s.crewFenced c.crew then .next (s.endScan c 1)
    else if (List.range 64).all (fun d => c.leftIn d 0 == 0 && c.leftIn d 1 == 0 &&
        !(c.flush && (s.scanRemains c d 0 || s.scanRemains c d 1))) then .next (s.endScan c 0)
    else .next s

/-! The indirect read (R78, R89, R90) -/

/-- Bits [143:0] of an entry with its LRU rank (R78). -/
def DirEntry.bits (e : DirEntry) (rank : Nat) : Nat :=
  2 ^ 143 * (bit e.v) + 2 ^ 115 * (e.tag % 2 ^ 28) + 2 ^ 107 * (e.crew % 256) + 2 ^ 101 * (e.otc % 64) + 2 ^ 97 * (rank % 16) +
    2 ^ 96 * (bit e.shm) + 2 ^ 32 * e.shr.toNat + e.lst.toNat

/-- A write of DIR_EIDX: SET and WAY are stored; GO starts a read while none is in progress (R89). -/
def writeDirEidx (s : State) (d : Nat) (v : Word) : State :=
  let s := (s.setFld DIR_EIDX.SET (bitsOf v 10 0) d).setFld DIR_EIDX.WAY (bitsOf v 14 11) d
  if bitOf v 31 ∧ !s.flag DIR_EIDX.BUSY d then
    (s.setFld DIR_EIDX.BUSY 1 d).modSlice d (fun q => { q with eidx := some (bitsOf v 10 0, bitsOf v 14 11) })
  else s

/-- The five words of a number written to DIR_EDATA. -/
def State.setEdata (s : State) (d n : Nat) : State :=
  s.each (List.range 5) (fun s i => s.setFld DIR_EDATA.BITS (n / 2 ^ (32 * i)) d i)

/-- The check bits stored with an entry, as they are read (R78, R90): those of its bits [143:0], but for one in which the
lookup finds an error. -/
def storedEcc (n way : Nat) (ecc : List (Fin 16 × EccObs)) : Nat :=
  match ecc.findSome? (fun o => match o.2 with
      | .ceCheck b => if o.1.val = way then some b.val else none
      | _ => none) with
  | some b => (Config.dirEcc n ^^^ (1 <<< b)).toNat
  | none => (Config.dirEcc n).toNat

/-- DIR_EIDX_DONE (R90), dt slice cycles after the slice's last command that has a dt: the read takes a lookup slot and completes.
ecc is what the ECC check found; where the named way is uncorrectable, DIR_EDATA holds raw bits, a free value. -/
def execDirEidxDone (slice : Fin 64) (dt : Nat) (ecc : List (Fin 16 × EccObs)) (s : State) :
    Host.Outcome State Fault Refusal :=
  let d := slice.val
  let s := s.modSlice d (fun q => q.cycle dt)
  match (s.slice d).eidx with
  | none => .next s
  | some (set, way) =>
   if !(s.slice d).slotOpen (pipeOf set) then .next s
   else
    let s := s.modSlice d (fun q => q.useSlot (pipeOf set))
    let n := (s.dirEntry d set way).bits (((s.slice d).ranks set).getD way 0)
    let ue := ecc.any (fun o => o.1.val == way && (o.2 == .ueShadowGood || o.2 == .ueShadowBad))
    let s := s.modSlice d (fun q => { q with eidx := none })
    let s := ((s.setFld DIR_EIDX.BUSY 0 d).setFld DIR_EIDX.UE (bit ue) d).eccCheck d set ecc
    let s := s.slot d 1
    if ue then
      let (a, s) := s.drawWord
      let (b, s) := s.drawWord
      let (c, s) := s.drawWord
      .next (s.setEdata d (a.toNat + 2 ^ 64 * b.toNat + 2 ^ 128 * c.toNat))
    else .next (s.setEdata d (n + 2 ^ 151 * storedEcc n way ecc))

/-! Slot accounting (R507, R508) -/

/-- The cycles and back-starved slots that have gone by since they were last brought up to date, while the slice runs with
EN set. What is left of the slots of those cycles is front-starved (R507). -/
def State.elapse (s : State) (d cycles back : Nat) : State :=
  if (s.fn (fidSlice d)).run = .running ∧ s.flag DIR_TD_CTL.EN d then
    s.modSlice d (fun q =>
      let c := q.td.getD 0 0 + cycles
      let b := q.td.getD 4 0 + back
      let ret := q.td.getD 1 0
      let wst := q.td.getD 2 0
      { q with td := [c, ret, wst, 2 * c - ret - wst - b, b] })
  else s

/-- A write of DIR_TD_CTL (R508): the snapshot first, then the clear. -/
def writeTdCtl (s : State) (d : Nat) (v : Word) : State :=
  let s := s.setFld DIR_TD_CTL.EN (bit (bitOf v 29)) d
  let t := (s.slice d).td
  let s := if bitOf v 31 then
      ((((s.setFld DIR_TD_CYC.CNT (t.getD 0 0) d).setFld DIR_TD_RET.CNT (t.getD 1 0) d).setFld DIR_TD_WST.CNT
        (t.getD 2 0) d).setFld DIR_TD_FST.CNT (t.getD 3 0) d).setFld DIR_TD_BST.CNT (t.getD 4 0) d
    else s
  if bitOf v 30 then s.modSlice d (fun q => { q with td := [0, 0, 0, 0, 0] }) else s

end Sys2Proof.Machine
end

