-- ==== Sys2Proof/Machine/Tm.lean ====
section
/-! DEFINITION. Traffic management at egress: queues, shapers, the scheduler, sampling, errors (spec/06 R151, R161 to
R174). -/

namespace Sys2Proof.Machine

/-! Queues -/

def State.sched (s : State) (p : Nat) : Sched := tabGet (fun _ => {}) s.tm.scheds p

def State.setSched (s : State) (p : Nat) (v : Sched) : State :=
  { s with tm := { s.tm with scheds := tabSet id (fun _ => {}) s.tm.scheds p v } }

/-- The settings in force of a queue (R163, R168, R169). With PEN set, PIR below CIR acts as CIR. -/
def EQueue.cir (q : EQueue) : Nat := bitsOf q.rate 19 0
def EQueue.pen (q : EQueue) : Bool := bitOf q.rate 63
def EQueue.pir (q : EQueue) : Nat := if q.pen then max (bitsOf q.rate 51 32) q.cir else bitsOf q.rate 51 32
def EQueue.cbs (q : EQueue) : Nat := burstCap (bitsOf q.bkt 15 0)
def EQueue.pbs (q : EQueue) : Nat := burstCap (bitsOf q.bkt 47 32)
def EQueue.weight (q : EQueue) : Nat := bitsOf q.bkt 31 24
def EQueue.ovh (q : EQueue) : Nat := bitsOf q.bkt 53 48

/-- The seventy-fifths of a unit by which a rate in Mbit/s fills a count in dt cycles of a traffic manager at 1.2 GHz. -/
def tmFill (rate dt : Nat) : Nat := 131072 * (rate * dt)

/-- The refill of a queue (R163, R165). What is left of a unit stays for the next refill. -/
def EQueue.refill (q : EQueue) (dt : Nat) : EQueue :=
  let c := q.rc + tmFill q.cir dt
  let p := q.rp + tmFill q.pir dt
  { q with sc := min (q.cbs : Int) (q.sc + (c / 75 : Nat)), sp := min (q.pbs : Int) (q.sp + (p / 75 : Nat)),
           rc := c % 75, rp := p % 75 }

/-- The data bytes that a message moves (R151). -/
def Msg.counted (m : Msg) : Nat :=
  match m.body with
  | .memRead _ => 64
  | .memWrite => 64
  | .tlp _ n => n
  | _ => 0

/-- The egress queue of a message (R161). -/
def Msg.queue (m : Msg) : Nat :=
  match m.body with
  | .tlp _ _ => if m.cls = 7 then 61 else 60
  | _ => if m.eq = 60 ∨ m.eq = 61 ∨ m.eq = 63 then 0 else m.eq

/-- Egress buffer space of a memory port (R162). -/
def sharedSize : Nat := 44 * 1024
def reserveSize : Nat := 4 * 1024

/-- The bytes that a message occupies (R162). -/
def Msg.stored (m : Msg) : Nat := (m.len + 15) / 16 * 16

def Sched.used (c : Sched) (cls : Nat) : Nat := tabGet (fun _ => 0) c.reserve cls

def Sched.setUsed (c : Sched) (cls n : Nat) : Sched := { c with reserve := tabSet id (fun _ => 0) c.reserve cls n }

/-- Whether the traffic manager reports room for a class (R162). -/
def Sched.room (c : Sched) (cls : Nat) : Bool := c.shared + 1024 ≤ sharedSize || c.used cls + 1024 ≤ reserveSize

/-- A message put at the tail of its egress queue (R161, R162). -/
def State.enqueue (s : State) (p : Nat) (m : Msg) : State :=
  let c := s.sched p
  let n := m.stored
  let sh := decide (c.shared + n ≤ sharedSize)
  let s := s.setSched p (if sh then { c with shared := c.shared + n } else c.setUsed m.cls (c.used m.cls + n))
  let q := s.queue (64 * p + m.queue)
  s.setQueue (64 * p + m.queue) { q with msgs := q.msgs ++
    [{ msg := m, counted := m.counted, red := m.colour == .red && m.delay, inShared := sh }] }

/-- A message's space given back. -/
def Sched.give (c : Sched) (x : QMsg) : Sched :=
  if x.inShared then { c with shared := c.shared - x.msg.stored }
  else c.setUsed x.msg.cls (c.used x.msg.cls - x.msg.stored)

/-! The scheduler (R163 to R165) -/

def EQueue.committed (q : EQueue) : Bool := q.cir != 0 && decide (0 ≤ q.sc)
def EQueue.peak (q : EQueue) : Bool := !q.pen || decide (0 ≤ q.sp)

/-- Whether a queue's head is a red message under delay (R164, R170). -/
def EQueue.redHead (q : EQueue) : Bool :=
  match q.msgs with
  | [] => false
  | x :: _ => x.red && !x.aged

/-- The counted length of the head with the queue's overhead (R151). -/
def EQueue.headLen (q : EQueue) : Nat :=
  match q.msgs with
  | [] => 0
  | x :: _ => x.counted + q.ovh

/-- The numbers of the queues in turn, starting after one. -/
def inTurn (n last : Nat) : List Nat := (List.range n).map (fun k => (last + 1 + k) % n)

/-- The queues that the tiers 2 to 4 consider. -/
def tenantQueues : List Nat := List.range 60 ++ [63]

/-- The rounds of deficit round robin that a queue needs before its head may go. -/
def EQueue.rounds (q : EQueue) : Nat :=
  ((q.headLen : Int) - q.deficit + (64 * q.weight : Nat) - 1).toNat / (64 * q.weight)

/-- The first queue of a list that needs the fewest rounds, with them. -/
def fewest (s : State) (p : Nat) : List Nat → Option (Nat × Nat)
  | [] => none
  | n :: ns =>
    let r := max 1 (s.queue (64 * p + n)).rounds
    match fewest s p ns with
    | some (m, k) => if r ≤ k then some (n, r) else some (m, k)
    | none => some (n, r)

/-- The deficits after k whole rounds, less one for the queues after the winner in turn. -/
def State.addRounds (s : State) (p k : Nat) : List Nat → Nat → State
  | [], _ => s
  | n :: ns, w =>
    let q := s.queue (64 * p + n)
    let s := s.setQueue (64 * p + n) { q with deficit := q.deficit + (k * (64 * q.weight) : Nat) }
    if n = w then s.each ns (fun s n =>
      let q := s.queue (64 * p + n)
      s.setQueue (64 * p + n) { q with deficit := q.deficit + ((k - 1) * (64 * q.weight) : Nat) })
    else s.addRounds p k ns w

/-- What the scheduler chooses: a queue and its tier. -/
structure Choice where
  queue : Nat
  tier : Nat
  deriving DecidableEq, Repr

/-- The choice of R164 among the queues whose head has a link credit, with the state whose deficits it has raised. -/
def State.choose (s : State) (p : Nat) (blocked : List (Fin 64)) : Option Choice × State :=
  let c := s.sched p
  let q := fun n => s.queue (64 * p + n)
  let ok := fun n => !(q n).msgs.isEmpty && !blocked.any (fun b => b.val == n)
  match [62, 60, 61].find? ok with
  | some n => (some ⟨n, 1⟩, s)
  | none =>
    let use := fun n => ok n && tenantQueues.contains n
    match (inTurn 64 c.lastCommitted).find? (fun n =>
        use n && !(q n).redHead && (q n).committed && (q n).peak) with
    | some n => (some ⟨n, 2⟩, s)
    | none =>
      let tier3 := fun n => use n && !(q n).redHead && (q n).peak && !(q n).committed && (q n).weight != 0
      if tier3 c.lastPeak && decide ((((q c.lastPeak).headLen : Nat) : Int) ≤ (q c.lastPeak).deficit) then
        (some ⟨c.lastPeak, 3⟩, s)
      else
        let cs := (inTurn 64 c.lastPeak).filter tier3
        match fewest s p cs with
        | some (n, k) => (some ⟨n, 3⟩, s.addRounds p k cs n)
        | none => match (inTurn 64 c.lastRed).find? (fun n => use n && (q n).redHead && (q n).peak) with
          | some n => (some ⟨n, 4⟩, s)
          | none => (none, s)

/-- The scheduler's memory of a choice. -/
def Sched.served (c : Sched) (x : Choice) : Sched :=
  match x.tier with
  | 2 => { c with lastCommitted := x.queue }
  | 3 => { c with lastPeak := x.queue }
  | 4 => { c with lastRed := x.queue }
  | _ => c

/-- The lowest that a bucket count goes: one message below zero, 4,159 bytes (R163). -/
def bucketFloor : Int := -((4159 * tokenByte : Nat) : Int)

/-- A queue after its head has gone: charged its counted length in both buckets, which go below zero by at most one message, and
in its deficit (R163). An emptied queue keeps no deficit. -/
def EQueue.released (q : EQueue) (tier : Nat) : EQueue :=
  let n : Int := (q.headLen : Nat)
  let rest := q.msgs.drop 1
  { q with msgs := rest, sc := max bucketFloor (q.sc - (tokenByte : Nat) * n), sp := max bucketFloor (q.sp - (tokenByte : Nat) * n),
           deficit := if rest.isEmpty then 0 else if tier = 3 then q.deficit - n else q.deficit }

/-! Answers of a memory port (R98, R99, R117) -/

/-- A message of a memory port to the port agent of a request (R99). -/
def reqMsg (p : Nat) (m : Msg) (b : Body) (len : Nat) (poison : Bool) : Msg :=
  { body := b, src := p, dsts := [m.port], cls := 3, len := len, epoch := m.epoch, feid := m.feid, port := m.port,
    tag := m.tag, slice := m.slice, crew := m.crew, mport := p, addr := m.addr, poison := poison }

/-- The completion notice of a request that a slice issued (R98, R99). -/
def noticeMsg (p : Nat) (r : DevReq) : Msg :=
  { body := .notice r.write, src := p, dsts := [epSlice r.msg.slice], cls := 3, feid := r.msg.feid, port := r.msg.port,
    tag := r.msg.tag, slice := r.msg.slice, crew := r.msg.crew, mport := p, addr := r.msg.addr }

/-- The notice sent to the home slice, where a slice issued the request. -/
def State.toSlice (s : State) (p : Nat) (r : DevReq) : State := if r.fromSlice then s.send (noticeMsg p r) else s

/-- The MetaValue that a memory read carries (R99). -/
def Body.grant : Body → MetaVal
  | .memRead g => g
  | _ => .i

/-- A read answered with data or poisoned data. The notice of a slice's read waits until the data's last cell has entered the
core (R99). -/
def State.readAnswer (s : State) (p : Nat) (r : DevReq) (poison : Bool) : State :=
  let d := reqMsg p r.msg (.data r.msg.body.grant) 80 poison
  let s := s.send d
  if r.fromSlice then
    let i := s.coreIn p
    s.setCoreIn p { i with behind := i.behind ++ [(d, noticeMsg p r)] }
  else s

/-- A write answered with Cmp, and its notice (R98, R103). -/
def State.writeAnswer (s : State) (p : Nat) (r : DevReq) : State :=
  (s.send (reqMsg p r.msg (.cmp .i) 16 false)).toSlice p r

/-- Whether a message is a scrub write (R61). -/
def Body.isScrub : Body → Bool
  | .scrub _ => true
  | _ => false

/-- One request of a memory port ended without its device's answer (R117, R487): at a link-down a slice's request fences
its crew with cause 0x5. A scrub write ends with its engine. -/
def State.sweepDev (s : State) (p : Nat) (down : Bool) (r : DevReq) : State :=
  let n := s.count PRT_SWP_CNT.CNT 1 p
  if r.msg.body.isScrub then s
  else if r.fromSlice then
    (if down then (n.causeFence { cause := 5, unit := octetOf p, crews := .one r.msg.crew, feid := r.msg.feid }).report (slotPort p)
      else n).toSlice p r
  else if r.write then n.writeAnswer p r
  else n.readAnswer p r true

/-- A message that a memory port has, or would send, ended so: a request to its device. -/
def State.sweepMsg (s : State) (p : Nat) (down : Bool) (m : Msg) : State :=
  match m.body with
  | .memRead _ => s.sweepDev p down ⟨false, m.fromSlice, false, m⟩
  | .memWrite => s.sweepDev p down ⟨true, m.fromSlice, m.fromSlice && m.eq == 62, m⟩
  | _ => s

/-- The messages in a memory port's egress queues ended at a link-down, and its egress buffer empty (R117). -/
def State.sweepQueues (s : State) (p : Nat) : State :=
  let ms := (List.range 64).flatMap (fun n => (s.queue (64 * p + n)).msgs)
  let s := s.each (List.range 64) (fun s n =>
    if (s.queue (64 * p + n)).msgs.isEmpty then s
    else s.setQueue (64 * p + n) { s.queue (64 * p + n) with msgs := [], deficit := 0 })
  let s := s.setSched p { s.sched p with shared := 0, reserve := [] }
  s.each ms (fun s x => s.sweepMsg p true x.msg)

/-! Release -/

/-- The request, line or TLP that a memory port sends to its device (R61, R93, R99). -/
def State.toDevice (s : State) (p : Nat) (m : Msg) : State :=
  match m.body with
  | .tlp posted n => s.emit (.tlp p posted n m.poison)
  | .scrub v => (s.modPort p (fun q => { q with dev := q.dev ++ [⟨true, false, false, m⟩] })).emit (.scrubWrite p m.addr v)
  | .memRead _ => (s.modPort p (fun q => { q with dev := q.dev ++ [⟨false, m.fromSlice, false, m⟩] })).emit
      (.device p false m.addr false)
  | .memWrite => (s.modPort p (fun q => { q with dev := q.dev ++ [⟨true, m.fromSlice, m.fromSlice && m.eq == 62, m⟩] })).emit
      (.device p true m.addr m.poison)
  | _ => s

/-- COHERENCE_LOSS_FENCE (R139): every crew fenced, no slice and no agent named. -/
def State.lossFence (s : State) (unit : Nat) : State := s.causeFence { cause := 1, unit := unit, crews := .all }

/-- What the traffic manager does with the message it has taken, by what error protection found in the egress buffer (R174),
which no scrub write has passed. -/
def State.passOn (s : State) (p : Nat) (m : Msg) (o : Option TmObs) : State :=
  match if m.body.isScrub then none else o with
  | some .ce => (s.count TM_ECC.CE).toDevice p m
  | some .ueHeader =>
    let s := (s.count TM_ECC.UE).report (slotTm (p / 32))
    if m.cls = 2 ∨ m.cls = 4 then s.lossFence (slotTm (p / 32)) else s
  | some .ueData => (s.count TM_ECC.UE).toDevice p { m with poison := true }
  | _ => s.toDevice p m

/-- A parity error in counts: they are restored to their caps and reported (R174). A meter's is reported to the source of the
traffic manager island of the command's port: DESIGN CHOICE (log entry 102). -/
def State.parity (s : State) (p : Nat) (o : Option TmObs) : State :=
  match o with
  | some (.queueParity n) =>
    let q := s.queue (64 * p + n.val)
    (s.setQueue (64 * p + n.val) { q with sc := (q.cbs : Nat), sp := (q.pbs : Nat) }).report (slotTm (p / 32))
  | some (.meterParity m) =>
    let q := metersOf s m.val
    (s.setMeter m.val { q with tc := q.cbs, tp := q.pbs }).report (slotTm (p / 32))
  | _ => s

/-- Whether a memory port's egress sends: it is Active, its stop has not begun, and its shaper group runs (R167, R238). -/
def State.egressRuns (s : State) (p : Nat) : Bool :=
  s.fld PRT_STS.STATE p == 4 && (s.fn (fidPort p)).run == .running && (s.fn (fidShaper p)).run == .running

/-- TM_RELEASE (R164): a cycle of a traffic manager for one memory port, dt cycles after the last. The shapers are refilled,
then at most one message is released. blocked names the queues whose head has no link credit. -/
def execTmRelease (port : Fin 256) (dt : Nat) (blocked : List (Fin 64)) (obs : Option TmObs) (s : State) :
    Host.Outcome State Fault Refusal :=
  let p := port.val
  let s := s.each (List.range 64) (fun s n => s.setQueue (64 * p + n) ((s.queue (64 * p + n)).refill dt))
  let s := s.parity p obs
  if !s.egressRuns p then .next s
  else match s.choose p blocked with
    | (none, s) => .next s
    | (some c, s) =>
      let q := s.queue (64 * p + c.queue)
      match q.msgs with
      | [] => .next s
      | x :: _ =>
        let s := s.setQueue (64 * p + c.queue) (q.released c.tier)
        let s := s.setSched p (((s.sched p).served c).give x)
        let isl := islandTm (p / 32)
        let s := s.event isl 0x02
        let s := if c.tier = 1 then s else s.event isl (c.tier + 1)
        .next ((s.passOn p x.msg obs).feedScrub p)

/-- RED_AGE_EXPIRY (R164). -/
def execRedAgeExpiry (port : Fin 256) (queue : Fin 64) (s : State) : Host.Outcome State Fault Refusal :=
  let n := 64 * port.val + queue.val
  let q := s.queue n
  match q.msgs with
  | [] => .next s
  | x :: xs =>
    if q.redHead then
      .next ((s.setQueue n { q with msgs := { x with aged := true } :: xs }).event (islandTm (port.val / 32)) 0x06)
    else .next s

/-! Sampling (R171 to R173) -/

/-- The bin of a quantity with a shift (R172). -/
def histBin (n shift : Nat) : Nat :=
  ((List.range 15).filter (fun k => 2 ^ (k + shift) ≤ n)).length

/-- The shifts in force in an island: depth, delay. -/
def State.shifts (s : State) (isl : Nat) : Nat × Nat := tabGet (fun _ => (4, 4)) s.tm.sampling isl

/-- QUEUE_SAMPLE (R172): delay is the time in ns since the head entered; start marks the first sample of a period in the
island, from which a change of the settings applies. -/
def execQueueSample (queue : Fin 16384) (delay : Nat) (start : Bool) (s : State) : Host.Outcome State Fault Refusal :=
  let isl := queue.val / 2048
  let s := if start then { s with tm := { s.tm with
      sampling := tabSet id (fun _ => (4, 4)) s.tm.sampling isl (s.fld TM_CTL.SSHIFT, s.fld TM_CTL.DSHIFT) } } else s
  if !s.flag TM_CTL.SMP_EN then .next s
  else
    let q := s.queue queue.val
    let depth := ((q.msgs.map (fun x => x.counted + q.ovh)).foldl (· + ·) 0)
    let (sh, dh) := s.shifts isl
    let s := s.count TM_QHD.CNT 1 queue.val (histBin depth sh)
    .next (s.count TM_QHL.CNT 1 queue.val (if q.msgs.isEmpty then 0 else histBin delay dh))

/-- A write of TM_CTL (R171). PERIOD outside 1 to 1,000 and RED_AGE 0 keep their values. -/
def writeTmCtl (s : State) (v : Word) : State :=
  let w := s.rd ⟨.TM_CTL, 0, 0⟩
  let per := if 1 ≤ bitsOf v 21 12 ∧ bitsOf v 21 12 ≤ 1000 then bitsOf v 21 12 else bitsOf w 21 12
  let age := if bitsOf v 9 0 = 0 then bitsOf w 9 0 else bitsOf v 9 0
  let s := s.wr ⟨.TM_CTL, 0, 0⟩ (wordOf (2 ^ 22 * (bitsOf v 30 22) + 2 ^ 12 * per + age))
  if bitOf v 31 then { s with regs := s.regs.filter (fun e => !(e.1.r == .TM_QHD || e.1.r == .TM_QHL)) } else s

/-- A write of TM_QRATE (R168): staged; a rate above 1,000,000 keeps that rate. -/
def writeQueueRate (s : State) (q : Nat) (v : Word) : State :=
  let k : RKey := ⟨.TM_QRATE, q, 0⟩
  let w := s.rd k
  let pir := if 1000000 < bitsOf v 51 32 then bitsOf w 51 32 else bitsOf v 51 32
  let cir := if 1000000 < bitsOf v 19 0 then bitsOf w 19 0 else bitsOf v 19 0
  s.wr k (wordOf (2 ^ 63 * (bit (bitOf v 63)) + 2 ^ 32 * pir + cir))

/-- A queue takes its staged settings at STARTF of its group (R166): counts kept and clipped. -/
def State.applyQueue (s : State) (n : Nat) : State :=
  let q : EQueue := { s.queue n with rate := s.rd ⟨.TM_QRATE, n, 0⟩, bkt := s.rd ⟨.TM_QBKT, n, 0⟩ }
  s.setQueue n { q with sc := min q.sc (q.cbs : Nat), sp := min q.sp (q.pbs : Nat) }

end Sys2Proof.Machine
end

