-- ==== Sys2Proof/Machine/SwitchCore.lean ====
section
/-! DEFINITION. The switch core: placing messages in stripes, closing and starting stripes, planes, outputs, multicast,
lost stripes, delivery to the consumers (spec/05 R122 to R149, R583). -/

namespace Sys2Proof.Machine

/-! Endpoints -/

/-- Whether an endpoint is an output (R122): a slice, or a port that has been started with a role. -/
def State.isOutput (s : State) (e : Nat) : Bool :=
  if e < 256 then s.role e != 0 && s.fld PRT_STS.STATE e != 0 else e < 320

/-- The slots of an output. -/
def State.slots (s : State) (e : Nat) : Nat := if e < 256 then widthSlots (s.fld PRT_CTL.WIDTH e) else 1

/-- The island of an endpoint (R495). -/
def islandOfEndpoint (e : Nat) : Nat :=
  if e < 256 then octetOf e else if e < 320 then islandSlice (e - 256) else if e = 320 then islandFlt else islandEngine

/-- An error of the core logged (R148). -/
def State.coreErr (s : State) (cause plane src dst cls ssn : Nat) : State :=
  s.capture64 ⟨.CORE_ERR_LOG, 0, 0⟩
    (wordOf (2 ^ 60 * cause + 2 ^ 56 * plane + 2 ^ 47 * src + 2 ^ 38 * (dst % 512) + 2 ^ 35 * cls + 2 ^ 19 * ssn))

/-- A message or cell discarded and counted (R148, R149). -/
def State.coreBad (s : State) (cause plane src dst cls : Nat) (ssn : Nat := 0) : State :=
  (s.count CORE_BAD_CNT.CNT).coreErr cause plane src dst cls ssn

/-! Building stripes at an input (R128 to R131, R142, R583) -/

/-- The chunks of a message (R125). -/
def Msg.chunks (m : Msg) : Nat := (m.len + 15) / 16

/-- The chunks that a stripe holds. -/
def Stripe.chunks (t : Stripe) : Nat := (t.parts.map (·.chunks)).foldl (· + ·) 0

/-- Whether a stripe is the open stripe of a flow. -/
def Stripe.ofFlow (t : Stripe) (cls dst : Nat) : Bool := t.cls == cls && t.targets.map (·.1) == [dst]

/-- STRIPE_CLOSE (R131): each target's next SSN, the rotation, and the stripe at the end of the closed ones. -/
def CoreIn.close (i : CoreIn) (t : Stripe) : CoreIn :=
  let key := fun (d : Nat) => 8 * d + t.cls
  let ts := t.targets.map (fun x => (x.1, tabGet (fun _ => 0) i.ssn (key x.1)))
  let ssn := t.targets.foldl (fun a x =>
    tabSet id (fun _ => 0) a (key x.1) ((tabGet (fun _ => 0) a (key x.1) + 1) % 65536)) i.ssn
  { i with ssn := ssn, rot := (i.rot + 1) % 16, closed := i.closed ++ [{ t with targets := ts, rot := i.rot }] }

/-- The first open stripe that a test selects closed. -/
def CoreIn.closeFirst (i : CoreIn) (f : Stripe → Bool) : CoreIn :=
  match takeFirst f i.openStripes with
  | some (t, r) => { i with openStripes := r }.close t
  | none => i

/-- Every open stripe that a test selects closed, oldest first. -/
def CoreIn.closeAll (i : CoreIn) (f : Stripe → Bool) : CoreIn :=
  let ts := i.openStripes.filter f
  let i := { i with openStripes := i.openStripes.filter (fun t => !f t) }
  ts.foldl CoreIn.close i

/-- n chunks of a message put into the open stripe of its flow, a new one opened where there is none (R128). What does not
fit goes into the next stripe. fuel bounds the stripes that one message can take: 260 chunks. -/
def CoreIn.place (i : CoreIn) (src tmo : Nat) (m : Msg) (dst : Nat) (n : Nat) (head : Bool) : Nat → CoreIn
  | 0 => i
  | fuel + 1 =>
    let mine := fun (t : Stripe) => t.ofFlow m.cls dst
    let i := if i.openStripes.any mine then i
      else
        let i := if 16 ≤ i.openStripes.length then i.closeFirst (fun _ => true) else i
        { i with openStripes := i.openStripes ++
          [{ src := src, cls := m.cls, targets := [(dst, 0)], mc := false, parts := [], tmo := tmo }] }
    let room := 64 - ((i.openStripes.find? mine).map Stripe.chunks).getD 0
    let k := min n room
    let part : Part := { msg := m, chunks := k, head := head, tail := k == n }
    let i := { i with openStripes := mapWhere mine (fun t => { t with parts := t.parts ++ [part] }) i.openStripes }
    let i := if k = room then i.closeFirst mine else i
    if k < n then i.place src tmo m dst (n - k) false fuel else i

/-- Whether a further message of a flow waits whole in the input. -/
def CoreIn.waits (i : CoreIn) (cls dst : Nat) : Bool := i.ready.any (fun m => m.cls == cls && m.dsts == [dst])

/-- A unicast message placed, and its stripe closed where its class is eager and nothing more of the flow waits (R129). -/
def State.placeUnicast (s : State) (e : Nat) (m : Msg) (dst : Nat) : State :=
  let i := (s.coreIn e).place e (s.fld CORE_CTL.STRIPE_TMO) m dst m.chunks true 6
  let eager := bitOf (wordOf (s.fld CORE_CTL.EAGER)) m.cls && !i.waits m.cls dst
  s.setCoreIn e (if eager then i.closeFirst (fun t => t.ofFlow m.cls dst) else i)

/-- A multicast stripe for 2 to 64 targets: the open stripes of its flows closed first, the stripe closed at once (R583). -/
def State.placeMulticast (s : State) (e : Nat) (m : Msg) (dsts : List Nat) : State :=
  let i := (s.coreIn e).closeAll (fun t => dsts.any (fun d => t.ofFlow m.cls d))
  s.setCoreIn e (i.close { src := e, cls := m.cls, targets := dsts.map (fun d => (d, 0)), mc := true,
                           parts := [{ msg := m, chunks := m.chunks, head := true, tail := true }] })

/-- A list cut into groups of 64 (R142). -/
def groups64 : Nat → List Nat → List (List Nat)
  | 0, _ => []
  | f + 1, l => if l.isEmpty then [] else l.take 64 :: groups64 f (l.drop 64)

/-- A message placed by its targets (R128, R142, R148): a target that is no output is dropped, counted and logged. -/
def State.placeMsg (s : State) (e : Nat) (m : Msg) : State :=
  let bad := m.dsts.filter (fun d => !s.isOutput d)
  let s := s.each bad (fun s d => s.coreBad 4 0 e d m.cls)
  s.each (groups64 9 ((m.dsts.filter s.isOutput).mergeSort)) (fun s g => match g with
    | [d] => s.placeUnicast e m d
    | _ => s.placeMulticast e m g)

/-! Completion notices that wait for their data (R99) -/

/-- The cell of a stripe, by slot, that holds the last chunk of a message that ends in it. -/
def lastCellOf (m : Msg) : List Part → Nat → Option Nat
  | [], _ => none
  | x :: xs, n => if x.msg = m ∧ x.tail then some ((n + x.chunks - 1) / 4) else lastCellOf m xs (n + x.chunks)

/-- Whether the last cell of a message has left its input for the core: it is in no stripe that the input still holds, and no
data cell up to the last of it is on its way. -/
def CoreIn.entered (i : CoreIn) (started : List Stripe) (m : Msg) : Bool :=
  !i.ready.contains m && (i.openStripes ++ i.closed).all (fun t => !t.parts.any (fun x => x.msg == m)) &&
    started.all (fun t => match lastCellOf m t.parts 0 with
      | none => true
      | some k => i.items.all (fun e => e.2.all (fun x =>
          !(x.kind == .data && x.cls == t.cls && x.targets == t.targets && x.slot ≤ k))))

/-- The notices of an input whose data has entered the core become ready, in their order. -/
def State.freeNotices (s : State) (e : Nat) : State :=
  let i := s.coreIn e
  let go := i.behind.filter (fun x => i.entered s.core.stripes x.1)
  if go.isEmpty then s
  else s.setCoreIn e { i with behind := i.behind.filter (fun x => !i.entered s.core.stripes x.1),
                              ready := i.ready ++ go.map (·.2) }

/-- CORE_MESSAGE_PLACE (R128): an input places the first of its messages that are whole and ready. -/
def execCoreMessagePlace (input : Fin 322) (s : State) : Host.Outcome State Fault Refusal :=
  let i := s.coreIn input.val
  match i.ready with
  | [] => .next s
  | m :: rest => .next (((s.setCoreIn input.val { i with ready := rest }).placeMsg input.val m).freeNotices input.val)

/-- STRIPE_TIMEOUT (R129, R130): the timer of an open stripe reaches its limit. Where a message of the flow becomes ready on
that cycle (tie), it joins first and is a near miss; where it fills the stripe, what is left of it is in the next one, which
has its own timer (R128). -/
def execStripeTimeout (input : Fin 322) (which : Nat) (tie : Bool) (s : State) : Host.Outcome State Fault Refusal :=
  let e := input.val
  match (s.coreIn e).openStripes[which]? with
  | none => .next s
  | some t =>
    let dst := (t.targets.map (·.1)).headD 0
    let s := if e < 256 then s.portEvent e 0x0C else s
    let joined := if tie then takeFirst (fun (m : Msg) => m.cls == t.cls && m.dsts == [dst]) (s.coreIn e).ready else none
    let close := fun (s : State) => s.setCoreIn e ((s.coreIn e).closeFirst (fun x => x.ofFlow t.cls dst))
    match joined with
    | some (m, r) =>
      let i := s.coreIn e
      let s := ((s.setCoreIn e { i with ready := r }).placeUnicast e m dst).nearMiss (islandOfEndpoint e)
      .next (if t.chunks + m.chunks < 64 then close s else s)
    | none => .next (close s)

/-- The open stripes of eager classes for which nothing waits are closed (R129 event 3), after a write of EAGER. -/
def State.closeEager (s : State) : State :=
  s.each (s.core.inputs.map (·.1)) (fun s e =>
    let i := s.coreIn e
    s.setCoreIn e (i.closeAll (fun t => bitOf (wordOf (s.fld CORE_CTL.EAGER)) t.cls &&
      !i.waits t.cls ((t.targets.map (·.1)).headD 0))))

/-! Grants (R132 to R134) -/

/-- The cells of a plane. -/
def planeCells : Nat := 65536

/-- The free cells of a plane. -/
def Plane.free (q : Plane) : Nat := planeCells - q.cells.length

/-- cells(o, c) and group(o) (R133). -/
def Plane.count (q : Plane) (o c : Nat) : Nat := tabGet (fun _ => 0) q.queued (8 * o + c)

def Plane.group (q : Plane) (o : Nat) : Nat := ((List.range 8).map (q.count o)).foldl (· + ·) 0

/-- The grant of a plane for (o, c) (R133). -/
def State.granted (s : State) (q : Plane) (o c : Nat) : Bool :=
  q.count o c < 4 * s.slots o || (q.group o < s.fld CORE_OQ_LIM.LIM * s.slots o && decide (20544 ≤ q.free))

/-- Whether every plane grants every target of a stripe. -/
def State.startable (s : State) (t : Stripe) : Bool :=
  (List.range 16).all (fun p => t.targets.all (fun x => s.granted (s.plane p) x.1 t.cls))

/-- The first closed stripe whose grants are present, no earlier stripe of one of its flows waiting before it (R134). -/
def firstStartable (s : State) : List Stripe → List Stripe → Option (Stripe × List Stripe)
  | _, [] => none
  | before, t :: ts =>
    let blocked := before.any (fun b => b.cls == t.cls && b.targets.any (fun x => (t.targets.map (·.1)).contains x.1))
    if !blocked && s.startable t then some (t, before ++ ts) else firstStartable s (before ++ [t]) ts

/-- FIRST (R126): the chunk at which the first message header of a stripe begins. -/
def firstHead : List Part → Nat → Nat
  | [], _ => 0x7F
  | p :: ps, n => if p.head then n else firstHead ps (n + p.chunks)

/-- The plane of slot k of a stripe (R131). -/
def Stripe.plane (t : Stripe) (k : Nat) : Nat := (t.rot + k) % 16

/-- A target list cut into list cells of 16 entries, with their part numbers (R143). -/
def listParts : Nat → Nat → List (Nat × Nat) → List (Nat × List (Nat × Nat))
  | 0, _, _ => []
  | f + 1, n, l => if l.isEmpty then [] else (n, l.take 16) :: listParts f (n + 1) (l.drop 16)

/-- The items of a stripe for the plane of its slot k: its list cells, then its cell (R135, R143). -/
def Stripe.items (t : Stripe) (lslot k : Nat) : List Item :=
  let n := t.chunks
  let base : Item := { kind := .data, src := t.src, cls := t.cls, targets := t.targets, mc := t.mc, slot := k,
                       fill := min 4 (n - 4 * k), first := firstHead t.parts 0, lslot := lslot }
  let cell := if 4 * k < n then base else { base with kind := .feather, fill := 0 }
  (if t.mc then (listParts 4 0 t.targets).map (fun x => { base with kind := .list x.1, targets := x.2 }) else []) ++ [cell]

/-- The cells of a stripe that hold message bytes. -/
def Stripe.dataCells (t : Stripe) : Nat := (t.chunks + 3) / 4

/-- The write credits that an input holds for a plane (R132): 32, less one for each item on its way. -/
def CoreIn.credits (i : CoreIn) (p : Nat) : Nat := 32 - (tabGet (fun _ => []) i.items p).length

/-- Whether an input holds the credits for every item of a stripe. DEDUCED: a started stripe is sent whole, so its credits are
there when it starts (log entry 101). -/
def CoreIn.affords (i : CoreIn) (t : Stripe) : Bool :=
  (List.range 16).all (fun k => (t.items i.listSlot k).length ≤ i.credits (t.plane k))

/-- STRIPE_START (R134): the oldest closed stripe whose grants are present, once the input holds its credits (R132). -/
def execStripeStart (input : Fin 322) (s : State) : Host.Outcome State Fault Refusal :=
  let e := input.val
  let i := s.coreIn e
  match (firstStartable s [] i.closed).filter (fun x => i.affords x.1) with
  | none => .next s
  | some (t, rest) =>
    let items := (List.range 16).foldl (fun a k =>
      tabSet id (fun _ => []) a (t.plane k) (tabGet (fun _ => []) a (t.plane k) ++ t.items i.listSlot k)) i.items
    let i := { i with closed := rest, items := items, listSlot := if t.mc then 1 - i.listSlot else i.listSlot }
    let s := s.setCoreIn e i
    let s := { s with core := { s.core with stripes := s.core.stripes ++ [t] } }
    let s := s.countWrap CORE_FTHR_CNT.CNT (16 - t.dataCells)
    .next (if t.mc then s.countWrap CORE_MC_CNT.CNT else s)

/-! Planes (R127, R136, R142 to R144) -/

def Plane.add (q : Plane) (o c n : Nat) : Plane :=
  { q with queued := tabSet id (fun _ => 0) q.queued (8 * o + c) (q.count o c + n) }

def Plane.drop (q : Plane) (o c : Nat) : Plane :=
  { q with queued := tabSet id (fun _ => 0) q.queued (8 * o + c) (q.count o c - 1) }

/-- One reader of the cell at an address has read it; the cell is freed once none is left (R136, R144). -/
def Plane.read (q : Plane) (addr o ssn : Nat) : Plane :=
  let cs := mapWhere (fun (c : Cell) => c.addr == addr) (fun c => { c with readers := c.readers.erase (o, ssn) }) q.cells
  { q with cells := cs.filter (fun c => !c.readers.isEmpty) }

/-- The first address from n that no cell has, within a number of steps. -/
def firstFree (used : List Nat) : Nat → Nat → Nat
  | 0, n => n
  | f + 1, n => if used.contains n then firstFree used f (n + 1) else n

/-- The address at which a plane stores its next cell: the lowest free one, DESIGN CHOICE (log entry 101). -/
def Plane.nextAddr (q : Plane) : Nat := firstFree (q.cells.map (·.addr)) q.cells.length 0

/-- What an output has a plane do with a noticed item that it reads or passes (R136): a data cell is read, and the count falls. -/
def Plane.take (q : Plane) (n : Notice) (o : Nat) : Plane :=
  (match n.addr with
    | some a => q.read a o n.ssn
    | none => q).drop o n.cls

/-- The SSN that an output expects of a flow (R137). -/
def CoreOut.next (o : CoreOut) (src cls : Nat) : Nat := tabGet (fun _ => 0) o.expected (8 * src + cls)

/-- Whether an SSN lies within 32,768 below the expected one (R138). -/
def late (ssn next : Nat) : Bool := (next + 65536 - ssn - 1) % 65536 < 32768

/-- The notices that an output holds of the stripe it expects of a flow. -/
def CoreOut.held (o : CoreOut) (src cls : Nat) : List Notice :=
  o.notices.filter (fun n => n.src == src && n.cls == cls && n.ssn == o.next src cls)

/-- Whether the expected stripe of a flow is complete (R137). -/
def CoreOut.complete (o : CoreOut) (src cls : Nat) : Bool := (o.held src cls).length == 16

/-- A plane's notice of an item to one output (R136). A late one is read and discarded at once (R138). -/
def State.notice (s : State) (n : Notice) (o : Nat) (tie : Bool) : State :=
  let q := s.coreOut o
  if late n.ssn (q.next n.src n.cls) then
    (s.setPlane n.plane ((s.plane n.plane).take n o)).count CORE_LATE_CNT.CNT
  else
    let q' := { q with notices := q.notices ++ [n] }
    let s := s.setCoreOut o q'
    if tie && !q.complete n.src n.cls && q'.complete n.src n.cls then s.nearMiss (islandOfEndpoint o) else s

/-- The grants of a plane that one pair of state and plane gives and another withdraws (R133, R149). -/
def withdrawn (s : State) (before : Plane) (t : State) (after : Plane) : Nat :=
  (after.queued.filter (fun e => s.granted before (e.1 / 8) (e.1 % 8) && !t.granted after (e.1 / 8) (e.1 % 8))).length

/-- A write of CORE_OQ_LIM (R147, R149): a value outside 0x040 to 0x400 is ignored; each plane counts the grants that it
withdraws by it. -/
def writeOqLim (s : State) (v : Word) : State :=
  let n := bitsOf v 10 0
  if 0x40 ≤ n ∧ n ≤ 0x400 then
    let t := s.setFld CORE_OQ_LIM.LIM n
    t.each (List.range 16) (fun u p => u.count CORE_PL_WHLD.CNT (withdrawn s (s.plane p) t (s.plane p)) p)
  else s

/-- The index of a list cell's part in a plane (R143). -/
def listAt (src lslot part : Nat) : Nat := 8 * src + 4 * lslot + part

/-- The targets of an item at a plane: of a multicast one, the entries of its list slot (R136, R143), those of the list cells
that the plane has taken. The spec does not say what a plane does with a multicast cell of whose list a cell was discarded for
its tag: DESIGN CHOICE (log entry 101). -/
def Plane.targets (q : Plane) (x : Item) : List (Nat × Nat) :=
  if x.mc then (List.range 4).flatMap (fun k => tabGet (fun _ => []) q.lists (listAt x.src x.lslot k)) else x.targets

/-- A list slot of a source emptied: once its list has been used, and as a new one begins. -/
def Plane.clearList (q : Plane) (src lslot : Nat) : Plane :=
  { q with lists := (List.range 4).foldl (fun l k => tabSet id (fun _ => []) l (listAt src lslot k) []) q.lists }

/-- A list cell stored: part 0 begins a new list (R143). -/
def Plane.storeList (q : Plane) (x : Item) (part : Nat) : Plane :=
  let q := if part = 0 then q.clearList x.src x.lslot else q
  { q with lists := tabSet id (fun _ => []) q.lists (listAt x.src x.lslot part) x.targets }

/-- A data cell or a feather stored, and noticed to its outputs. -/
def State.storeItem (s : State) (p : Nat) (x : Item) (tie : Bool) : State :=
  let q := s.plane p
  let ts := q.targets x
  let addr := if x.kind = .data then some q.nextAddr else none
  let q' := if x.mc then q.clearList x.src x.lslot else q
  let q' := match addr with
    | some a => if ts.isEmpty then q' else { q' with cells := q'.cells ++ [⟨a, ts⟩] }
    | none => q'
  let q' := ts.foldl (fun q t => q.add t.1 x.cls 1) q'
  let s' := (s.setPlane p q').event (islandPlane p) (if x.kind = .data then 0x02 else 0x04)
  let s' := s'.count CORE_PL_WHLD.CNT (withdrawn s q s' q') p
  s'.each ts (fun s t => s.notice { src := x.src, cls := x.cls, ssn := t.2, slot := x.slot, plane := p, fill := x.fill,
                                    first := x.first, mc := x.mc, addr := addr } t.1 tie)

/-- What a plane does with an item that it takes (R126, R127, R136, R142, R143). Of a tag that cannot be read the log holds the
true SRC, DST and CLS and SSN 0; of a multicast cell DST 0: DESIGN CHOICE (log entry 101). -/
def State.planeTakes (s : State) (p : Nat) (x : Item) (obs : TagObs) (tie : Bool) : State :=
  let dst := if x.mc then 0 else (x.targets.map (·.1)).headD 0
  let ssn := if x.mc then 0 else (x.targets.map (·.2)).headD 0
  let s := if obs = .ce then s.count CORE_PL_ECC.CE 1 p else s
  if obs = .ue then ((s.count CORE_PL_ECC.UE 1 p).coreErr 0 p x.src dst x.cls 0).report (slotPlane p)
  else if obs = .reserved then s.coreBad 1 p x.src dst x.cls ssn
  else match x.kind with
    | .list part => if x.src < 256 ∨ 1 < x.cls then s else s.setPlane p ((s.plane p).storeList x part)
    | _ => if x.mc ∧ (x.src < 256 ∨ 1 < x.cls) then s.coreBad 1 p x.src dst x.cls else s.storeItem p x tie

/-- PLANE_ITEM_TAKE (R136): a plane takes an input's next item, and the credit of it returns (R132). obs is what the plane finds
in its tag. tie says that a notice of it reaches an output on the tick on which a reassembly timer expires (R138). -/
def execPlaneItemTake (plane : Fin 16) (input : Fin 322) (obs : TagObs) (tie : Bool) (s : State) :
    Host.Outcome State Fault Refusal :=
  let p := plane.val
  let e := input.val
  let i := s.coreIn e
  match tabGet (fun _ => []) i.items p with
  | [] => .next s
  | x :: rest =>
    let s := s.setCoreIn e { i with items := tabSet id (fun _ => []) i.items p rest }
    .next ((s.planeTakes p x obs tie).freeNotices e)

/-! Delivery to consumers (R137, R141) -/

/-- A message taken by a directory slice. -/
def Slice.take (q : Slice) (m : Msg) : Slice :=
  match m.body with
  | .cohReq _ => { q with reqIn := q.reqIn ++ [m] }
  | .writeback _ => { q with wbIn := q.wbIn ++ [m] }
  | .clnEvct => { q with wbIn := q.wbIn ++ [m] }
  | .answer _ _ => { q with wbIn := q.wbIn ++ [m] }
  | .notice _ => { q with noticeIn := q.noticeIn ++ [m] }
  | .fence => { q with noticeIn := q.noticeIn ++ [m] }
  | _ => q

/-- Whether a message is for the port island itself, whatever its link's state: a core notice, or what a port agent takes. -/
def Msg.forAgent (m : Msg) : Bool :=
  match m.body with
  | .nack => true
  | .parkNotice => true
  | .data _ => true
  | .cmp _ => true
  | .snoop _ => true
  | .fence => true
  | .mgmt => true
  | _ => false

/-- A message released at a port's output. What the port would send on a link that is down, or whose function is stopped,
is discarded (R141): a request to a memory device then ends as the sweep of R117 ends it. A fabric port does not carry C6 and C7
(R190). -/
def State.deliverPort (s : State) (p : Nat) (m : Msg) : State :=
  let role := s.fld PRT_CTL.ROLE p
  let up := s.linkActive p
  match m.body with
  | .reserved _ => s.coreBad 5 0 m.src p m.cls
  | _ =>
    if role = 4 ∧ (m.cls = 6 ∨ m.cls = 7) then s.count CORE_FAB_DISC.CNT
    else if role = 4 ∧ m.fab.isSome then
      if up then s.modPort p (fun q => { q with linkTx := q.linkTx ++ [m] }) else s
    else if m.forAgent then s.modPort p (fun q => { q with inbox := q.inbox ++ [m] })
    else if !up then s.sweepMsg p true m
    else if role = 2 then s.enqueue p m
    else match m.body with
      | .tlp posted n => s.emit (.tlp p posted n m.poison)
      | .config a v => s.emit (.config p a v)
      | _ => s

/-- A message released at an output (R125, R137). -/
def State.deliver (s : State) (e : Nat) (m : Msg) : State :=
  if e < 256 then s.deliverPort e m
  else match m.body with
    | .reserved _ => s.coreBad 5 0 m.src e m.cls
    | _ => s.modSlice (e - 256) (fun q => q.take m)

/-! Outputs: selection and reading (R137, R138) -/

/-- Whether a class has room at an output's consumer (R137): room says so for what lies outside the model; a memory port's egress
has it by its buffer, and always while the port discards what it reads (R141), a slice's writeback lane while its tables have room
(R102, R162). -/
def State.hasRoom (s : State) (e cls : Nat) (room : BitVec 8) : Bool :=
  room.getLsbD cls &&
    (if e < 256 then
       (s.fld PRT_CTL.ROLE e != 2 || !s.linkActive e || (s.sched e).room cls) &&
         !(s.fld PRT_CTL.ROLE e == 4 && (s.fn (fidPort e)).run == .stopping)
     else cls != 2 || !((s.slice (e - 256)).wipFull 0 || (s.slice (e - 256)).wipFull 1))

/-- The classes in the order of selection: C0 to C3, then C4 to C7 in turn (R137). -/
def classOrder (last : Nat) : List Nat := [0, 1, 2, 3] ++ (List.range 4).map (fun k => 4 + (last - 4 + 1 + k) % 4)

/-- The stripe that an output selects: its class and input. -/
def State.selectable (s : State) (e : Nat) (room : BitVec 8) : Option (Nat × Nat) :=
  let o := s.coreOut e
  (classOrder o.lastClass).findSome? (fun c =>
    if !s.hasRoom e c room then none
    else
      let srcs := ((o.notices.filter (fun n => n.cls == c)).map (·.src)).eraseDups
      let last := tabGet (fun _ => 321) o.lastInput c
      ((inTurn 322 last).find? (fun i => srcs.contains i && o.complete i c)).map (fun i => (c, i)))

/-- OUTPUT_SELECT (R137). -/
def execOutputSelect (output : Fin 320) (room : BitVec 8) (s : State) : Host.Outcome State Fault Refusal :=
  let e := output.val
  let o := s.coreOut e
  if 4 * s.slots e ≤ (o.window.filter (fun w => !w.lost)).length then .next s
  else match s.selectable e room with
    | none => .next s
    | some (c, i) =>
      let ns := o.held i c
      let ssn := o.next i c
      let w : Window := { src := i, cls := c, ssn := ssn,
                          unread := ns.filter (fun n => n.addr.isSome) }
      let o := { o with
        notices := o.notices.filter (fun n => !(n.src == i && n.cls == c && n.ssn == ssn)),
        expected := tabSet id (fun _ => 0) o.expected (8 * i + c) ((ssn + 1) % 65536),
        window := o.window ++ [w],
        lastClass := if 4 ≤ c then c else o.lastClass,
        lastInput := tabSet id (fun _ => 321) o.lastInput c i }
      let s := s.setCoreOut e o
      .next (s.each (ns.filter (fun n => n.addr.isNone)) (fun s n => s.setPlane n.plane ((s.plane n.plane).take n e)))

/-- Whether a chunk of a part, which begins at chunk n of its stripe, was read with an error. -/
def Part.poisoned (x : Part) (n : Nat) (bad : List Nat) : Bool := bad.any (fun b => n ≤ b && b < n + x.chunks)

/-- The messages of a released stripe (R137, R138), with what the flow holds after it: whether a message's head waits for its
tail, and was read with an error. skip says that the chunks before FIRST are discarded. -/
def releaseParts : List Part → Nat → List Nat → Bool → Option Bool → List Msg × Option Bool
  | [], _, _, _, half => ([], half)
  | x :: xs, n, bad, skip, half =>
    let mine := x.head || (half.isSome && !skip)
    let err := x.poisoned n bad || (!x.head && half.getD false)
    let (ms, p) := releaseParts xs (n + x.chunks) bad (skip && !x.head) (if mine && !x.tail then some err else none)
    let m := if err then { x.msg with poison := true } else x.msg
    if mine && x.tail then (m :: ms, p) else (ms, p)

/-- The stripe of a target in the core. -/
def State.stripeOf (s : State) (src cls e ssn : Nat) : Option Stripe :=
  s.core.stripes.find? (fun t => t.src == src && t.cls == cls && t.targets.contains (e, ssn))

/-- A target has done with a stripe; one that no target still has to release leaves the core. -/
def State.stripeDone (s : State) (src cls e ssn : Nat) : State :=
  let hit := fun (t : Stripe) => t.src == src && t.cls == cls && t.targets.contains (e, ssn)
  let ts := mapWhere hit (fun t => { t with targets := t.targets.erase (e, ssn) }) s.core.stripes
  { s with core := { s.core with stripes := ts.filter (fun t => !t.targets.isEmpty) } }

/-- One read stripe released: its messages go to the consumer. -/
def State.releaseStripe (s : State) (e : Nat) (w : Window) : State :=
  let flow := 8 * w.src + w.cls
  let o := s.coreOut e
  match s.stripeOf w.src w.cls e w.ssn with
  | none => s
  | some t =>
    let (ms, p) := releaseParts t.parts 0 w.poisoned (o.skip.contains flow)
      (tabGet (fun _ => none) o.partials flow)
    let o := { o with skip := o.skip.filter (· != flow),
                      partials := tabSet id (fun _ => none) o.partials flow p }
    ((s.setCoreOut e o).stripeDone w.src w.cls e w.ssn).each ms (fun s m => s.deliver e m)

/-- The place of a lost stripe passed (R138): a message of its flow whose head came before it is lost, and the next released
stripe of the flow skips to FIRST. -/
def State.passLost (s : State) (e : Nat) (w : Window) : State :=
  let o := s.coreOut e
  let flow := 8 * w.src + w.cls
  s.setCoreOut e { o with skip := o.skip.filter (· != flow) ++ [flow],
                          partials := tabSet id (fun _ => none) o.partials flow none }

/-- The stripes at the front of a read window that have been read whole are released, in the order of selection. -/
def State.releaseWindow (s : State) (e : Nat) : List Window → State
  | [] => (let o := s.coreOut e; s.setCoreOut e { o with window := [] })
  | w :: ws =>
    if w.lost then (s.passLost e w).releaseWindow e ws
    else if w.unread.isEmpty then (s.releaseStripe e w).releaseWindow e ws
    else (let o := s.coreOut e; s.setCoreOut e { o with window := w :: ws })

/-- A stripe of a flow lost at an output (R138, R139): counted, logged, reported; a loss in C0 to C4 fences every crew. Its place
in the order of release is kept, after the stripes of its flow that are still being read. -/
def State.loseStripe (s : State) (e src cls ssn cause plane : Nat) : State :=
  let s := ((s.stripeDone src cls e ssn).count CORE_RSM_CNT.CNT).coreErr cause plane src e cls ssn
  let s := s.report (slotOutput e)
  let s := if cls ≤ 4 then s.lossFence (slotOutput e) else s
  s.releaseWindow e (s.coreOut e).window

/-- The cells of a stripe still unread by an output, read and discarded. -/
def State.discardCells (s : State) (e : Nat) (ns : List Notice) : State :=
  s.each ns (fun s n => s.setPlane n.plane ((s.plane n.plane).take n e))

/-- OUTPUT_CELL_READ (R137): an output's read position in a plane. obs is what the ECC of the cell's words shows (R127). -/
def execOutputCellRead (output : Fin 320) (plane : Fin 16) (obs : CellObs) (s : State) :
    Host.Outcome State Fault Refusal :=
  let e := output.val
  let p := plane.val
  let o := s.coreOut e
  match o.window.find? (fun w => w.unread.any (fun x => x.plane == p)) with
  | none => .next s
  | some w =>
    match w.unread.find? (fun x => x.plane == p) with
    | none => .next s
    | some x =>
      let same := fun (v : Window) => v.src == w.src && v.cls == w.cls && v.ssn == w.ssn
      let s := (s.setPlane p ((s.plane p).take x e)).event (islandPlane p) 0x03
      let w := { w with unread := w.unread.erase x }
      match obs with
      | .ueHeader =>
        let s := (s.count CORE_PL_ECC.UE 1 p).discardCells e w.unread
        let s := s.setCoreOut e { o with window := mapWhere same (fun v => { v with unread := [], lost := true }) o.window }
        .next (s.loseStripe e w.src w.cls w.ssn 3 p)
      | _ =>
        let s := match obs with
          | .ce => s.count CORE_PL_ECC.CE 1 p
          | .ueData _ => s.count CORE_PL_ECC.UE 1 p
          | _ => s
        let w := match obs with
          | .ueData c => { w with poisoned := w.poisoned ++ [4 * x.slot + c.val] }
          | _ => w
        let s := s.setCoreOut e { o with window := mapWhere same (fun _ => w) o.window }
        .next (s.releaseWindow e (s.coreOut e).window)

/-- Whether an output's reassembly timer runs for a flow (R138). -/
def CoreOut.waiting (o : CoreOut) (src cls : Nat) : Bool :=
  let n := (o.held src cls).length
  (n != 0 && n != 16) || (n == 0 && o.notices.any (fun x => x.src == src && x.cls == cls &&
    (o.notices.filter (fun y => y.src == src && y.cls == cls && y.ssn == x.ssn)).length == 16))

/-- REASSEMBLY_TIMEOUT (R138). The cells of the lost stripe that the output already holds notices of are read and
discarded. -/
def execReassemblyTimeout (output : Fin 320) (src : Fin 322) (cls : Fin 8) (s : State) :
    Host.Outcome State Fault Refusal :=
  let e := output.val
  let o := s.coreOut e
  if !o.waiting src.val cls.val then .next s
  else
    let ssn := o.next src.val cls.val
    let ns := o.held src.val cls.val
    let s := s.setCoreOut e { o with
      notices := o.notices.filter (fun n => !(n.src == src.val && n.cls == cls.val && n.ssn == ssn)),
      expected := tabSet id (fun _ => 0) o.expected (8 * src.val + cls.val) ((ssn + 1) % 65536),
      window := o.window ++ [{ src := src.val, cls := cls.val, ssn := ssn, unread := [], lost := true }] }
    .next ((s.discardCells e ns).loseStripe e src.val cls.val ssn 2 0)

end Sys2Proof.Machine
end

