-- ==== Sys2Proof/Machine/MemPort.lean ====
section
/-! DEFINITION. A memory port's answers: responses, completion timeouts, the sweep of its outstanding requests (spec/04 R99,
R117, spec/09 R247, spec/02 R62, spec/19 R487). -/

namespace Sys2Proof.Machine

/-- A write that ended in error or by timeout: fence cause 0x4 for a slice's (R114, R247). -/
def State.writeFails (s : State) (p : Nat) (r : DevReq) : State :=
  let s := if r.fromSlice then s.causeFence { cause := 4, unit := octetOf p, crews := .one r.msg.crew, feid := r.msg.feid } else s
  s.writeAnswer p r

/-- A request that its memory device has left without a good answer (R99, R247). -/
def State.requestFails (s : State) (p : Nat) (r : DevReq) : State :=
  (if r.write then s.writeFails p r else s.readAnswer p r true).report (slotPort p)

/-- The request at a position of a memory port's list, with the state without it. -/
def State.takeDev (s : State) (p n : Nat) : Option (DevReq × State) :=
  (s.port p).dev[n]?.map (fun r => (r, s.modPort p (fun q => { q with dev := q.dev.eraseIdx n })))

/-- Whether a response is one that a request may have. -/
def DevReq.fits (r : DevReq) : DevResp → Bool
  | .data _ => !r.write
  | .readError => !r.write
  | .writeDone => r.write
  | .writeError => r.write

/-- A scrub write that its memory device has left without a good answer (R62, R247). -/
def State.scrubFails (s : State) (p : Nat) (m : Msg) : State := (s.scrubFail p m.tag).report (slotPort p)

/-- What a response does to the request that it answers. -/
def State.response (s : State) (p : Nat) (r : DevReq) (a : DevResp) : State :=
  match a, r.write with
  | .data x, false => (s.portEvent p 0x04 64).readAnswer p r x
  | .readError, false => s.requestFails p r
  | .writeDone, true => if r.msg.body.isScrub then s.scrubAck p r.msg.tag else s.writeAnswer p r
  | .writeError, true => if r.msg.body.isScrub then s.scrubFails p r.msg else s.requestFails p r
  | _, _ => s

/-- MEMORY_RESPONSE (R99, R62): a response to the request at a position of the port's list, or one for a request that is no
longer there, late under R17. tie says that it arrives on the tick on which the request's timer expires (R15). -/
def execMemoryResponse (port : Fin 256) (resp : DevResp) (which : Nat) (tie : Bool) (s : State) :
    Host.Outcome State Fault Refusal :=
  let p := port.val
  if !s.flag PRT_STS.LUP p then .next s
  else match s.takeDev p which with
    | none => .next (s.lateArrival (octetOf p))
    | some (r, s') =>
      if r.fits resp then .next ((if tie then s'.nearMiss (octetOf p) else s').response p r resp) else .next s

/-- MEMORY_COMPLETION_TIMEOUT (R247): the timer of the request at a position of the port's list. -/
def execMemoryCompletionTimeout (port : Fin 256) (which : Nat) (s : State) : Host.Outcome State Fault Refusal :=
  let p := port.val
  match s.takeDev p which with
  | none => .next s
  | some (r, s) =>
    .next ((if r.msg.body.isScrub then s.scrubFails p r.msg else s.requestFails p r).count PRT_CTO_CNT.CNT 1 p)

/-- Every request that a memory port has sent to its device ended so. -/
def State.sweepDevs (s : State) (p : Nat) (down : Bool) : State :=
  (s.each (s.port p).dev (fun s r => s.sweepDev p down r)).modPort p (fun q => { q with dev := [] })

/-- Whether an entry is a coherent request to a crew of this switch. -/
def OutEntry.localCoherent (e : OutEntry) : Bool :=
  match e.kind with
  | .remote _ => false
  | _ => e.crew != noCrew

/-- The sweep of a host port at link-down (R117, R113): requests discarded, coherent ones fencing their crew with cause 0x5,
credits back, snoops expired. An outstanding writeback or MemClnEvct counts as a coherent request: DESIGN CHOICE (log entry 103). -/
def State.sweepHost (s : State) (p : Nat) : State :=
  let q := s.port p
  let f := s.mappedFeid p
  let s := s.each (q.out.filter OutEntry.localCoherent) (fun s e =>
    (s.causeFence { cause := 5, unit := octetOf p, crews := .one e.crew, feid := f }).report (slotPort p))
  let s := s.dropEntries p (fun _ => true)
  let s := s.each (q.snoops.filter (fun x => x.fab.isNone && !x.expired)) (fun s x =>
    (s.causeFence { cause := 2, unit := octetOf p, crews := .one x.crew, slice := some x.slice, feid := x.feid }).report
      (slotPort p))
  s.modPort p (fun q => { q with
    held := []
    snoops := (q.snoops.filter (fun x => x.fab.isNone)).map (fun x => { x with expired := true, timed := false }) })

end Sys2Proof.Machine
end

