-- ==== Sys2Proof/Machine/Fabric.lean ====
section
/-! DEFINITION. The fabric: packets forwarded, admitted at the home and delivered to agents, fence notices and requests
between switches, lost links (spec/07, spec/08 R207). -/

namespace Sys2Proof.Machine

/-- This switch's ID (R175). -/
def State.swid (s : State) : Nat := s.fld CORE_FAB_ID.SWID

/-! Received packets (R190, R213, R214) -/

/-- The class in which a received packet enters the core (R213). -/
def rxClass (vc : Nat) (m : Msg) : Nat :=
  match vc with
  | 0 => if (m.fab.map (·.hcrew)).getD noCrew = noCrew then 5 else 4
  | 1 => 1
  | 2 => 3
  | 3 => match m.body with
    | .data _ => 3
    | _ => 2
  | _ => 0

/-- The slots that a packet occupies (R201). -/
def Msg.slotCount (m : Msg) : Nat := (m.len + 63) / 64

/-- The first packet that satisfies a test among the packets at the head of their channels, with the list without it. -/
def takeHead (f : Msg → Bool) : List Nat → List (Nat × Msg) → Option ((Nat × Msg) × List (Nat × Msg))
  | _, [] => none
  | seen, x :: xs =>
    if !seen.contains x.1 && f x.2 then some (x, xs)
    else match takeHead f (x.1 :: seen) xs with
      | some (y, r) => some (y, x :: r)
      | none => none

/-- The cumulative credits returned to the far end raised (R204, R214): modulo 8,192, or 64 for channel B (5). -/
def Half.giveBack (h : Half) (vc n : Nat) : Half :=
  let m := if vc = 5 then 64 else 8192
  { h with given := tabSet id (fun _ => 0) h.given vc ((tabGet (fun _ => 0) h.given vc + n) % m) }

/-- The next packet of a fabric port's receive buffer that a test selects, taken up. -/
def State.takeRx (s : State) (p : Nat) (f : Msg → FabHdr → Bool) : Option (Nat × Msg × FabHdr × State) :=
  let i := halfOf p
  match takeHead (fun m => m.fab.any (f m)) [] (s.half i).rx with
  | some ((vc, m), r) => m.fab.map (fun h => (vc, m, h, s.modHalf i (fun q => { q with rx := r })))
  | none => none

/-- A packet no longer in its receive buffer, because it has entered the core or has been answered or discarded: the credits of
its slots return (R214). -/
def State.rxFree (s : State) (p vc : Nat) (m : Msg) : State := s.modHalf (halfOf p) (fun q => q.giveBack vc m.slotCount)

/-! Alerts between islands of this switch (R396, R397) -/

/-- An alert put into its node's send queue. -/
def State.alert (s : State) (a : Alert) : State := { s with noc := { s.noc with send := s.noc.send ++ [a] } }

/-- Whether a node's send queue holds 16 alerts (R397). -/
def State.sendFull (s : State) (node : Nat) : Bool := 16 ≤ (s.noc.send.filter (fun a => a.src == node)).length

/-- A fence notice or request sent toward a switch from an island, by the bypass channel of the route's port; none where no
Active link leads there (R182, R192, R207). -/
def State.sendBypass (s : State) (node dswid : Nat) (m : BypMsg) : Option State :=
  match s.routePort dswid with
  | some r => if s.linkActive r then some (s.alert ⟨octetOf r, node, r, m⟩) else none
  | none => none

/-! Forwarding (R182) -/

/-- The fence request that a discarded packet causes (R182). -/
def State.requestFence (s : State) (p : Nat) (h : FabHdr) : State :=
  let home := if h.kind = 0 then h.dswid else h.sswid
  (s.sendBypass (octetOf p) home (.fenceReq home s.swid (s.hopsTo home) h.hcrew h.sfeid)).getD s

/-- FABRIC_PACKET_FORWARD (R182): the first packet of a fabric port's receive buffer that is for another switch. -/
def execFabricPacketForward (port : Fin 256) (s : State) : Host.Outcome State Fault Refusal :=
  let p := port.val
  match s.takeRx p (fun _ h => h.dswid != s.swid) with
  | none => .next s
  | some (vc, m, h, s) =>
    let s := s.rxFree p vc m
    let c := rxClass vc m
    let drop := fun (s : State) =>
      let s := s.count CORE_FAB_DISC.CNT
      if 1 ≤ c ∧ c ≤ 4 ∧ h.kind ≤ 1 then s.requestFence p h else s
    match s.routePort h.dswid with
    | none => .next (drop s)
    | some r =>
      if h.hops ≤ 1 ∨ !s.linkActive r then .next (drop s)
      else .next (s.send { m with src := p, dsts := [r], cls := c, fab := some { h with hops := h.hops - 1 } })

/-! Admission at the home (R187) -/

/-- What the admission check gives. -/
inductive Admitted where
  | fail (cause : Nat)
  | hold (group : Option Nat)
  | pass (a : ActSkein)
  deriving DecidableEq, Repr

/-- Whether an operation is a writeback or an eviction notice of a coherent line, which nothing holds (R71, R93). -/
def HostOp.writesBack : HostOp → Bool
  | .memWr false _ _ => true
  | .memClnEvct => true
  | _ => false

/-- A skein as an active copy that does not list it holds it: as the skein table resets it (R37). -/
def blankSkein (n : Nat) : ActSkein :=
  { skein := n, state := skAbsent, crew := noCrew, size := 0, mport := 0, dbase := 0, group := 0 }

/-- The admission check of R187, in its order; Held acts at once, whatever the copy holds (R51). Of several valid access list
entries with one skein and one FEID that of the lowest index decides: DESIGN CHOICE (log entry 104). A fabric port that has taken
the safe notice refuses requests (R487). -/
def State.admission (s : State) (p : Nat) (op : HostOp) (h : FabHdr) : Admitted :=
  let q := s.port p
  let wb := op.writesBack && h.hcrew != noCrew
  let a := (q.skeins.find? (fun a => a.skein == h.hskein)).getD (blankSkein h.hskein)
  let held := s.fld SKN_W0.STATE h.hskein == skHeld || a.state == skHeld
  let rest := fun (a : ActSkein) =>
    if !(skOffered ≤ a.state && a.state ≤ skReleasing) then Admitted.fail 0
    else if skeinGranules a.size * granule ≤ 64 * h.offset then .fail 4
    else
      if !wb && s.groupHolds a.group then .hold (some a.group) else .pass a
  if q.safe ∧ !wb then .fail 2
  else if h.hcrew ≠ noCrew then
    if a.crew ≠ h.hcrew then .fail 0
    else if s.crewState h.hcrew = 1 ∧ !wb then .hold none
    else if s.crewFenced h.hcrew ∨ held then .fail 2
    else if !q.members.contains (h.hcrew, h.sfeid) then .fail 0
    else rest a
  else match q.racl.find? (fun r => r.skein == h.hskein && r.feid == h.sfeid) with
    | none => .fail 0
    | some r =>
      if a.crew ≠ noCrew then .fail 0
      else if op.writes ∧ !r.wr then .fail 1
      else if held then .fail 2
      else rest a

/-- The kind of entry that an admitted remote operation makes (R93, R95, R187); none for one that takes none. -/
def HostOp.remoteKind (op : HostOp) (coherent : Bool) : Option OutKind :=
  match coherent, op.intent, op with
  | true, some x, _ => some (.coh x)
  | true, none, .memWr _ v _ => some (.wb v)
  | true, none, .memClnEvct => some .cln
  | true, none, _ => none
  | false, _, _ => if op.writes then some .ncWrite else if op.isRead then some (.ncRead op.grant) else none

/-- An entry for a remote packet. -/
def remoteEntry (m : Msg) (h : FabHdr) (kind : OutKind) : OutEntry :=
  { tag := 0, hostTag := m.tag, kind := kind, phase := .held, feid := h.sfeid, crew := h.hcrew, mport := 0, addr := 0,
    slice := 0, epoch := 0, poison := m.poison, fab := some h }

/-- A remote request checked and admitted, refused or held (R187); one that is held keeps its receive buffer (R214). A port whose
drain tracker was reset holds all but writebacks (R375). -/
def State.admitFabric (s : State) (p vc : Nat) (m : Msg) (h : FabHdr) (op : HostOp) : State :=
  if (s.port p).trackerDown && !(op.writesBack && h.hcrew != noCrew) then s.holdIngress p (.fabric m vc none)
  else
    let s := s.portEvent p 0x02
    match s.admission p op h with
    | .hold g => s.holdIngress p (.fabric m vc g)
    | .fail c =>
      let s := s.rxFree p vc m
      let s := s.accessFault p c (64 * h.offset) op.writes
      s.reply p (remoteEntry m h .cln) (if op.isRead then .poison else .cmp .i)
    | .pass a =>
      let s := s.rxFree p vc m
      match op.remoteKind (h.hcrew != noCrew) with
      | none => s
      | some k =>
        let addr := a.dbase * granule + 64 * h.offset
        s.takeEntry p { remoteEntry m h k with
          mport := a.mport, addr := addr, slice := if h.hcrew = noCrew then 0 else homeSlice a.mport addr,
          eq := s.fld PRT_TM.DEF_EQ p }

/-- The place in a fabric port's snoop list of the snoop that an answer is for (R191). -/
def Port.snoopOf (q : Port) (h : FabHdr) : Nat :=
  q.snoops.findIdx (fun x => x.feid == h.sfeid && x.fab.any (fun g =>
    g.hskein == h.hskein && g.hcrew == h.hcrew && g.offset == h.offset))

/-- FABRIC_ADMISSION (R187, R191): the first KIND 0x0 packet for this switch in a fabric port's receive buffer. tie says that
a snoop answer is taken on the tick on which the snoop's timer expires (R15). -/
def execFabricAdmission (port : Fin 256) (tie : Bool) (s : State) : Host.Outcome State Fault Refusal :=
  let p := port.val
  match s.takeRx p (fun _ h => h.dswid == s.swid && h.kind == 0) with
  | none => .next s
  | some (vc, m, h, s) =>
    match m.body with
    | .remoteReq op => .next (s.admitFabric p vc m h op)
    | .answer _ a => .next ((s.rxFree p vc m).takeAnswer p ((s.port p).snoopOf h) a tie)
    | _ => .next (s.rxFree p vc m)

/-- FABRIC_TO_AGENT (R191): the first KIND 0x1 packet for this switch goes through the core to the agent's host port; a
management packet, KIND 0x3, goes to the management program (R181, R189). -/
def execFabricToAgent (port : Fin 256) (s : State) : Host.Outcome State Fault Refusal :=
  let p := port.val
  match s.takeRx p (fun _ h => h.dswid == s.swid && (h.kind == 1 || h.kind == 3)) with
  | none => .next s
  | some (vc, m, h, s) =>
    let s := s.rxFree p vc m
    if h.kind = 3 then .next (s.emit (.management m))
    else if s.flag CORE_FEID_MAP.VLD h.dfeid then
      .next (s.send { m with src := p, dsts := [s.fld CORE_FEID_MAP.PORT h.dfeid], cls := rxClass vc m })
    else .next s

/-! Requests held at ingress and taken again (R56, R71, R72, R375) -/

/-- The group for which a request is held, none where a crew or the port holds it. -/
def Held.group : Held → Option Nat
  | .host _ g => g
  | .fabric _ _ g => g

/-- The requests that a port holds for a group (R56), or for a crew or the port itself (none), each checked again in the order in
which they were held, after a time that the meter alone knows. -/
def State.replayHeld (s : State) (p : Nat) (g : Option Nat) : State :=
  let hs := (s.port p).held.filter (fun x => x.group == g)
  (s.modPort p (fun q => { q with held := q.held.filter (fun x => x.group != g) })).each hs (fun s x =>
    match x with
    | .host r _ =>
      let (n, s) := s.draw
      s.ingress p { r with dt := Config.elapsed n }
    | .fabric m vc _ => match m.fab, m.body with
      | some h, .remoteReq op => s.admitFabric p vc m h op
      | _, _ => s)

/-- FENCE_NOTICE_AT_PORT_AGENT (R115). The requests that the port holds for a Stopped crew are checked again, and answered as for
a Fenced crew (R72). -/
def execFenceNoticeAtPortAgent (port : Fin 256) (s : State) : Host.Outcome State Fault Refusal :=
  let p := port.val
  match s.takeInbox p (fun m => m.body == .fence) with
  | none => .next s
  | some (m, s) => if s.fld PRT_CTL.ROLE p = 2 then .next s else .next ((s.fenceAgent p m.crew).replayHeld p none)

/-- replayHeld for every port. -/
def State.replayAll (s : State) (g : Option Nat) : State := s.each (s.ports.map (·.1)) (fun s p => s.replayHeld p g)

/-! Fence notices and requests between switches (R183, R192, R207) -/

/-- FENCE_BYPASS_RELAY (R207): the oldest fence notice or request that a fabric port has received goes to the fault collector,
or on toward its switch. While the port island's send queue is full it is not handed on (R397). -/
def execFenceBypassRelay (port : Fin 256) (s : State) : Host.Outcome State Fault Refusal :=
  let p := port.val
  let i := halfOf p
  let node := octetOf p
  let fenceLike := fun (m : BypMsg) => match m with
    | .fence _ _ _ _ => true
    | .fenceReq _ _ _ _ _ => true
    | _ => false
  match takeFirst fenceLike (s.half i).bypRx with
  | none => .next s
  | some (m, r) =>
    if s.sendFull node then .next s
    else
      let s := s.modHalf i (fun q => { q with bypRx := r }.giveBack 5 1)
      let (dswid, hops, onward) := match m with
        | .fence d w n c => (d, n, BypMsg.fence d w (n - 1) c)
        | .fenceReq d w n c f => (d, n, BypMsg.fenceReq d w (n - 1) c f)
        | m => (0, 0, m)
      if dswid = s.swid then .next (s.alert ⟨0xE6, node, 0, m⟩)
      else if hops ≤ 1 then .next (s.count CORE_FAB_DISC.CNT)
      else .next ((s.sendBypass node dswid onward).getD (s.count CORE_FAB_DISC.CNT))

/-- FENCE_REQUEST_RECEIVED (R183). -/
def execFenceRequestReceived (s : State) : Host.Outcome State Fault Refusal :=
  match s.flt.requests with
  | [] => .next s
  | (c, f) :: rest =>
    let s := { s with flt := { s.flt with requests := rest } }
    .next (s.takeFence { cause := 3, unit := slotPort 0, crews := .one c, feid := f })

/-- The outstanding requests of the remote entries of a port that a test selects, ended in error (R192, R195). -/
def State.endRemote (s : State) (p : Nat) (f : ActRext → Bool) : State :=
  let idx := ((s.port p).rext.filter f).map (·.idx)
  s.endEntries p (fun e => e.rext.any (fun i => idx.contains i))

/-- Whether a port has a coherent remote entry, staged or active, that a test on HSWID and HCREW selects. -/
def State.hasRemote (s : State) (p : Nat) (f : Nat → Nat → Bool) : Bool :=
  (s.port p).rext.any (fun a => a.hcrew != noCrew && f a.hswid a.hcrew) ||
    (List.range 32).any (fun i => s.flag PRT_REXT_W0.VLD p i && s.fld PRT_REXT_W0.HCREW p i != noCrew &&
      f (s.fld PRT_REXT_W0.HSWID p i) (s.fld PRT_REXT_W0.HCREW p i))

/-- FENCED set, outstanding requests ended and viral raised at a host port for the coherent remote entries that a test
selects (R192). -/
def State.fenceRemote (s : State) (p : Nat) (f : Nat → Nat → Bool) : State :=
  if s.hasRemote p f then
    ((s.setFenced p f).endRemote p (fun a => a.hcrew != noCrew && f a.hswid a.hcrew)).signalViral p
  else s

/-- REMOTE_FENCE_NOTICE (R192). -/
def execRemoteFenceNotice (port : Fin 256) (s : State) : Host.Outcome State Fault Refusal :=
  let p := port.val
  match (s.port p).alerts with
  | [] => .next s
  | m :: rest =>
    let s := s.modPort p (fun q => { q with alerts := rest })
    match m with
    | .fence _ sswid _ hcrew => .next (s.fenceRemote p (fun w c => w == sswid && c == hcrew))
    | _ => .next s

/-! Lost links (R193 to R195) -/

/-- The switches of the path to a switch, this one first (R179); none where there is no route. -/
def State.path (s : State) (sw : Nat) : List Nat :=
  if s.flag CORE_SW_RT.VLD sw ∧ sw ≠ s.swid then
    s.swid :: ([s.fld CORE_SW_RT.T0 sw, s.fld CORE_SW_RT.T1 sw, s.fld CORE_SW_RT.T2 sw].take (s.fld CORE_SW_RT.NT sw) ++ [sw])
  else []

/-- Whether two switches stand next to each other in a path, in either order. -/
def adjacent (a b : Nat) : List Nat → Bool
  | x :: y :: t => (x == a && y == b) || (x == b && y == a) || adjacent a b (y :: t)
  | _ => false

/-- Whether the path to a switch is touched by a lost link (R194). -/
def State.touched (s : State) (orig peer sw : Nat) : Bool :=
  let l := s.path sw
  adjacent orig peer l || (peer == 0x3FF && l.contains orig)

/-- The first member of a crew whose path is touched. -/
def State.touchedMember (s : State) (orig peer c : Nat) : Option Nat :=
  (s.members c).find? (fun f => s.flag CORE_FEID_MAP.VLD f && s.fld CORE_FEID_MAP.SWID f != s.swid &&
    s.touched orig peer (s.fld CORE_FEID_MAP.SWID f))

/-- The fence cause of a crew that a lost link cuts from a member (R193, R114). -/
def State.lossFenceAt (s : State) (p orig peer c : Nat) : State :=
  if s.crewState c = 1 ∨ s.crewState c = 2 then
    match s.touchedMember orig peer c with
    | some f => (s.causeFence { cause := 3, unit := octetOf p, crews := .one c, feid := f }).report (slotPort p)
    | none => s
  else s

/-- What a lost link does at a host port: its coherent remote entries over the link are fenced, the requests of the others end
(R195). -/
def State.lossEnd (s : State) (orig peer n : Nat) : State :=
  if s.fld PRT_CTL.ROLE n = 1 then
    (s.fenceRemote n (fun w _ => s.touched orig peer w)).endRemote n (fun a => a.hcrew == noCrew && s.touched orig peer a.hswid)
  else s

/-- What a switch does on acting on a link loss that a port saw or received (R193 to R195). -/
def State.actOnLoss (s : State) (p orig peer seq inc : Nat) : State :=
  let s := s.post 0x23 p (2 ^ 16 * orig + peer)
  let s := s.count CORE_FAB_LL_CNT.CNT
  let s := s.capture64 ⟨.CORE_FAB_LL_LOG, 0, 0⟩ (wordOf (2 ^ 32 * inc + 2 ^ 20 * orig + 2 ^ 8 * peer + seq))
  (s.each (List.range 256) (fun s c => s.lossFenceAt p orig peer c)).each (List.range 256) (fun s n => s.lossEnd orig peer n)

/-- The fabric ports, other than one, whose link is Active. -/
def State.activeFabric (s : State) (p : Nat) : List Nat :=
  (List.range 256).filter (fun n => n != p && s.fld PRT_CTL.ROLE n == 4 && s.linkActive n)

/-- A link-loss notice sent on every Active fabric port but one (R193). -/
def State.tellLoss (s : State) (p : Nat) (m : BypMsg) : State :=
  s.each (s.activeFabric p) (fun s n => s.alert ⟨octetOf n, octetOf p, n, m⟩)

/-- The switch's incarnation value, drawn at its first use after a reset (R193). -/
def State.incarnation (s : State) : Nat × State :=
  match s.fab.inc with
  | some v => (v, s)
  | none =>
    let (n, s) := s.draw
    let r := Config.random n
    let v := match s.fab.old with
      | none => r % 65536
      | some o => (o + 1 + r % 65535) % 65536
    (v, { s with fab := { s.fab with inc := some v } })

/-- The fabric actions of a port's own link loss (R193, R220). -/
def State.ownLoss (s : State) (p : Nat) : State :=
  let i := halfOf p
  let peer := if s.flag LFL_STS.PEER_VLD i then s.fld LFL_STS.PEER i else 0x3FF
  let (inc, s) := s.incarnation
  let seq := (s.fab.seq + 1) % 256
  let s := { s with fab := { s.fab with seq := seq } }
  (s.tellLoss p (.linkLoss s.swid peer seq inc)).actOnLoss p s.swid peer seq inc

/-- Whether a link-loss notice is acted on, by the record for its ORIG (R193). -/
def State.lossIsNew (s : State) (orig seq inc : Nat) : Bool :=
  match tabGet (fun _ => none) s.fab.records orig with
  | none => true
  | some (i, q) =>
    let d := (seq + 256 - q) % 256
    i != inc || (1 ≤ d && d ≤ 127)

/-- LINK_LOSS_NOTICE (R193). -/
def execLinkLossNotice (port : Fin 256) (s : State) : Host.Outcome State Fault Refusal :=
  let p := port.val
  let i := halfOf p
  let isLoss := fun (m : BypMsg) => match m with
    | .linkLoss _ _ _ _ => true
    | _ => false
  match takeFirst isLoss (s.half i).bypRx with
  | none => .next s
  | some (m, r) =>
    let s := s.modHalf i (fun q => { q with bypRx := r }.giveBack 5 1)
    match m with
    | .linkLoss orig peer seq inc =>
      if s.lossIsNew orig seq inc then
        let s := { s with fab := { s.fab with
          records := tabSet id (fun _ => none) s.fab.records orig (some (inc, seq)) } }
        .next ((s.tellLoss p m).actOnLoss p orig peer seq inc)
      else .next s
    | _ => .next s

end Sys2Proof.Machine
end

