-- ==== Sys2Proof/Machine/LaneOps.lean ====
section
/-! DEFINITION. Which lanes and which spare a port has, transmit equaliser settings, spares and the ends of heats as the link
layers use them (spec/10 R252 to R261, spec/11 R286 to R299). -/

namespace Sys2Proof.Machine

/-! Lanes and macros (R252 to R254) -/

/-- Whether a fuse repair uses the spare of a global octet (R253, R301). -/
def State.repaired (s : State) (o : Nat) : Bool := bitOf (s.rd ⟨.FUSE_LN_REP, o / 8, 0⟩) (4 * (o % 8) + 3)

/-- The position that the repair of an octet replaces. -/
def State.repairPos (s : State) (o : Nat) : Nat := bitsOf (s.rd ⟨.FUSE_LN_REP, o / 8, 0⟩) (4 * (o % 8) + 2) (4 * (o % 8))

/-- The spare of a global octet (R21). -/
def spareOf (o : Nat) : Nat := 72 * (o / 8) + 64 + o % 8

/-- The lane that serves a logical lane (R253). -/
def State.macroOf (s : State) (l : Nat) : Nat :=
  if s.repaired (l / 8) ∧ s.repairPos (l / 8) = l % 8 then spareOf (l / 8) else 72 * (l / 64) + l % 64

/-- The global octet of a lane (R252). -/
def octetOfLane (n : Nat) : Nat := 8 * (n / 72) + (if n % 72 < 64 then n % 72 / 8 else n % 72 - 64)

/-- The width of a port in lanes, by its code (R234). -/
def widthLanes (code : Nat) : Nat := 2 * 2 ^ code

def State.portWidth (s : State) (p : Nat) : Nat := widthLanes (s.fld PRT_CTL.WIDTH p)

/-- The lanes of a port, port lane 0 first (R19, R268). -/
def State.portLanes (s : State) (p : Nat) : List Nat := (List.range (s.portWidth p)).map (fun k => s.macroOf (2 * p + k))

/-- Whether a half holds a started fabric port. -/
def State.halfStarted (s : State) (i : Nat) : Bool :=
  s.started (portOfHalf i) && s.fld PRT_CTL.ROLE (portOfHalf i) == 4

/-- Whether the spare of a half's octet may serve it (R21, R286). -/
def State.spareUsable (s : State) (i : Nat) : Bool :=
  let own := s.fld LFL_SP_CTL.OWN (i / 2)
  !s.repaired (i / 2) && (own == 0 || own == i % 2 + 1)

/-- The started port that a lane belongs to (R254). A shared spare is with the half whose lane it carries or mirrors. -/
def State.laneOwner (s : State) (n : Nat) : Option Nat :=
  let o := octetOfLane n
  match ((List.range 256).filter (fun p => octetOf p / 2 == o / 2)).find? (fun p =>
      s.started p && (s.portLanes p).contains n) with
  | some p => some p
  | none =>
    let halves := if s.fld LFL_SP_STS.USE o = 0 then [2 * o, 2 * o + 1] else [2 * o + s.fld LFL_SP_STS.HALF o]
    if n = spareOf o then (halves.find? (fun i => s.halfStarted i && s.spareUsable i)).map portOfHalf else none

/-- The started fabric port's half that a lane belongs to. -/
def State.laneHalf (s : State) (n : Nat) : Option Nat :=
  match s.laneOwner n with
  | some p => if s.fld PRT_CTL.ROLE p = 4 then some (halfOf p) else none
  | none => none

/-- The port lane that a lane is, none for a spare of its own. -/
def State.laneIndex (s : State) (p n : Nat) : Option Nat :=
  (List.range (s.portWidth p)).find? (fun k => s.macroOf (2 * p + k) == n)

/-- The lanes that carry a half's traffic in the receive direction, by the far lane that each carries (R219, R268): its port lanes
but one that is on the spare, missing or freed, and the spare while it carries one. -/
def State.trafficLanes (s : State) (i : Nat) : List Nat :=
  let on := (s.half i).rxSpare
  let own := (s.portLanes (portOfHalf i)).filter (fun n =>
    let k := s.fld LN_STS.PLANE n
    if k = 0xF then on.isNone else on != some k)
  if on.isSome then own ++ [spareOf (i / 2)] else own

/-- The receiver of a port lane that far lane k reaches on its own wires: by PLANE, the one without a far lane where none names k.
-/
def State.ownRx (s : State) (i k : Nat) : Nat :=
  let ls := s.portLanes (portOfHalf i)
  match ls.find? (fun n => s.fld LN_STS.PLANE n == k), ls.find? (fun n => s.fld LN_STS.PLANE n == 0xF) with
  | some n, _ => n
  | none, some n => n
  | none, none => s.macroOf (2 * portOfHalf i + k)

/-- The receiver in use for far lane k. -/
def State.rxLane (s : State) (i k : Nat) : Nat := if (s.half i).rxSpare = some k then spareOf (i / 2) else s.ownRx i k

/-- The receive side of a half switched: the spare receives far lane k, or that lane's own receiver again (R268, R289). -/
def State.selectSpare (s : State) (i : Nat) (k : Option Nat) : State :=
  let sp := spareOf (i / 2)
  let s := match (s.half i).rxSpare with
    | some j => (s.setFld LN_STS.PLANE j (s.ownRx i j)).setFld LN_STS.PLANE 0xF sp
    | none => s
  let s := match k with
    | some j => (s.setFld LN_STS.PLANE 0xF (s.ownRx i j)).setFld LN_STS.PLANE j sp
    | none => s
  s.modHalf i (fun h => { h with rxSpare := k })

/-! Transmit equaliser (R257, R259, R260) -/

/-- Whether PRE and POST meet the limits (R257). -/
def eqLegal (pre post : Nat) : Bool := pre ≤ 12 && post ≤ 16 && pre + post ≤ 18

/-- The Lafoush presets (R259). -/
def lafoushPreset (k : Nat) : Nat × Nat :=
  match k with
  | 0 => (0, 0)
  | 1 => (0, 4)
  | 2 => (0, 8)
  | 3 => (2, 6)
  | 4 => (4, 8)
  | 5 => (4, 12)
  | 6 => (6, 10)
  | _ => (6, 12)

/-- A lane's transmitter set to PRE and POST. -/
def State.setTxEq (s : State) (n pre post : Nat) : State :=
  ((s.setFld LN_TXEQ.PRE pre n).setFld LN_TXEQ.POST post n).setFld LN_TXEQ.MAIN (48 - pre - post) n

/-- An equalisation request that lane r has received for the far end's partner of it: it waits for the next block boundary, and a
later one takes its place (R260, R261). -/
def State.eqRequest (s : State) (r op preset pre post : Nat) : State :=
  if op ≠ 1 ∧ op ≠ 2 then s
  else s.modLane r (fun q => { q with next := some (if op = 1 then lafoushPreset preset else (pre, post)) })

/-- A block boundary of transmitter n: the request that lane r has received is applied, or rejected where it breaks R257 (R261).
LN_TXEQ.OVR ignores it (R273). n and r differ only where a heat frees the two directions of a lane on different lanes. -/
def State.eqApply (s : State) (n r : Nat) : State :=
  match (s.lane r).next with
  | none => s
  | some x =>
    if s.flag LN_TXEQ.OVR n then s.modLane r (fun q => { q with next := none })
    else if eqLegal x.1 x.2 then (s.setTxEq n x.1 x.2).modLane r (fun q => { q with st := 1, next := none })
    else s.modLane r (fun q => { q with st := 2, next := none })

/-- The equalisation of transmitter n and receiver r begins: the starting preset, nothing evaluated yet (R261, R273, R274). -/
def State.eqBegin (s : State) (n r : Nat) : State :=
  let x := lafoushPreset (s.fld LN_EQ_CFG.LPRESET n)
  let s := if s.flag LN_TXEQ.OVR n then s else s.setTxEq n x.1 x.2
  s.modLane r (fun q => { q with tried := 0, best := none, asked := none, applied := false, done := false, farDone := 0, st := 0,
                                 next := none })

/-! Lanes switched on and off by their port (R271) -/

/-- A lane driven by its port at a rate. -/
def State.laneOn (s : State) (n rate : Nat) : State :=
  let s := ((s.setFld LN_STS.TXON 1 n).setFld LN_STS.RXON 1 n).setFld LN_STS.RATE_CUR rate n
  let s := (s.setFld LN_STS.INV (bit (s.fld LN_CTL.RX_POL n == 2)) n).setFld LN_STS.PLANE 0xF n
  (s.setFld LN_CDR.SSC_TRK (bit (rate < 6)) n).setLane n {}

/-- A lane's transmitter put into electrical idle. -/
def State.laneIdle (s : State) (n : Nat) : State := s.setFld LN_STS.TXON 0 n

/-- A margin scan in progress abandoned (R284). -/
def State.abandonScan (s : State) (n : Nat) : State :=
  if s.flag LN_SS_CTL.BUSY n then (s.setFld LN_SS_CTL.BUSY 0 n).setFld LN_SS_CTL.ABT 1 n else s

/-- A lane that no port drives: by LN_CTL (R271). Without its receiver it has no lock, and no scan goes on (R284). -/
def State.laneOff (s : State) (n : Nat) : State :=
  let tx := s.flag LN_CTL.TX_EN n
  let rx := s.flag LN_CTL.RX_EN n
  let s := (s.setFld LN_STS.TXON (bit tx) n).setFld LN_STS.RXON (bit rx) n
  let s := if rx then s else (s.setFld LN_STS.LOCK 0 n).abandonScan n
  let r := if tx || rx then s.fld LN_CTL.TRATE n else 0xF
  let s := (s.setFld LN_STS.RATE_CUR r n).setFld LN_STS.PLANE 0xF n
  (s.setFld LN_CDR.SSC_TRK (bit ((tx || rx) && r < 6)) n).setFld LN_STS.INV (bit (s.fld LN_CTL.RX_POL n == 2)) n

/-! The spare (R287, R296) -/

/-- The spare of a half's octet given a use (R296). -/
def State.spareUse (s : State) (i use lane : Nat) : State :=
  let o := i / 2
  ((s.setFld LFL_SP_STS.USE use o).setFld LFL_SP_STS.HALF (i % 2) o).setFld LFL_SP_STS.LANE lane o

/-- The spare mirrors a port lane, where it may serve the half and carries none (R287). -/
def State.mirror (s : State) (i lane : Nat) : State :=
  if s.spareUsable i ∧ s.fld LFL_SP_STS.USE (i / 2) < 2 then
    (s.spareUse i 1 lane).modHalf i (fun h => { h with mirrorOld := false })
  else s

/-- Whether a half has a spare for a heat (R295). -/
def State.hasSpare (s : State) (i : Nat) : Bool :=
  s.spareUsable i && (s.half i).retired.isNone && (s.half i).missing.isNone &&
    s.fld LFL_SP_STS.USE (i / 2) != 3 && s.fld LFL_SP_STS.USE (i / 2) != 4

/-- The other half of an octet. -/
def otherHalf (i : Nat) : Nat := i / 2 * 2 + (1 - i % 2)

/-- The lane for which a half's heat waits for the spare (R290, R293). -/
def State.spareWaits (s : State) (i : Nat) : Option Nat :=
  match (s.half i).heat with
  | some y => if y.initiator && y.step == .spare then some y.lane else none
  | none => none

/-- What the spare mirrors when no lane needs it for this half: the lane for which the other half's heat waits, or this half's, or
port lane 0 of this half, of half 0 where both halves share the spare (R287, R293). -/
def State.mirrorHome (s : State) (i : Nat) : State :=
  match s.spareWaits (otherHalf i), s.spareWaits i with
  | some l, _ => s.mirror (otherHalf i) l
  | none, some l => s.mirror i l
  | none, none => s.mirror (if s.fld LFL_SP_CTL.OWN (i / 2) = 0 ∧ s.halfStarted (otherHalf i) then i / 2 * 2 else i) 0

/-- Whether no lane of a half rides on the spare in the direction that it sends, nor a switch of it is under way (R289). -/
def Half.txFree (h : Half) : Bool := h.txSpare.isNone && h.txSwitch.isEmpty && !h.bypTx.any (fun m => match m with
  | .steer x => x.op == .out || x.op == .back
  | _ => false)

/-- The same in both directions. -/
def Half.offSpare (h : Half) : Bool := h.txFree && h.rxSpare.isNone && h.rxSwitch.isEmpty

/-- The spare mirrors again once a half whose heat has ended, or waits for the spare, has given it up in both directions (R287,
R289). -/
def State.settleSpare (s : State) (i : Nat) : State :=
  if s.fld LFL_SP_STS.USE (i / 2) = 2 ∧ s.fld LFL_SP_STS.HALF (i / 2) = i % 2 ∧ (s.half i).offSpare ∧
      (s.half i).heat.all (fun x => x.initiator && x.step == .spare) then
    (s.spareUse i 1 0).mirrorHome i
  else s

/-! The end of a heat (R292, R299) -/

/-- A heat ended with a result: EV_HEAT_DONE posted, and the spare mirrors again unless it still carries a lane. -/
def State.closeHeat (s : State) (i result : Nat) : State :=
  let init := (s.half i).heat.any (·.initiator)
  let s := (s.modHalf i (fun h => { h with heat := none })).settleSpare i
  let s := s.setFld LFL_HT_STS.STATE 0 i
  if init then
    let s := s.setFld LFL_HT_STS.RESULT result i
    let s := if result = 1 ∨ result = 2 then s.count LFL_HT_CNT.HEATS 1 i else s
    s.post 0x24 i result
  else s

/-- A heat ended. The other half's heat, where it waits, has the spare next, or ends with result 0x4 where none is left (R293,
R295). -/
def State.endHeat (s : State) (i result : Nat) : State :=
  let s := s.closeHeat i result
  let j := otherHalf i
  if (s.spareWaits j).isSome && !s.hasSpare j then s.closeHeat j 4 else s.mirrorHome i

end Sys2Proof.Machine
end

