-- ==== Sys2Proof/Machine/Wire.lean ====
section
/-! DEFINITION. The Lafoush wire: layouts of flits, descriptors, link control, bypass messages and lane training blocks, CRCs, the
scrambler, the Reed-Solomon code and the lanes (spec/07 R181, spec/08 R199 to R205, R216, spec/10 R260, spec/11 R288). A wide
value is a number; its most significant bit is the first one sent. -/

namespace Sys2Proof.Machine

/-- Bits hi to lo of a wide value. -/
def cut (v hi lo : Nat) : Nat := v / 2 ^ lo % 2 ^ (hi + 1 - lo)

/-- A field of a wide value: the low bits of n at hi to lo. -/
def wireField (n hi lo : Nat) : Nat := n % 2 ^ (hi + 1 - lo) * 2 ^ lo

/-- Whether bit k of a wide value is 1. -/
def bitAt (v k : Nat) : Bool := v / 2 ^ k % 2 == 1

/-! The fabric header (R181) -/

def FabHdr.bits (h : FabHdr) : Nat :=
  wireField h.dswid 127 118 + wireField h.sswid 117 108 + wireField h.hops 107 104 + wireField h.kind 103 100 + wireField h.sfeid 99 88 +
    wireField h.dfeid 87 76 + wireField h.hcrew 75 68 + wireField h.hskein 67 52 + wireField h.offset 51 18

def readFabHdr (v : Nat) : FabHdr :=
  { dswid := cut v 127 118, sswid := cut v 117 108, hops := cut v 107 104, kind := cut v 103 100, sfeid := cut v 99 88,
    dfeid := cut v 87 76, hcrew := cut v 75 68, hskein := cut v 67 52, offset := cut v 51 18 }

/-! Bypass messages (R205, R217, R288) -/

def InitMsg.bits (m : InitMsg) : Nat :=
  wireField m.swid 123 114 + wireField (bit m.swvld) 113 113 + wireField (bit m.ackd) 112 112 + wireField m.width 111 110 +
    wireField m.rate 109 109

def readInit (v : Nat) : InitMsg :=
  { swid := cut v 123 114, swvld := bitAt v 113, ackd := bitAt v 112, width := cut v 111 110, rate := cut v 109 109 }

/-- The code of a steering operation (R288). -/
def SteerOp.code : SteerOp → Nat
  | .out => 1
  | .back => 2
  | .meas _ _ => 3
  | .retire => 4
  | .refuse => 5
  | .reserved c => c

def SteerMsg.bits (m : SteerMsg) : Nat :=
  let hw := match m.op with
    | .meas h w => wireField h 103 96 + wireField w 95 89
    | _ => 0
  wireField m.tseq 123 112 + wireField m.op.code 111 108 + wireField m.lane 107 104 + hw

def readSteer (v : Nat) : SteerMsg :=
  let op : SteerOp := match cut v 111 108 with
    | 1 => .out
    | 2 => .back
    | 3 => .meas (cut v 103 96) (cut v 95 89)
    | 4 => .retire
    | 5 => .refuse
    | c => .reserved c
  { tseq := cut v 123 112, op := op, lane := cut v 107 104 }

def BypMsg.bits : BypMsg → Nat
  | .reserved t => wireField t 127 124
  | .fence d s h c => wireField 1 127 124 + wireField d 123 114 + wireField s 113 104 + wireField h 103 100 + wireField c 99 92
  | .fenceReq d s h c f =>
    wireField 2 127 124 + wireField d 123 114 + wireField s 113 104 + wireField h 103 100 + wireField c 99 92 + wireField f 91 80
  | .linkLoss o p q n => wireField 3 127 124 + wireField o 123 114 + wireField p 113 104 + wireField q 103 96 + wireField n 95 80
  | .steer m => wireField 4 127 124 + m.bits
  | .init m => wireField 5 127 124 + m.bits

def readByp (v : Nat) : BypMsg :=
  match cut v 127 124 with
  | 1 => .fence (cut v 123 114) (cut v 113 104) (cut v 103 100) (cut v 99 92)
  | 2 => .fenceReq (cut v 123 114) (cut v 113 104) (cut v 103 100) (cut v 99 92) (cut v 91 80)
  | 3 => .linkLoss (cut v 123 114) (cut v 113 104) (cut v 103 96) (cut v 95 80)
  | 4 => .steer (readSteer v)
  | 5 => .init (readInit v)
  | t => .reserved t

/-! Link control (R204) -/

def LinkCtl.bits (c : LinkCtl) : Nat :=
  wireField c.ackseq 63 52 + wireField (bit c.nak) 51 51 + wireField c.cva 50 48 + wireField c.cca 47 35 + wireField c.cvb 34 32 +
    wireField c.ccb 31 19 + wireField c.bcr 18 13

def readCtl (v : Nat) : LinkCtl :=
  { ackseq := cut v 63 52, nak := bitAt v 51, cva := cut v 50 48, cca := cut v 47 35, cvb := cut v 34 32, ccb := cut v 31 19,
    bcr := cut v 18 13 }

/-! Flits (R199 to R201) -/

/-- A slot descriptor (R201). -/
def FlitSlot.bits (x : FlitSlot) : Nat :=
  wireField 1 23 23 + wireField x.vc 22 20 + wireField (bit x.sop) 19 19 + wireField (bit x.eop) 18 18 + wireField x.nb 17 12

/-- The slot that a descriptor and the 64 bytes of its slot describe; none where it holds no packet bytes. -/
def readSlot (d data : Nat) : Option FlitSlot :=
  if bitAt d 23 then
    some { vc := cut d 22 20, sop := bitAt d 19, eop := bitAt d 18, nb := cut d 17 12, data := data, pkt := none }
  else none

/-- The header, its descriptors by slot number (R200): the slots of a flit fill slots 0 upward. -/
def Flit.header (f : Flit) : Nat :=
  wireField f.ftype 127 124 + wireField f.seq 123 112 + wireField f.rgen 111 110 + wireField (bit f.byp.isSome) 109 109 +
    ((List.range 4).map (fun k => ((f.slots[k]?.map FlitSlot.bits).getD 0) * 2 ^ (24 * k))).sum

/-- The place of slot k in a flit of 2,400 bits: bytes 16 + 64k onward (R199). -/
def slotLow (k : Nat) : Nat := 8 * (300 - 16 - 64 * k - 64)

/-- Bytes 0 to 295 of a flit (R199), as the high bits of 2,400. -/
def Flit.body (f : Flit) : Nat :=
  wireField f.header 2399 2272 + ((List.range 4).map (fun k =>
      wireField ((f.slots[k]?.map (·.data)).getD 0) (slotLow k + 511) (slotLow k))).sum +
    wireField ((f.byp.map BypMsg.bits).getD 0) 223 96 + wireField f.ctl.bits 95 32

/-- A CRC of w bits without reflection, over the low n bits of v, the most significant first: bit n - 1 to bit 0. -/
def crc (w poly v : Nat) : Nat → Nat → Nat
  | 0, c => c
  | n + 1, c =>
    let out := (c / 2 ^ (w - 1) + v / 2 ^ n) % 2
    crc w poly v n (Nat.xor (c * 2 % 2 ^ w) (if out = 1 then poly else 0))

/-- The CRC-32 of bytes 0 to 295 of a flit (R203). -/
def flitCrc (v : Nat) : Nat := Nat.xor (crc 32 0x04C11DB7 (v / 2 ^ 32) 2368 0xFFFFFFFF) 0xFFFFFFFF

/-- The 300 bytes of a flit (R199, R203). -/
def Flit.image (f : Flit) : Nat := f.body + flitCrc f.body

/-- Whether the CRC-32 of a flit's 300 bytes matches (R203). -/
def crcOk (v : Nat) : Bool := v % 2 ^ 32 == flitCrc v

/-- The flit that 300 bytes spell. The null flit holds no content (R200). -/
def readFlit (v : Nat) : Flit :=
  let h := cut v 2399 2272
  { ftype := cut h 127 124, seq := cut h 123 112, rgen := cut h 111 110,
    slots := (List.range 4).filterMap (fun k => readSlot (cut h (24 * k + 23) (24 * k)) (cut v (slotLow k + 511) (slotLow k))),
    byp := if bitAt h 109 then some (readByp (cut v 223 96)) else none, ctl := readCtl (cut v 95 32) }

/-! The scrambler and the symbols (R202) -/

/-- The 240 ten-bit symbols of 2,400 bits, the first bit the most significant bit of symbol 0. -/
def toSymbols (v : Nat) : List Nat := (List.range 240).map (fun j => cut v (2399 - 10 * j) (2390 - 10 * j))

/-- The 2,400 bits of 240 symbols. -/
def ofSymbols (xs : List Nat) : Nat := xs.foldl (fun v x => v * 1024 + x % 1024) 0

/-- What ten bits of the scrambled stream add to the ten after them that they reach: with the last 58 scrambled bits in st, the
latest in bit 0, the taps of x^58 + x^39 + 1 (R202). -/
def scrTap (st : Nat) : Nat := Nat.xor (st / 2 ^ 29 % 1024) (st / 2 ^ 48 % 1024)

/-- The last 58 scrambled bits after ten more. -/
def scrNext (st x : Nat) : Nat := (st * 1024 + x) % 2 ^ 58

/-- Symbols scrambled, with the state after them. -/
def scramble : Nat → List Nat → List Nat × Nat
  | st, [] => ([], st)
  | st, x :: xs =>
    let y := Nat.xor x (scrTap st)
    let r := scramble (scrNext st y) xs
    (y :: r.1, r.2)

/-- Symbols descrambled, with the state after them. -/
def descramble : Nat → List Nat → List Nat × Nat
  | st, [] => ([], st)
  | st, y :: ys =>
    let r := descramble (scrNext st y) ys
    (Nat.xor y (scrTap st) :: r.1, r.2)

/-! RS(256,240) over GF(2^10) with x^10 + x^3 + 1 (R202). Polynomials list their coefficients from the constant one. -/

/-- A field element times x. -/
def gfDouble (a : Nat) : Nat := if a < 512 then 2 * a else Nat.xor (2 * a - 1024) 9

/-- The product of a and the low n bits of b. -/
def gfMulBits (a b : Nat) : Nat → Nat
  | 0 => 0
  | n + 1 => Nat.xor (gfDouble (gfMulBits a (b / 2) n)) (if b % 2 = 1 then a else 0)

def gfMul (a b : Nat) : Nat := gfMulBits a b 10

/-- The power of an element, by the bits of the exponent. -/
def gfPowBits (a e : Nat) : Nat → Nat
  | 0 => 1
  | n + 1 =>
    let r := gfPowBits (gfMul a a) (e / 2) n
    if e % 2 = 1 then gfMul a r else r

def gfPow (a e : Nat) : Nat := gfPowBits a (e % 1023) 10

/-- The inverse of an element that is not 0. -/
def gfInv (a : Nat) : Nat := gfPow a 1022

/-- The power of α, which is x. -/
def alpha (e : Nat) : Nat := gfPow 2 e

/-- A sum of polynomials. -/
def gfAdd : List Nat → List Nat → List Nat
  | [], b => b
  | a, [] => a
  | x :: a, y :: b => Nat.xor x y :: gfAdd a b

/-- A polynomial times an element. -/
def gfScale (c : Nat) (a : List Nat) : List Nat := a.map (gfMul c)

/-- A product of polynomials. -/
def gfProd : List Nat → List Nat → List Nat
  | [], _ => []
  | x :: a, b => gfAdd (gfScale x b) (0 :: gfProd a b)

/-- A polynomial's value. -/
def gfEval (a : List Nat) (x : Nat) : Nat := a.foldr (fun c v => Nat.xor c (gfMul v x)) 0

/-- The generator g(x), the product of x − α^k for k from 0 to 15 (R202). -/
def rsGen : List Nat := (List.range 16).foldl (fun g k => gfProd g [alpha k, 1]) [1]

/-- The remainder of division by g(x), highest coefficient first, as the symbols of the message pass. gs is g(x) below its leading
coefficient, highest first. -/
def rsDivide (gs : List Nat) : List Nat → List Nat → List Nat
  | r, [] => r
  | r, d :: ds =>
    let fb := Nat.xor d (r.headD 0)
    rsDivide gs (List.zipWith (fun a g => Nat.xor a (gfMul fb g)) (r.tail ++ [0]) gs) ds

/-- The codeword of 240 symbols: the 16 parity symbols follow them. Symbol 0 is the highest coefficient: DEDUCED from 'systematic'
and 'first' (log entry 106). -/
def rsEncode (xs : List Nat) : List Nat := xs ++ rsDivide (rsGen.reverse.tail) (List.replicate 16 0) xs

/-- The syndromes of 256 symbols. -/
def syndromes (ys : List Nat) : List Nat := (List.range 16).map (fun k => gfEval ys.reverse (alpha k))

/-- The error locator that is being found: the locator and its length, the last locator before its length grew, the discrepancy
then, and the steps since. -/
structure Locator where
  c : List Nat := [1]
  l : Nat := 0
  b : List Nat := [1]
  d : Nat := 1
  m : Nat := 1
  deriving DecidableEq, Repr

/-- One step of the search for the shortest locator, at syndrome n. -/
def Locator.step (ss : List Nat) (q : Locator) (n : Nat) : Locator :=
  let d := ((List.range (q.l + 1)).map (fun i => gfMul (q.c.getD i 0) (if i ≤ n then ss.getD (n - i) 0 else 0))).foldl Nat.xor 0
  if d = 0 then { q with m := q.m + 1 }
  else
    let c := gfAdd q.c (List.replicate q.m 0 ++ gfScale (gfMul d (gfInv q.d)) q.b)
    if 2 * q.l ≤ n then { c := c, l := n + 1 - q.l, b := q.c, d := d, m := 1 } else { q with c := c, m := q.m + 1 }

/-- The error at position j of a codeword (its power of x is 255 − j), where the locator has a root there. -/
def errorAt (loc om : List Nat) (j : Nat) : Option (Nat × Nat) :=
  let x := alpha (255 - j)
  let y := gfInv x
  if gfEval loc y ≠ 0 then none
  else
    let slope := ((List.range loc.length).map (fun k => if k % 2 = 1 then gfMul (loc.getD k 0) (gfPow y (k - 1)) else 0)).foldl Nat.xor 0
    some (j, gfMul x (gfMul (gfEval om y) (gfInv slope)))

/-- The decoder (R202): the number of symbols corrected, at most 8, and the corrected codeword; none where more than 8 are in
error. -/
def rsDecode (ys : List Nat) : Option (Nat × List Nat) :=
  let ss := syndromes ys
  if ss.all (· == 0) then some (0, ys)
  else
    let q := (List.range 16).foldl (Locator.step ss) {}
    let om := (gfProd ss q.c).take 16
    let es := (List.range 256).filterMap (errorAt q.c om)
    let zs := es.foldl (fun zs e => zs.modify e.1 (fun z => Nat.xor z e.2)) ys
    if q.l ≤ 8 ∧ es.length = q.l ∧ (syndromes zs).all (· == 0) then some (q.l, zs) else none

/-! Lanes and levels (R202, R216) -/

/-- The symbols that logical lane k of a port of width w carries: j = k modulo w. -/
def laneSymbols (w k : Nat) (xs : List Nat) : List Nat := (List.range (256 / w)).map (fun n => xs.getD (w * n + k) 0)

/-- The codeword whose symbols the w lanes of a port carry. -/
def joinLanes (w : Nat) (ls : List (List Nat)) : List Nat := (List.range 256).map (fun j => (ls.getD (j % w) []).getD (j / w) 0)

/-- The PAM4 level of a bit pair, Gray-coded: 00, 01, 11, 10 are levels 0 to 3 (log entry 106). -/
def grayLevel (pair : Nat) : Nat := if pair = 2 then 3 else if pair = 3 then 2 else pair

/-- The five unit intervals of a symbol, the most significant bit pair first. -/
def symLevels (x : Nat) : List Nat := [8, 6, 4, 2, 0].map (fun k => grayLevel (x / 2 ^ k % 4))

/-- The symbols of a lane's levels. -/
def levelSyms : List Nat → List Nat
  | a :: b :: c :: d :: e :: ls => ([a, b, c, d, e].foldl (fun v l => v * 4 + grayLevel (l % 4)) 0) :: levelSyms ls
  | _ => []

/-- Levels mirrored. -/
def mirrorLevels (ls : List Nat) : List Nat := ls.map (fun l => 3 - l)

/-! Lane training blocks (R216, R260) -/

/-- The ALIGN pattern. -/
def alignPattern : Nat := 0x3C5A96E1D2

/-- The bits that change where every PAM4 level of a block is mirrored: the first of each Gray-coded pair. -/
def mirrorMask : Nat := 2 * ((2 ^ 320 - 1) / 3)

/-- The CRC16 of a block, over bits [319:16]. -/
def ltbCrc (v : Nat) : Nat := crc 16 0x1021 (v / 2 ^ 16) 304 0xFFFF

/-- The EQ field (R260). -/
def Ltb.eqBits (b : Ltb) : Nat :=
  wireField b.eqOp 31 28 + wireField b.preset 27 25 + wireField b.pre 24 21 + wireField b.post 20 16 + wireField b.st 15 14 +
    wireField b.apre 13 10 + wireField b.apost 9 5 + wireField (bit b.done) 4 4

/-- The 320 bits of a block that is sent. -/
def Ltb.bits (b : Ltb) : Nat :=
  let v := wireField alignPattern 319 280 + wireField b.tstate 279 276 + wireField b.lane 275 272 + wireField b.spreq 271 268 +
    wireField b.spack 267 264 + wireField b.eqBits 263 232
  v + ltbCrc v

/-- The block that 320 received bits spell. A receiver that finds ALIGN only with every level mirrored reads the rest mirrored too
(R216); ST 0b11 reads as 0b00 (R260). -/
def readLtb (raw : Nat) : Ltb :=
  let flip := Nat.xor raw mirrorMask
  let align : AlignObs := if cut raw 319 280 = alignPattern then .normal else if cut flip 319 280 = alignPattern then .mirrored else .none
  let v := if align = .mirrored then flip else raw
  { align := align, crcGood := cut v 15 0 == ltbCrc v, tstate := cut v 279 276, lane := cut v 275 272, spreq := cut v 271 268,
    spack := cut v 267 264, eqOp := cut v 263 260, preset := cut v 259 257, pre := cut v 256 253, post := cut v 252 248,
    st := if cut v 247 246 = 3 then 0 else cut v 247 246, apre := cut v 245 242, apost := cut v 241 237, done := bitAt v 236 }

end Sys2Proof.Machine
end

