-- ==== Sys2Proof/Machine/Lafoush.lean ====
section
/-! DEFINITION. The Lafoush link: flits received and sent, replay, credits, bring-up, link-down (spec/08). -/

namespace Sys2Proof.Machine

/-- The states of a Lafoush port (R227). -/
def lflDisabled : Nat := 0
def lflDetect : Nat := 1
def lflActive : Nat := 10
def lflDownHold : Nat := 11

def State.lfl (s : State) (i : Nat) : Nat := s.fld LFL_STS.STATE i
def State.setLfl (s : State) (i st : Nat) : State := s.setFld LFL_STS.STATE st i

/-! Link-down (R219 to R223) -/

/-- The lanes that bring-up uses: the port's, and the spare where it is free to the half, which no lane or mirror of the other
half holds (R217, R293). -/
def State.trainLanes (s : State) (i : Nat) : List Nat :=
  let free := s.spareUsable i && (s.fld LFL_SP_STS.USE (i / 2) == 0 || s.fld LFL_SP_STS.HALF (i / 2) == i % 2)
  s.portLanes (portOfHalf i) ++ (if free then [spareOf (i / 2)] else [])

/-- The transmitter of a half into electrical idle. -/
def State.idleHalf (s : State) (i : Nat) : State := s.each (s.trainLanes i) (fun s n => s.laneIdle n)

/-- The packets received that have not entered the core: in the receive buffer, partly received, or held at ingress (R220). -/
def State.unentered (s : State) (i : Nat) : Nat :=
  let h := s.half i
  h.rx.length + h.rxOpen.length + ((s.port (portOfHalf i)).held.filter (fun x => match x with
    | .fabric _ _ _ => true
    | .host _ _ => false)).length

/-- Buffers, credits and sequence state cleared; a retirement, the count of failures and the scrambler's state stay (R220, R294,
R218, R202). -/
def State.clearHalf (s : State) (i : Nat) : State :=
  let h := s.half i
  let s := s.count LFL_LDN_DISC.CNT (s.unentered i) i
  let s := s.setHalf i { retired := h.retired, fails := h.fails, txScr := h.txScr, rxScr := h.rxScr }
  s.modPort (portOfHalf i) (fun q => { q with linkTx := [], held := q.held.filter (fun x => match x with
    | .fabric _ _ _ => false
    | .host _ _ => true) })

/-- The spare after a half has gone down (R287, R294, R296): a retirement stays recorded; else it mirrors for the half, for
the other half, or has no use. -/
def State.releaseSpare (s : State) (i : Nat) (started : Bool) : State :=
  let other := otherHalf i
  if s.fld LFL_SP_STS.HALF (i / 2) ≠ i % 2 ∨ s.fld LFL_SP_STS.USE (i / 2) = 0 then s
  else match (s.half i).retired with
    | some r => s.spareUse i 3 r
    | none =>
      if started && s.spareUsable i then (s.spareUse i 1 0).mirrorHome i
      else if s.halfStarted other && s.spareUsable other then
        (s.spareUse other 1 0).mirror other ((s.spareWaits other).getD 0)
      else s.spareUse i 0 0

/-- Snoops still open through a fabric port expire at once (R113, R220). -/
def State.expireRemote (s : State) (p : Nat) : State :=
  let xs := (s.port p).snoops.filter (fun x => !x.expired)
  let s := s.each xs (fun s x => 
    (s.causeFence { cause := 3, unit := octetOf p, crews := .one x.crew, slice := some x.slice, feid := x.feid }).report
      (slotPort p))
  s.modPort p (fun q => { q with snoops := q.snoops.map (fun x => { x with expired := true, timed := false }) })

/-- The link of an Active half goes down with a cause (R220). -/
def State.lflDown (s : State) (i cause : Nat) : State :=
  if s.lfl i ≠ lflActive then s
  else
    let p := portOfHalf i
    let s := if (s.half i).heat.isSome then s.endHeat i 6 else s
    let s := (s.setLfl i lflDownHold).setFld LFL_STS.LDN_CAUSE cause i
    let s := s.setFld PRT_STS.STATE 5 p
    let s := ((s.idleHalf i).clearHalf i).releaseSpare i true
    let s := if cause = 1 then s else s.report (slotPort p)
    let s := s.ownLoss p
    let s := s.expireRemote p
    let s := s.modPort p (fun q => { q with out := q.out.filter (fun e => e.crew != noCrew) })
    if cause = 1 then s else s.post 0x21 p cause

/-- A training state fails, which is reported as causes 0x7 and 0x8 are (R217, R218, R473). fails counts the failures in a row at
112 Gbit/s. -/
def State.lflFail (s : State) (i cause : Nat) : State :=
  let p := portOfHalf i
  let fails := (s.half i).fails + 1
  let s := (s.setLfl i lflDownHold).setFld LFL_STS.LDN_CAUSE cause i
  let s := s.setFld PRT_STS.STATE 5 p
  let s := (((s.idleHalf i).clearHalf i).releaseSpare i true).report (slotPort p)
  if s.fld LFL_STS.RATE_NEG i = 1 then s
  else if 3 ≤ fails ∧ s.flag LFL_CTL.FB_EN i then
    ((s.setFld LFL_CTL.RATE_FB 1 i).setFld LFL_STS.RATE_NEG 1 i).modHalf i (fun h => { h with fails := 0 })
  else s.modHalf i (fun h => { h with fails := fails })

/-- LINK_DOWN (R220): the causes that are taken on one cycle; the lowest is recorded (R222). -/
def execLinkDown (port : Fin 256) (causes : List (Fin 10)) (s : State) : Host.Outcome State Fault Refusal :=
  let cs := (causes.map (·.val)).filter (· != 0)
  match cs with
  | [] => .next s
  | c :: rest => .next (s.lflDown (halfOf port.val) (rest.foldl min c))

/-! Bring-up (R216 to R218) -/

/-- Detect entered: every lane sends PRBS31 at the rate in use (R217). -/
def State.lflDetectEnter (s : State) (i : Nat) : State :=
  let s := s.each (s.trainLanes i) (fun s n => s.laneOn n (6 + s.fld LFL_STS.RATE_NEG i))
  (s.setLfl i lflDetect).setFld PRT_STS.STATE 2 (portOfHalf i)

/-- A fabric port's function starts (R217, R224, R227, R299). -/
def State.lflStart (s : State) (i : Nat) : State :=
  let s := (s.setFld LFL_CTL.RATE_FB 0 i).setFld LFL_STS.LDN_CAUSE 0 i
  let s := s.setFld LFL_STS.RATE_NEG (s.fld LFL_CTL.RATE i) i
  let s := s.setFld LFL_HT_STS.RESULT 0 i
  let h := s.half i
  let s := s.setHalf i { retired := h.retired, txScr := h.txScr, rxScr := h.rxScr }
  let s := if s.spareUsable i ∧ s.fld LFL_SP_STS.USE (i / 2) = 0 then s.spareUse i 1 0 else s
  s.lflDetectEnter i

/-- The lanes of a half that see a signal and satisfy a test. -/
def State.good (s : State) (i : Nat) (f : Nat → Bool) : Nat :=
  ((s.trainLanes i).filter (fun n => !s.flag LN_STS.LOS n && f n)).length

/-- The lane that this port asks the far transmitter to carry on its spare (R216, R294). -/
def Half.spReq (h : Half) : Nat :=
  match h.retired, h.missing with
  | some r, _ => r
  | none, some m => m
  | none, none => 0xF

/-- The far lanes named by the port's receivers. -/
def State.farNames (s : State) (i : Nat) : List Nat := (s.trainLanes i).filterMap (fun n => (s.lane n).name)

/-- The Lane order guard: each far lane named at most once, at most one missing, skew at most 32 ns (R217). -/
def State.orderOk (s : State) (i : Nat) : Bool :=
  let w := s.portWidth (portOfHalf i)
  let ns := (s.farNames i).filter (fun k => k < w)
  (List.range w).all (fun k => (ns.filter (· == k)).length ≤ 1) &&
    w ≤ ((List.range w).filter (fun k => ns.contains k)).length + 1 &&
    (s.trainLanes i).all (fun n => (s.lane n).name.isNone || (s.lane n).skewOk)

/-- The receive lane map set on leaving Lane order: LN_STS.PLANE, and the missing lane (R217, R268). Where that changes SPREQ, the
blocks seen so far echoed another one. -/
def State.setOrder (s : State) (i : Nat) : State :=
  let w := s.portWidth (portOfHalf i)
  let ns := s.farNames i
  let old := (s.half i).spReq
  let s := s.each (s.trainLanes i) (fun s n => s.setFld LN_STS.PLANE ((s.lane n).name.getD 0xF) n)
  let s := s.modHalf i (fun h => { h with missing := (List.range w).find? (fun k => !ns.contains k) })
  if (s.half i).spReq = old then s else s.each (s.trainLanes i) (fun s n => s.modLane n (fun q => { q with spOk := 0 }))

/-- The Spare map guard (R217, R294): the spare must be free where either end asks for it. Where the two ends ask for different
lanes the spare cannot carry both, and the guard fails: for two retirements as R294 gives, for other lanes a DESIGN CHOICE (log
entry 107). -/
def State.spareMapOk (s : State) (i : Nat) : Bool :=
  let h := s.half i
  let need := h.spReq != 0xF || h.farReq != 0xF
  let free := s.spareUsable i &&
    (s.fld LFL_SP_STS.USE (i / 2) < 2 || s.fld LFL_SP_STS.HALF (i / 2) == i % 2)
  (s.trainLanes i).any (fun n => decide (3 ≤ (s.lane n).spOk)) && (!need || free) &&
    (h.spReq == 0xF || h.farReq == 0xF || h.spReq == h.farReq) && (h.retired.isNone || h.missing.isNone ||
      h.retired == h.missing)

/-- The spare map set: the lanes that ride on the spare in each direction (R217, R294). -/
def State.setSpareMap (s : State) (i : Nat) : State :=
  let h := s.half i
  let lane := fun (k : Nat) => if k = 0xF then none else some k
  let s := (s.setHalf i { h with txSpare := lane h.farReq, rxSpare := none }).selectSpare i (lane h.spReq)
  if h.spReq = 0xF ∧ h.farReq = 0xF then s
  else s.spareUse i (if h.retired.isSome then 3 else 4) (if h.spReq = 0xF then h.farReq else h.spReq)

/-- Every lane's equalisation begun (R261, R274). -/
def State.startEq (s : State) (i : Nat) : State := s.each (s.trainLanes i) (fun s n => s.eqBegin n n)

/-- The TX EQ guard: every lane in use equalised in both directions (R261). -/
def State.equalised (s : State) (i : Nat) : Bool :=
  (s.trafficLanes i).all (fun n => (s.lane n).done && decide (3 ≤ (s.lane n).farDone))

/-- The bring-up states that lane events leave by their guards (R217). -/
def State.advance (s : State) (i : Nat) : State :=
  let w := s.portWidth (portOfHalf i)
  match s.lfl i with
  | 1 => if w ≤ s.good i (fun _ => true) then s.setLfl i 2 else s
  | 2 => if w ≤ s.good i (fun n => s.flag LN_STS.LOCK n) then s.setLfl i 3 else s
  | 3 =>
    if w ≤ s.good i (fun n => s.flag LN_STS.LOCK n && decide (3 ≤ (s.lane n).good)) then s.setLfl i 4 else s
  | 4 => if w ≤ s.good i (fun n => s.flag LN_STS.LOCK n && decide (3 ≤ (s.lane n).pol)) then s.setLfl i 5 else s
  | 5 => if s.orderOk i then (s.setOrder i).setLfl i 6 else s
  | 6 => if s.spareMapOk i then ((s.setSpareMap i).startEq i).setLfl i 7 else s
  | 7 => if s.equalised i then s.setLfl i 8 else s
  | _ => s

/-- Whether a lane equalises (R261): its fabric port is in TX EQ, or a heat has reached that step on it (R290). -/
def State.eqState (s : State) (i n : Nat) : Bool :=
  s.lfl i == 7 || (s.lfl i == lflActive && (s.half i).heat.any (fun x => x.step == .eq && s.ownRx i x.lane == n))

/-- What a lane keeps of a block received in bring-up, or on a lane freed by a heat (R216, R217, R261, R267). Requests, and the
far end's report of this end's request, count while the lane equalises. -/
def State.takeBlock (s : State) (i n : Nat) (b : Ltb) (skewOk : Bool) : State :=
  let st := s.lfl i
  let seen := b.crcGood && b.align != .none
  let flip := seen && b.align == .mirrored && s.fld LN_CTL.RX_POL n == 0 && !s.flag LN_STS.INV n && (st == 4 || st == lflActive)
  let s := if flip then s.setFld LN_STS.INV 1 n else s
  let true' := seen && b.align == .normal
  let eq := true' && s.eqState i n
  let s := s.modLane n (fun q => { q with
    good := if seen then q.good + 1 else 0
    mirrored := b.align == .mirrored
    pol := if true' then (if st = 4 ∨ st = lflActive then q.pol + 1 else q.pol) else 0
    name := if true' ∧ b.lane ≤ 7 then some b.lane else if true' then none else q.name
    skewOk := if true' then skewOk else q.skewOk
    spOk := if true' && b.spack == (s.half i).spReq then q.spOk + 1 else 0
    farDone := if eq && b.done then q.farDone + 1 else 0
    applied := q.applied || (eq && b.st == 1 && q.asked == some (b.apre, b.apost)) })
  let s := if true' ∧ st ≤ 7 then s.modHalf i (fun h => { h with farReq := if b.spreq ≤ 7 then b.spreq else 0xF }) else s
  if eq then s.eqRequest n b.eqOp b.preset b.pre b.post else s

/-- LTB_RECEIVED (R216): the 320 bits of a block as a lane of a fabric port receives them, whose levels the lane mirrors where it
corrects polarity (R267); skewOk says that the skew of the port's lanes is at most 32 ns. In Active it is a link-down cause, but
on a freed lane (R219, R290). -/
def execLtbReceived (lane : Fin 576) (block : BitVec 320) (skewOk : Bool) (s : State) : Host.Outcome State Fault Refusal :=
  let n := lane.val
  match s.laneHalf n with
  | none => .next s
  | some i =>
    let st := s.lfl i
    let b := readLtb (if s.flag LN_STS.INV n then Nat.xor block.toNat mirrorMask else block.toNat)
    if 3 ≤ st ∧ st ≤ 7 then .next ((s.takeBlock i n b skewOk).advance i)
    else if st = lflActive then
      if (s.trafficLanes i).contains n then .next (s.lflDown i 2) else .next (s.takeBlock i n b skewOk)
    else .next s

/-- What the far Init message must carry (R217). -/
def State.initOk (s : State) (i : Nat) (m : InitMsg) : Bool :=
  m.swvld && m.swid != s.swid && m.width == s.fld PRT_CTL.WIDTH (portOfHalf i) - 1 &&
    m.rate == s.fld LFL_STS.RATE_NEG i

/-- Active entered: credits granted, sequence state at 0, PEER recorded, the mirror begun (R217, R287). -/
def State.lflUp (s : State) (i : Nat) (m : InitMsg) (grants : List Nat) : State :=
  let p := portOfHalf i
  let h := s.half i
  let h : Half := { retired := h.retired, missing := h.missing, txSpare := h.txSpare, rxSpare := h.rxSpare, farReq := h.farReq,
                    far := some m, txScr := h.txScr, rxScr := h.rxScr, offered := h.offered,
                    granted := ((List.range 5).zip grants).filter (fun e => e.2 != 0) }
  let s := (s.setHalf i h).setLfl i lflActive
  let s := ((s.setFld LFL_STS.PEER m.swid i).setFld LFL_STS.PEER_VLD 1 i).setFld PRT_STS.STATE 4 p
  (s.mirrorHome i).post 0x20 p 0

/-- A far Init message in Credit init (R217). The link becomes Active once the far end has received this end's Init too. -/
def State.takeInit (s : State) (i : Nat) (m : InitMsg) (grants : List Nat) : State :=
  if !s.initOk i m then s.lflFail i 8
  else if m.ackd then s.lflUp i m grants
  else s.modHalf i (fun h => { h with far := some m })

/-- INIT_RECEIVED (R217): grants are the credits that the far end grants to Q, S, P, D and M. -/
def execInitReceived (port : Fin 256) (m : InitMsg) (grants : List (Fin 4096)) (s : State) :
    Host.Outcome State Fault Refusal :=
  let i := halfOf port.val
  if s.lfl i = 9 then .next (s.takeInit i m (grants.map (·.val)))
  else .next s

/-- TRAINING_TIMEOUT (R218). tie says that the state's guard is met on the tick on which its limit expires (R212). -/
def execTrainingTimeout (port : Fin 256) (tie : Bool) (s : State) : Host.Outcome State Fault Refusal :=
  let i := halfOf port.val
  let st := s.lfl i
  if st < 2 ∨ 9 < st then .next s
  else if tie then .next (s.nearMiss (octetOf port.val))
  else .next ((s.count LFL_TRN_FAIL.CNT 1 i).lflFail i 7)

/-- LFL_DOWN_HOLD_EXPIRY (R217). -/
def execLflDownHoldExpiry (port : Fin 256) (s : State) : Host.Outcome State Fault Refusal :=
  let i := halfOf port.val
  if s.lfl i = lflDownHold ∧ (s.fn (fidPort port.val)).run = .running then .next (s.lflDetectEnter i) else .next s

/-! Received flits (R203 to R211, R214) -/

/-- A flit that is bad (R209). -/
def State.badFlit (s : State) (i : Nat) : State :=
  if s.lfl i = 8 then s.modHalf i (fun h => { h with nulls := 0 })
  else s.modHalf i (fun h => if h.nakPending then h
    else { h with nakPending := true, nakDue := true, gen := h.lastGen })

/-- The oldest unacknowledged number (R210). -/
def Half.oldest (h : Half) : Nat := (h.kept.head?.map (·.seq)).getD h.next

/-- Whether an ACKSEQ is valid (R210). -/
def Half.ackValid (h : Half) (a : Nat) : Bool := (a + 4096 + 1 - h.oldest) % 4096 ≤ h.kept.length

/-- Whether number a is at or beyond number b, modulo 4,096. -/
def atOrBeyond (a b : Nat) : Bool := (a + 4096 - b) % 4096 < 2048

/-- The old paths of steering switches released, in their order, once their TSEQ is acknowledged (R289). -/
def Half.release (h : Half) (a : Nat) : Half :=
  let gone := h.txSwitch.takeWhile (fun m => atOrBeyond a m.tseq)
  match gone.getLast? with
  | some m => { h with txSwitch := h.txSwitch.drop gone.length, txSpare := if m.op = .out then some m.lane else none }
  | none => h

/-- An ACKSEQ and a NAK taken (R210, R211). -/
def Half.ack (h : Half) (c : LinkCtl) : Half :=
  if !h.ackValid c.ackseq then h
  else
    let n := (c.ackseq + 4096 + 1 - h.oldest) % 4096
    let after := (c.ackseq + 1) % 4096
    let h := { h with
      kept := h.kept.drop n
      replays := if n ≠ 0 ∧ atOrBeyond c.ackseq h.replayFrom then 0 else h.replays
      resend := h.resend.bind (fun r => if atOrBeyond c.ackseq r then (if after = h.next then none else some after) else some r)
      replayAt := h.replayAt.bind (fun r => if atOrBeyond c.ackseq r then (if after = h.next then none else some after) else some r) }
    let h := if n = 0 then h else h.release c.ackseq
    if c.nak ∧ after ≠ h.next then { h with replayAt := some after } else h

/-- Credits available, and those outstanding, for a channel (R214). -/
def Half.outstanding (h : Half) (v : Nat) : Nat :=
  let m := if v = 5 then 64 else 8192
  (tabGet (fun _ => 0) h.cons v + m - tabGet (fun _ => 0) h.ret v) % m

def Half.available (h : Half) (v : Nat) : Nat :=
  (if v = 5 then 32 else tabGet (fun _ => 0) h.granted v) - h.outstanding v

/-- A cumulative return for a channel; none where it returns more than is outstanding (R214). -/
def Half.credit (h : Half) (v c : Nat) : Option Half :=
  let m := if v = 5 then 64 else 8192
  if h.outstanding v < (c + m - tabGet (fun _ => 0) h.ret v) % m then none
  else some { h with ret := tabSet id (fun _ => 0) h.ret v c }

/-- The link control of a good flit; none is a breach (R204, R214). -/
def Half.control (h : Half) (c : LinkCtl) : Option Half :=
  let h := h.ack c
  (if c.cva < 5 then h.credit c.cva c.cca else some h).bind (fun h =>
    (if c.cvb < 5 then h.credit c.cvb c.ccb else some h).bind (fun h => h.credit 5 c.bcr))

/-- One slot taken into its channel's packet; none is a breach (R201). Where the slot ends the packet, its channel, its fabric
header and its length. -/
def Half.slot (h : Half) (x : FlitSlot) : Option (Half × Option (Nat × FabHdr × Nat)) :=
  let part := tabGet (fun _ => none) h.rxOpen x.vc
  let n := (part.map (·.slots)).getD 0
  if 5 ≤ x.vc ∨ (x.sop ∧ part.isSome) ∨ (!x.sop ∧ part.isNone) ∨ 16 ≤ n ∨ (!x.eop ∧ x.nb ≠ 63) ∨ (x.sop ∧ x.eop ∧ x.nb < 16) then none
  else
    let hdr := (part.map (·.hdr)).getD (readFabHdr (x.data / 2 ^ 384))
    let open' := fun (k : Option RxPart) => { h with rxOpen := tabSet id (fun _ => none) h.rxOpen x.vc k }
    if x.eop then some (open' none, some (x.vc, hdr, 64 * n + x.nb + 1)) else some (open' (some ⟨n + 1, hdr⟩), none)

/-- The slots of an accepted flit, in order, with the packets that they end; none is a breach. -/
def Half.takeSlots (h : Half) : List FlitSlot → Option (Half × List (Nat × FabHdr × Nat))
  | [] => some (h, [])
  | x :: xs => (h.slot x).bind (fun r => (r.1.takeSlots xs).map (fun t => (t.1, r.2.toList ++ t.2)))

/-- The packets that a flit ends, with what each is: the protocol content is no layout of the spec, so it comes beside the bytes
(log entry 91). A packet without it is one of management. -/
def rxPackets (ms : List Msg) (ps : List (Nat × FabHdr × Nat)) : List (Nat × Msg) :=
  ps.zipIdx.map (fun e => (e.1.1, { ms.getD e.2 { body := .mgmt } with fab := some e.1.2.1, len := e.1.2.2 }))

/-- A whole packet in the receive buffer: one of a reserved KIND is discarded and counted, a fence request for this switch
goes to the fault collector (R181, R183), every other waits to enter the core. -/
def State.packet (s : State) (i : Nat) (x : Nat × Msg) : State :=
  let p := portOfHalf i
  let s := if 80 ≤ x.2.len then s.portEvent p 0x04 64 else s
  let gone := fun (s : State) => s.modHalf i (fun h => h.giveBack x.1 x.2.slotCount)
  match x.2.fab with
  | none => gone (s.count CORE_FAB_DISC.CNT)
  | some f =>
    if 4 ≤ f.kind then gone (s.count CORE_FAB_DISC.CNT)
    else if f.kind = 2 ∧ f.dswid = s.swid then
      gone (s.alert ⟨0xE6, octetOf p, 0, .fenceReq f.dswid f.sswid f.hops f.hcrew f.sfeid⟩)
    else s.modHalf i (fun h => { h with rx := h.rx ++ [x] })

/-- A bypass message discarded: its buffer is free again (R205, R206). -/
def State.dropBypass (s : State) (i : Nat) : State := (s.count LFL_BYP_DISC.CNT 1 i).modHalf i (fun h => h.giveBack 5 1)

/-- The bypass message of an accepted flit; E has advanced (R205, R288, R289). -/
def State.bypass (s : State) (i : Nat) (m : BypMsg) : State :=
  let keep := s.modHalf i (fun h => { h with bypRx := h.bypRx ++ [m] })
  match m with
  | .reserved _ => s.dropBypass i
  | .init _ => s.dropBypass i
  | .steer x =>
    let ahead := (x.tseq + 4096 - (s.half i).exp) % 4096
    match x.op with
    | .reserved _ => s.dropBypass i
    | .out => if s.portWidth (portOfHalf i) ≤ x.lane ∨ ahead = 0 ∨ 2048 ≤ ahead then s.lflDown i 9 else keep
    | .back => if s.portWidth (portOfHalf i) ≤ x.lane ∨ ahead = 0 ∨ 2048 ≤ ahead then s.lflDown i 9 else keep
    | _ => if s.portWidth (portOfHalf i) ≤ x.lane then s.lflDown i 9 else keep
  | _ => keep

/-- STEERING_SWITCH (R289): the receiver's selection changes when E becomes TSEQ. -/
def State.steerSwitch (s : State) (i : Nat) : State :=
  let h := s.half i
  match h.rxSwitch with
  | m :: ms =>
    if h.exp = m.tseq then
      ((s.setHalf i { h with rxSwitch := ms }).selectSpare i (if m.op = .out then some m.lane else none)).settleSpare i
    else s
  | [] => s

/-- The slots and the bypass message of the flit numbered E (R209). -/
def State.accept' (s : State) (i : Nat) (f : Flit) (ms : List Msg) : State :=
  match (s.half i).takeSlots f.slots with
  | none => s.lflDown i 9
  | some (h, ps) =>
    let s := s.setHalf i { h with exp := (h.exp + 1) % 4096, nakPending := false }
    let s := (s.each (rxPackets ms ps) (fun s x => s.packet i x)).steerSwitch i
    match f.byp with
    | some m => s.bypass i m
    | none => s

/-- A sequenced flit by its number (R209). -/
def State.sequenced (s : State) (i : Nat) (f : Flit) (ms : List Msg) : State :=
  let h := s.half i
  let d := (f.seq + 4096 - h.exp) % 4096
  if d = 0 then s.accept' i f ms
  else if d < 2048 then
    if !h.nakPending || f.rgen != h.gen then s.setHalf i { h with nakPending := true, nakDue := true, gen := f.rgen } else s
  else s

/-- Credit init entered: this end's grants are offered to the far end (R214, R217). -/
def State.creditInit (s : State) (i : Nat) : State :=
  let gs := (List.range 5).map (fun v => s.fld LFL_CRD_INIT.CRED i v)
  ((s.setLfl i 9).modHalf i (fun h => { h with offered := ((List.range 5).zip gs).filter (fun e => e.2 != 0) })).emit
    (.grants (portOfHalf i) gs)

/-- A good flit (R204, R209, R217, R219), with what the packets that it ends are. -/
def State.goodFlit (s : State) (i : Nat) (f : Flit) (ms : List Msg) : State :=
  let s := s.modHalf i (fun h => { h with lastGen := f.rgen })
  match s.lfl i with
  | 8 =>
    let n := if f.ftype = 1 then (s.half i).nulls + 1 else 0
    let s := s.modHalf i (fun h => { h with nulls := n })
    if 64 ≤ n then s.creditInit i else s
  | 10 =>
    if f.ftype = 2 then s.lflDown i 2
    else match (s.half i).control f.ctl with
      | none => s.lflDown i 9
      | some h =>
        let s := (s.setHalf i h).settleSpare i
        if f.ftype = 0 then s.sequenced i f ms else s
  | _ => s

/-- The codeword that a port receives: the levels of the far lanes, mirrored where their receiver corrects polarity (R202, R267). -/
def State.codeword (s : State) (i : Nat) (lanes : List (List Nat)) : List Nat :=
  let w := s.portWidth (portOfHalf i)
  joinLanes w ((List.range w).map (fun k =>
    let ls := lanes.getD k []
    levelSyms (if s.flag LN_STS.INV (s.rxLane i k) then mirrorLevels ls else ls)))

/-- What a receiver finds of a codeword, with its descrambler's state after it (R202, R203): the number of symbols corrected and
the 300 bytes; none where it is uncorrectable. -/
def Half.decode (h : Half) (ys : List Nat) : Option (Nat × Nat) × Nat :=
  match rsDecode ys with
  | some (k, zs) =>
    let r := descramble h.rxScr (zs.take 240)
    (some (k, ofSymbols r.1), r.2)
  | none => (none, (descramble h.rxScr (ys.take 240)).2)

/-- A decoded codeword: k symbols corrected, the 300 bytes v (R203). A reserved FTYPE fails as the CRC does (R200). -/
def State.takeFlit (s : State) (i k v : Nat) (ms : List Msg) : State :=
  let f := readFlit v
  let s := s.modHalf i (fun h => { h with uncRun := 0 })
  let s := if k = 0 then s else s.countWrap LFL_CORR_CNT.CNT 1 i
  let s := s.count LFL_CORR_HIST.CNT 1 i k
  if !crcOk v ∨ 3 ≤ f.ftype then (s.count LFL_CRC_CNT.CNT 1 i).badFlit i else s.goodFlit i f ms

/-- An uncorrectable codeword, the sixteenth in a row a link-down cause (R202, R219). -/
def State.lostFlit (s : State) (i : Nat) : State :=
  let n := (s.half i).uncRun + 1
  let s := (s.count LFL_UNC_CNT.CNT 1 i).modHalf i (fun h => { h with uncRun := n })
  if 16 ≤ n ∧ s.lfl i = lflActive then s.lflDown i 6 else s.badFlit i

/-- FLIT_RECEIVED (R202, R209): the PAM4 levels of one codeword on each far lane, logical lane 0 first, and what the packets that
end in it are. -/
def execFlitReceived (port : Fin 256) (lanes : List (List (Fin 4))) (packets : List Msg) (s : State) :
    Host.Outcome State Fault Refusal :=
  let i := halfOf port.val
  if s.lfl i < 8 ∨ 10 < s.lfl i then .next s
  else
    let r := (s.half i).decode (s.codeword i (lanes.map (fun l => l.map (·.val))))
    let s := (s.countWrap LFL_CW_CNT.CNT 1 i).modHalf i (fun h => { h with rxScr := r.2 })
    match r.1 with
    | some (k, v) => .next (s.takeFlit i k v packets)
    | none => .next (s.lostFlit i)

/-! Sent flits (R190, R204, R206, R208, R211, R213) -/

/-- The channel of a core message (R190). -/
def Msg.channel (m : Msg) : Nat :=
  match m.cls with
  | 0 => 4
  | 1 => 1
  | 2 => 3
  | 3 => match m.body with
    | .data _ => 3
    | _ => 2
  | _ => 0

/-- The 64 bytes of slot k of a packet (R181, R201): the fabric header, then protocol content, whose bytes the spec does not lay
out: a free value, by draw. -/
def Msg.slotBytes (m : Msg) (k draw : Nat) : Nat :=
  let c := (Config.slotBytes draw).toNat
  if k = 0 then ((m.fab.map FabHdr.bits).getD 0) * 2 ^ 384 + c % 2 ^ 384 else c

/-- The next slot: from the highest channel that has a packet slot ready and a credit (R213), with the packet where the slot
ends it. -/
def nextSlot (h : Half) (tx : List Msg) (draw : Nat) : Option (Half × List Msg × FlitSlot) :=
  [4, 1, 3, 2, 0].findSome? (fun v =>
    if h.available v = 0 then none
    else match takeFirst (fun (m : Msg) => m.channel == v) tx with
      | none => none
      | some (m, rest) =>
        let k := tabGet (fun _ => 0) h.txSent v
        let last := k + 1 == m.slotCount
        let h := { h with cons := tabSet id (fun _ => 0) h.cons v ((tabGet (fun _ => 0) h.cons v + 1) % 8192)
                          txSent := tabSet id (fun _ => 0) h.txSent v (if last then 0 else k + 1) }
        some (h, if last then rest else tx,
          { vc := v, sop := k == 0, eop := last, nb := if last then (m.len + 63) % 64 else 63, data := m.slotBytes k draw,
            pkt := if last then some m else none }))

/-- Up to n slots of a new flit, their bytes drawn from draw on. -/
def fillSlots : Nat → Half → List Msg → Nat → Half × List Msg × List FlitSlot
  | 0, h, tx, _ => (h, tx, [])
  | n + 1, h, tx, draw =>
    match nextSlot h tx draw with
    | none => (h, tx, [])
    | some (h, tx, x) =>
      let r := fillSlots n h tx (draw + 1)
      (r.1, r.2.1, x :: r.2.2)

/-- Fresh link control (R204, R209). -/
def Half.fresh (h : Half) : LinkCtl × Half :=
  let a := h.field % 5
  let b := (h.field + 1) % 5
  ({ ackseq := (h.exp + 4095) % 4096, nak := h.nakDue, cva := a, cca := tabGet (fun _ => 0) h.given a, cvb := b,
     ccb := tabGet (fun _ => 0) h.given b, bcr := tabGet (fun _ => 0) h.given 5 },
   { h with nakDue := false, field := (h.field + 2) % 5 })

/-- A replay begins at the number asked for, or takes the link down at its limit (R211). -/
def State.startReplay (s : State) (i : Nat) : State :=
  let h := s.half i
  match h.replayAt with
  | none => s
  | some n =>
    if s.fld LFL_CTL.RPL_MAX i ≤ h.replays then s.lflDown i 4
    else
      let s := s.setHalf i { h with replayAt := none, resend := some n, rgen := (h.rgen + 1) % 4, replays := h.replays + 1,
                                    replayFrom := if h.replays = 0 then n else h.replayFrom }
      (s.count LFL_RPL_CNT.CNT 1 i).portEvent (portOfHalf i) 0x0B

/-- REPLAY_START (R211). -/
def execReplayStart (port : Fin 256) (s : State) : Host.Outcome State Fault Refusal :=
  let i := halfOf port.val
  if s.lfl i = lflActive then .next (s.startReplay i) else .next s

/-- The lanes that carry a half's codewords, each with its logical lane: its own but the one whose old path has been released, and
the spare while it mirrors or carries one (R287, R289). -/
def State.txLanes (s : State) (i : Nat) : List (Nat × Nat) :=
  let h := s.half i
  let back := fun (k : Nat) => h.txSwitch.any (fun m => m.op == .back && m.lane == k)
  let own := ((List.range (s.portWidth (portOfHalf i))).filter (fun k => h.txSpare != some k || back k)).map (fun k =>
    (s.macroOf (2 * portOfHalf i + k), k))
  if s.fld LFL_SP_STS.USE (i / 2) ≠ 0 ∧ s.fld LFL_SP_STS.HALF (i / 2) = i % 2 ∧ s.spareUsable i then
    own ++ [(spareOf (i / 2), h.txSpare.getD (s.fld LFL_SP_STS.LANE (i / 2)))]
  else own

/-- Levels as a lane sends them: inverted under LN_CTL.TX_INV (R267, R271). -/
def State.sentLevels (s : State) (n : Nat) (ls : List Nat) : List Nat := if s.flag LN_CTL.TX_INV n then mirrorLevels ls else ls

/-- A flit sent: scrambled, encoded and spread over the lanes (R199, R202). -/
def State.sendFlit (s : State) (i : Nat) (f : Flit) : State :=
  let r := scramble (s.half i).txScr (toSymbols f.image)
  let w := s.portWidth (portOfHalf i)
  let cw := rsEncode r.1
  let s := s.modHalf i (fun h => { h with txScr := r.2 })
  s.emit (.flit (portOfHalf i) f ((s.txLanes i).map (fun e => (e.1, s.sentLevels e.1 ((laneSymbols w e.2 cw).flatMap symLevels)))))

/-- The block that transmitter n sends for receiver r (R216, R260): k is its logical lane, 0xF on the spare. A receiver asks for
settings by PRE and POST. -/
def State.ltbOf (s : State) (i n r k : Nat) : Ltb :=
  let q := s.lane r
  let ask := if s.eqState i r then q.asked else none
  { tstate := s.lfl i, lane := k, spreq := (s.half i).spReq, spack := (s.half i).farReq,
    eqOp := if ask.isSome then 2 else 0, preset := 0, pre := (ask.map (·.1)).getD 0, post := (ask.map (·.2)).getD 0,
    st := q.st, apre := s.fld LN_TXEQ.PRE n, apost := s.fld LN_TXEQ.POST n, done := q.done }

/-- One block sent, after the setting that waits for its boundary has been applied (R216, R261). -/
def State.sendLtb (s : State) (i n r k : Nat) : State :=
  let s := s.eqApply n r
  s.emit (.ltb n (BitVec.ofNat 320 (s.ltbOf i n r k).bits) (s.flag LN_CTL.TX_INV n))

/-- One block on every lane in training (R216, R217, R268). -/
def State.sendBlocks (s : State) (i : Nat) : State :=
  s.each (s.trainLanes i) (fun s n => s.sendLtb i n n ((s.laneIndex (portOfHalf i) n).getD 0xF))

/-- One block on the lane that a heat has freed (R290). -/
def State.sendFreed (s : State) (i : Nat) : State :=
  match (s.half i).heat with
  | some x =>
    if x.step = .train ∨ x.step = .eq ∨ x.step = .settle then
      s.sendLtb i (s.macroOf (2 * portOfHalf i + x.lane)) (s.ownRx i x.lane) x.lane
    else s
  | none => s

/-- A null or init flit sent (R200, R217). -/
def State.sendIdle (s : State) (i ftype : Nat) : State :=
  let (c, h) := (s.half i).fresh
  let m : InitMsg := { swid := s.swid, swvld := s.flag CORE_FAB_ID.VLD, ackd := h.far.isSome,
                       width := s.fld PRT_CTL.WIDTH (portOfHalf i) - 1, rate := s.fld LFL_STS.RATE_NEG i }
  (s.setHalf i h).sendFlit i
    { ftype := ftype, seq := 0, rgen := h.rgen, slots := [], byp := if ftype = 2 then some (.init m) else none, ctl := c }

/-- The timers of the snoops that a flit carries start (R112). -/
def State.startSnoops (s : State) (p : Nat) (xs : List FlitSlot) : State :=
  s.each (xs.filterMap (·.pkt)) (fun s m =>
    if m.body.snp.isSome then
      s.modPort p (fun q => { q with snoops := mapWhere (fun x => x.feid == m.feid && x.mport == m.mport &&
        x.addr / 64 == m.addr / 64 && x.fab == m.fab && !x.expired) (fun x => { x with timed := true }) q.snoops })
    else s)

/-- The bypass message of the next flit, with its TSEQ where it is a steering switch of this end (R206, R289). -/
def Half.takeBypass (h : Half) (lead : Nat) : Half × Option BypMsg :=
  match h.bypTx with
  | [] => (h, none)
  | m :: rest =>
    if h.available 5 = 0 then (h, none)
    else
      let h := { h with bypTx := rest, cons := tabSet id (fun _ => 0) h.cons 5 ((tabGet (fun _ => 0) h.cons 5 + 1) % 64) }
      match m with
      | .steer x =>
        if x.op = .out ∨ x.op = .back then
          let x := { x with tseq := (h.next + lead) % 4096 }
          ({ h with txSwitch := h.txSwitch ++ [x] }, some (.steer x))
        else (h, some m)
      | m => (h, some m)

/-- A new flit (R206, R208, R213). -/
def State.newFlit (s : State) (i : Nat) : State :=
  let p := portOfHalf i
  if 1024 ≤ (s.half i).kept.length then s.sendIdle i 1
  else
    let (h, byp) := (s.half i).takeBypass (s.fld LFL_HT_CTL.LEAD i)
    let (h, tx, xs) := fillSlots 4 h (s.port p).linkTx s.free
    if xs.isEmpty ∧ byp.isNone then s.sendIdle i 1
    else
      let (c, h) := h.fresh
      let f : Flit := { ftype := 0, seq := h.next, rgen := h.rgen, slots := xs, byp := byp, ctl := c }
      let s := s.setHalf i { h with next := (h.next + 1) % 4096, kept := h.kept ++ [f] }
      let s := { s.modPort p (fun q => { q with linkTx := tx }) with free := s.free + xs.length }
      let n := (xs.filter (fun x => x.pkt.any (fun m => 80 ≤ m.len))).length
      let s := if n = 0 then s else s.portEvent p 0x05 (64 * n)
      (s.sendFlit i f).startSnoops p xs

/-- The next flit of a replay: its number, header, slots and bypass slot as first sent (R211). -/
def State.resendFlit (s : State) (i n : Nat) : State :=
  let after := (n + 1) % 4096
  match (s.half i).kept.find? (fun f => f.seq == n) with
  | some f =>
    let (c, h) := (s.half i).fresh
    (s.setHalf i { h with resend := if after = h.next then none else some after }).sendFlit i { f with rgen := h.rgen, ctl := c }
  | none => (s.modHalf i (fun h => { h with resend := none })).newFlit i

/-- FLIT_TRANSMIT (R208): one flit time of the transmitter. A replay that is due begins at this flit boundary. While lane training
blocks are sent, one block on every lane (log entry 108), and in a heat one on the lane freed. -/
def execFlitTransmit (port : Fin 256) (s : State) : Host.Outcome State Fault Refusal :=
  let i := halfOf port.val
  match s.lfl i with
  | 3 | 4 | 5 | 6 | 7 => .next (s.sendBlocks i)
  | 8 => .next (s.sendIdle i 1)
  | 9 => .next (s.sendIdle i 2)
  | 10 =>
    let s := s.startReplay i
    if s.lfl i ≠ lflActive then .next s
    else match (s.half i).resend with
      | some n => .next ((s.sendFreed i).resendFlit i n)
      | none => .next ((s.sendFreed i).newFlit i)
  | _ => .next s

/-- REPLAY_TIMEOUT (R211). tie says that an advance of ACKSEQ is visible on the cycle on which the timer expires (R212). -/
def execReplayTimeout (port : Fin 256) (tie : Bool) (s : State) : Host.Outcome State Fault Refusal :=
  let i := halfOf port.val
  let h := s.half i
  if s.lfl i ≠ lflActive ∨ h.kept.isEmpty then .next s
  else if tie then .next (s.nearMiss (octetOf port.val))
  else .next (s.setHalf i { h with replayAt := some h.oldest })

/-- CREDIT_TIMEOUT (R215), by channel, 5 for B. -/
def execCreditTimeout (port : Fin 256) (vc : Fin 6) (tie : Bool) (s : State) : Host.Outcome State Fault Refusal :=
  let i := halfOf port.val
  if s.lfl i ≠ lflActive ∨ (s.half i).outstanding vc.val = 0 then .next s
  else if tie then .next (s.nearMiss (octetOf port.val))
  else .next (s.lflDown i 5)

/-! STOPF of a fabric port (R223) -/

/-- Whether the drain of a fabric port has ended. -/
def State.lflDrained (s : State) (i : Nat) : Bool :=
  s.lfl i != lflActive || ((s.half i).kept.isEmpty && (s.half i).bypTx.isEmpty && (s.port (portOfHalf i)).linkTx.isEmpty)

/-- The port becomes Disabled (R217, R223): its lanes go by LN_CTL, but the spare where it now serves the other half. -/
def State.lflDisable (s : State) (i : Nat) : State :=
  let p := portOfHalf i
  let s := ((((s.lflDown i 1).clearHalf i).setLfl i lflDisabled).setFld PRT_STS.STATE 1 p).releaseSpare i false
  s.each (s.trainLanes i) (fun s n => s.laneOff n)

/-- A stop of a port that begins: a fabric port whose link is not Active is Disabled at once (R223). -/
def State.stopLink (s : State) (p : Nat) : State :=
  if s.fld PRT_CTL.ROLE p = 4 ∧ s.lfl (halfOf p) ≠ lflActive then s.lflDisable (halfOf p) else s

end Sys2Proof.Machine
end

