-- ==== Sys2Proof/Machine/Lanes.lean ====
section
/-! DEFINITION. SerDes lanes: detectors, equalisation, test patterns, the lane registers (spec/10), margin scans (spec/11 R281 to
R284). -/

namespace Sys2Proof.Machine

/-- Whether a lane instance works: not repaired out (R253). -/
def State.laneLive (s : State) (n : Nat) : Bool := s.fld LN_STS.MAP n != 3

/-! Margin scans (R281 to R284) -/

/-- A write of LN_SS_CTL (R282). DONE is 0 while a scan runs. -/
def writeSsCtl (s : State) (n : Nat) (v : Word) : State :=
  let s := if bitOf v 28 then s.setFld LN_SS_CTL.DONE 0 n else s
  let s := s.setFld LN_SS_CTL.DWELL (bitsOf v 2 0) n
  if bitOf v 31 && !s.flag LN_SS_CTL.BUSY n && s.flag LN_STS.RXON n && s.flag LN_STS.LOCK n then
    ((s.setFld LN_SS_CTL.BUSY 1 n).setFld LN_SS_CTL.DONE 0 n).setFld LN_SS_CTL.ABT 0 n
  else s

/-- Whether a lane runs with PAM4 levels (R255). -/
def State.pam4 (s : State) (n : Nat) : Bool := 5 ≤ s.fld LN_STS.RATE_CUR n

/-- MARGIN_SCAN_DONE (R281): the heights in mV and the widths in 1/64 UI of the eyes. -/
def execMarginScanDone (lane : Fin 576) (h0 h1 h2 : BitVec 8) (w0 w1 w2 : Fin 65) (s : State) :
    Host.Outcome State Fault Refusal :=
  let n := lane.val
  if !s.flag LN_SS_CTL.BUSY n then .next s
  else
    let eye := fun (s : State) (k h w : Nat) => s.wr ⟨.LN_SS_EYE, n, k⟩ (wordOf (2 ^ 8 * h + w))
    let s := eye s 1 h1.toNat w1.val
    let s := if s.pam4 n then eye (eye s 0 h0.toNat w0.val) 2 h2.toNat w2.val else eye (eye s 0 0 0) 2 0 0
    .next ((s.setFld LN_SS_CTL.BUSY 0 n).setFld LN_SS_CTL.DONE 1 n)

/-- LANE_MARGINING_COMMAND (R230, R284): on a CXL or PCIe lane whose link is up, served on the shadow sampler, with its scan
abandoned. write is a write of LN_SS_CTL that reaches the lane on the same port island cycle: its GO is ignored. -/
def execLaneMarginingCommand (lane : Fin 576) (write : Option (BitVec 32)) (s : State) : Host.Outcome State Fault Refusal :=
  let n := lane.val
  match s.laneOwner n with
  | some p =>
    if s.fld PRT_CTL.ROLE p = 4 ∨ !s.flag PRT_STS.LUP p then .next s
    else
      let s := match write with
        | some v => writeSsCtl s n (wordOf (v.toNat % 2 ^ 31))
        | none => s
      .next ((s.abandonScan n).emit (.margining n))
  | none => .next s

/-! Detectors (R263 to R266) -/

/-- The port's side of a lane that has lost its signal or its lock (R266). -/
def State.laneLost (s : State) (n : Nat) : State :=
  let s := s.abandonScan n
  match s.laneHalf n with
  | none => s
  | some i =>
    if s.lfl i = lflActive then
      if (s.trafficLanes i).contains n then s.lflDown i 3
      else
        let freed := fun (x : Heat) => s.ownRx i x.lane == n &&
          (x.step == .train || x.step == .eq || x.step == .settle || x.step == .scan)
        s.modHalf i (fun h => { h with heat := h.heat.map (fun x => if freed x then { x with own := some (0, 0) } else x) })
    else s.modLane n (fun q => { q with good := 0, pol := 0, spOk := 0, farDone := 0, name := none })

/-- LOS_ASSERT (R264). -/
def execLosAssert (lane : Fin 576) (s : State) : Host.Outcome State Fault Refusal :=
  let n := lane.val
  if !s.laneLive n ∨ s.flag LN_STS.LOS n then .next s
  else
    let s := ((s.setFld LN_STS.LOS 1 n).setFld LN_DET.LOS_STK 1 n).count LN_LOS_CNT.CNT 1 n
    .next (s.laneLost n)

/-- The bring-up of a lane's half goes on where its guards now hold. -/
def State.laneBack (s : State) (n : Nat) : State :=
  match s.laneHalf n with
  | some i => s.advance i
  | none => s

/-- LOS_RELEASE (R264). While the receiver is off the detector does not release: DESIGN CHOICE (log entry 110). -/
def execLosRelease (lane : Fin 576) (s : State) : Host.Outcome State Fault Refusal :=
  let n := lane.val
  if !s.laneLive n ∨ !s.flag LN_STS.RXON n then .next s else .next ((s.setFld LN_STS.LOS 0 n).laneBack n)

/-- LOL_ASSERT (R263): none while loss of signal is asserted. -/
def execLolAssert (lane : Fin 576) (s : State) : Host.Outcome State Fault Refusal :=
  let n := lane.val
  if !s.laneLive n ∨ s.flag LN_STS.LOS n ∨ !s.flag LN_STS.LOCK n then .next s
  else
    let s := ((s.setFld LN_STS.LOCK 0 n).setFld LN_DET.LOL_STK 1 n).count LN_LOL_CNT.CNT 1 n
    .next (s.laneLost n)

/-! Equalisation (R258, R261) -/

/-- Whether a lane belongs to a CXL or PCIe port. -/
def State.cxlLane (s : State) (n : Nat) : Bool := (s.laneOwner n).any (fun p => s.fld PRT_CTL.ROLE p != 4)

/-- A setting requested of the far transmitter: on a CXL or PCIe lane in the coefficient handshake, which leaves it applied
(R258); on a Lafoush lane in the next training blocks, whose answer tells when it is applied (R261). -/
def State.askFar (s : State) (n : Nat) (x : Nat × Nat) : State :=
  let cxl := s.cxlLane n
  let s := s.modLane n (fun q => { q with asked := some x, applied := cxl })
  if cxl then s.emit (.eqRequest n x.1 x.2) else s

/-- The receiver of a lane ends: it requests the best candidate so far, and is done. -/
def State.eqFinish (s : State) (n : Nat) : State :=
  let s := match (s.lane n).best with
    | some b => s.askFar n (b.pre, b.post)
    | none => s
  s.modLane n (fun q => { q with done := true })

/-- Whether a lane equalises now: its fabric port is in TX EQ or a heat has come to that step on it, or its CXL or PCIe port
trains. -/
def State.equalises (s : State) (n : Nat) : Bool :=
  match s.laneOwner n with
  | some p => if s.fld PRT_CTL.ROLE p = 4 then s.eqState (halfOf p) n else s.fld PRT_STS.STATE p == 2
  | none => false

/-- Whether a lane's receiver is evaluating. -/
def State.evaluating (s : State) (n : Nat) : Bool := s.equalises n && !(s.lane n).done

/-- EQ_CANDIDATE_EVAL (R258, R261): the eye area found with the setting now in use at the far transmitter, and the setting asked
next, which meets R257. The first one only asks. On a CXL or PCIe lane that is done it begins the next phase. A candidate counts
once the far end has reported it as applied. -/
def execEqCandidateEval (lane : Fin 576) (area : Nat) (pre : Fin 13) (post : Fin 17) (s : State) :
    Host.Outcome State Fault Refusal :=
  let n := lane.val
  if !s.equalises n ∨ ((s.lane n).done ∧ !s.cxlLane n) ∨ !eqLegal pre.val post.val then .next s
  else
    let q := if (s.lane n).done then { s.lane n with tried := 0, best := none, asked := none, done := false } else s.lane n
    match q.asked with
    | none => .next ((s.setLane n q).askFar n (pre.val, post.val))
    | some x =>
      if !q.applied then .next s
      else
        let better := q.best.all (fun b => decide (b.area < area))
        let q := { q with tried := q.tried + 1, best := if better then some ⟨area, x.1, x.2⟩ else q.best }
        let s := s.setLane n q
        .next (if s.fld LN_EQ_CFG.MAXREQ n ≤ q.tried then (s.eqFinish n).laneBack n else s.askFar n (pre.val, post.val))

/-- TX_EQ_TIME_LIMIT (R261). -/
def execTxEqTimeLimit (lane : Fin 576) (s : State) : Host.Outcome State Fault Refusal :=
  if s.evaluating lane.val ∧ !s.cxlLane lane.val then .next ((s.eqFinish lane.val).laneBack lane.val) else .next s

/-- EQ_PHASE_LIMIT (R258). -/
def execEqPhaseLimit (lane : Fin 576) (s : State) : Host.Outcome State Fault Refusal :=
  if s.evaluating lane.val ∧ s.cxlLane lane.val then .next (s.eqFinish lane.val) else .next s

/-! Patterns and loops (R269, R270) -/

/-- Bits compared and wrong bits counted (R270, R279). The spec says of the 32-bit counters only that they saturate; these 64-bit
ones wrap: DESIGN CHOICE (log entry 111). -/
def State.patAdd (s : State) (n bits errors : Nat) : State :=
  (s.countWrap LN_PAT_BITS.CNT bits n).countWrap LN_PAT_ERR.CNT errors n

/-- What a locked checker has counted since it was last asked, a free value: how many bits have passed is time, of which the model
has no measure, and how many of them were wrong is the channel's (R270). -/
def State.patCount (s : State) (n : Nat) : State :=
  if s.flag LN_LB.CHK_LOCK n then
    let (k, s) := s.draw
    s.patAdd n (Config.compared n k).1 (min (Config.compared n k).1 (Config.compared n k).2)
  else s

/-- CHECKER_LOCK (R270), outside started ports (R269). PRBS13Q at an NRZ rate is no pattern. -/
def execCheckerLock (lane : Fin 576) (s : State) : Host.Outcome State Fault Refusal :=
  let n := lane.val
  if (s.laneOwner n).isSome ∨ s.fld LN_LB.CHK n = 0 ∨ (s.fld LN_LB.CHK n = 6 ∧ !s.pam4 n) ∨ !s.flag LN_STS.RXON n then .next s
  else .next (s.setFld LN_LB.CHK_LOCK 1 n)

/-- CHECKER_LOCK_LOSS (R270): with the bits compared and the wrong bits counted since they were last counted. -/
def execCheckerLockLoss (lane : Fin 576) (bits errors : Nat) (s : State) : Host.Outcome State Fault Refusal :=
  let n := lane.val
  if s.flag LN_LB.CHK_LOCK n then .next ((s.patAdd n bits errors).setFld LN_LB.CHK_LOCK 0 n) else .next s

/-- FAR_END_RECENTER (R269), outside started ports. -/
def execFarEndRecenter (lane : Fin 576) (s : State) : Host.Outcome State Fault Refusal :=
  if s.fld LN_LB.MODE lane.val = 3 ∧ (s.laneOwner lane.val).isNone then .next (s.count LN_LB_SLIP.CNT 1 lane.val) else .next s

/-! Writes of the lane registers (R254, R269, R271, R273 to R280) -/

/-- A write of LN_CTL: ignored while the lane belongs to a started port; RX_POL 0b11 leaves RX_POL. -/
def writeLnCtl (s : State) (n : Nat) (v : Word) : State :=
  if (s.laneOwner n).isSome then s
  else
    let pol := if bitsOf v 28 27 = 3 then s.fld LN_CTL.RX_POL n else bitsOf v 28 27
    (s.wr ⟨.LN_CTL, n, 0⟩ (putBits (v &&& 0xFF000000) 28 27 pol)).laneOff n

/-- A write of LN_TXEQ (R273). One that breaks R257 is ignored whole. With OVR set its PRE and POST are in use; without it the
transmitter keeps its setting. -/
def writeLnTxeq (s : State) (n : Nat) (v : Word) : State :=
  if (s.laneOwner n).isSome ∨ !eqLegal (bitsOf v 3 0) (bitsOf v 12 8) then s
  else if bitOf v 31 then (s.setFld LN_TXEQ.OVR 1 n).setTxEq n (bitsOf v 3 0) (bitsOf v 12 8)
  else s.setFld LN_TXEQ.OVR 0 n

/-- A write of LN_EQ_CFG: EVAL and MAXREQ of 0 leave their field. -/
def writeLnEqCfg (s : State) (n : Nat) (v : Word) : State :=
  if (s.laneOwner n).isSome then s
  else
    let s := s.setFld LN_EQ_CFG.LPRESET (bitsOf v 26 24) n
    let s := if bitsOf v 23 16 = 0 then s else s.setFld LN_EQ_CFG.EVAL (bitsOf v 23 16) n
    if bitsOf v 11 8 = 0 then s else s.setFld LN_EQ_CFG.MAXREQ (bitsOf v 11 8) n

/-- A write of LN_RXEQ (R262, R275). The override values are in use while OVR is set, and are stored with it. FRZ holds the loops
at their present values: what adaptation has reached is a free value, and is kept from then on. -/
def writeLnRxeq (s : State) (n : Nat) (v : Word) : State :=
  let was := s.rd ⟨.LN_RXEQ, n, 0⟩
  let (k, s) := s.draw
  let runs := s.flag LN_STS.RXON n
  let s := if bitOf v 30 && !bitOf was 30 && runs then
      (s.wr ⟨.LN_DFE0, n, 0⟩ (Config.adapted n 1 k &&& 0x7F3F3F3F)).wr ⟨.LN_DFE1, n, 0⟩ (Config.adapted n 2 k &&& 0x3F3F3F3F)
    else s
  let gains : Word := if bitOf v 31 then v
    else if bitOf was 31 || bitOf was 30 || !runs then was
    else Config.adapted n 0 k
  s.wr ⟨.LN_RXEQ, n, 0⟩ ((v &&& 0xC0000000) ||| (gains &&& 0x1F0F00))

/-- A write of LN_DET: a threshold outside 16 to 128 leaves LOS_TH. -/
def writeLnDet (s : State) (n : Nat) (v : Word) : State :=
  let s := if bitOf v 31 then s.setFld LN_DET.LOS_STK 0 n else s
  let s := if bitOf v 30 then s.setFld LN_DET.LOL_STK 0 n else s
  if 16 ≤ bitsOf v 7 0 ∧ bitsOf v 7 0 ≤ 128 then s.setFld LN_DET.LOS_TH (bitsOf v 7 0) n else s

/-- A write of LN_LB: reserved codes leave their field; a changed checker pattern seeds the checker anew. -/
def writeLnLb (s : State) (n : Nat) (v : Word) : State :=
  if (s.laneOwner n).isSome then s
  else
    let s := if bitsOf v 31 29 ≤ 3 then s.setFld LN_LB.MODE (bitsOf v 31 29) n else s
    let s := if bitsOf v 23 20 ≤ 8 then s.setFld LN_LB.GEN (bitsOf v 23 20) n else s
    if bitsOf v 19 16 ≤ 8 ∧ bitsOf v 19 16 ≠ s.fld LN_LB.CHK n then
      ((s.patCount n).setFld LN_LB.CHK (bitsOf v 19 16) n).setFld LN_LB.CHK_LOCK 0 n
    else s

/-- A write of LN_CDR. -/
def writeLnCdr (s : State) (n : Nat) (v : Word) : State :=
  if (s.laneOwner n).isSome then s else s.setFld LN_CDR.BW (bitsOf v 1 0) n

/-! Writes of the link registers (R224 to R226) -/

/-- A write of LFL_CTL: ignored while the port is started; RPL_MAX and RPL_TMO of 0 leave their field. -/
def writeLflCtl (s : State) (i : Nat) (v : Word) : State :=
  if s.halfStarted i then s
  else
    let s := (s.setFld LFL_CTL.FB_EN (bit (bitOf v 31)) i).setFld LFL_CTL.RATE (bit (bitOf v 30)) i
    let s := if bitsOf v 23 16 = 0 then s else s.setFld LFL_CTL.RPL_MAX (bitsOf v 23 16) i
    if bitsOf v 15 8 = 0 then s else s.setFld LFL_CTL.RPL_TMO (bitsOf v 15 8) i

/-- A write of LFL_CRD_TMO: reserved codes are ignored. -/
def writeLflCrdTmo (s : State) (i : Nat) (v : Word) : State :=
  if bitsOf v 3 0 ≤ 7 then s.setFld LFL_CRD_TMO.TMO (bitsOf v 3 0) i else s

/-- A write of LFL_CRD_INIT: ignored while the port is started. A value of 4,096 to 8,191, for which the spec gives no behaviour,
is stored as any other, and STARTF takes it where the sum fits: DESIGN CHOICE (log entry 112). -/
def writeLflCrdInit (s : State) (i k : Nat) (v : Word) : State :=
  if s.halfStarted i then s else s.setFld LFL_CRD_INIT.CRED (bitsOf v 12 0) i k

end Sys2Proof.Machine
end

