-- ==== Sys2Proof/Machine/Calib.lean ====
section
/-! DEFINITION. Heats, steering, the mirror and retirements (spec/11 R286 to R300). -/

namespace Sys2Proof.Machine

/-- A bypass message queued for sending (R206). -/
def State.queueBypass (s : State) (i : Nat) (m : BypMsg) : State := s.modHalf i (fun h => { h with bypTx := h.bypTx ++ [m] })

/-- A steering message queued. -/
def State.steer (s : State) (i lane : Nat) (op : SteerOp) : State := s.queueBypass i (.steer ⟨0, op, lane⟩)

/-- A heat's record changed. -/
def State.modHeat (s : State) (i : Nat) (f : Heat → Heat) : State := s.modHalf i (fun h => { h with heat := h.heat.map f })

/-- Whether a half's port is in a training state (R292, R293). -/
def State.halfTrains (s : State) (i : Nat) : Bool := s.halfStarted i && 1 ≤ s.lfl i && s.lfl i ≤ 9

/-- Whether the spare's receiver is locked. -/
def State.spareLocked (s : State) (i : Nat) : Bool := s.flag LN_STS.LOCK (spareOf (i / 2))

/-- The first step of a lane's visit: OUT is sent (R287, R290, R293). The initiator waits until the spare has mirrored the lane
for 100 µs, its own spare receiver is locked and the other half does not train; the responder until its spare has mirrored the
lane for 100 µs. -/
def State.tryOut (s : State) (i : Nat) : State :=
  match (s.half i).heat with
  | none => s
  | some x =>
    let mine := s.fld LFL_SP_STS.HALF (i / 2) == i % 2 && s.fld LFL_SP_STS.LANE (i / 2) == x.lane
    if x.step == .spare && (s.half i).mirrorOld && mine &&
        (if x.initiator then s.spareLocked i && s.fld LFL_SP_STS.USE (i / 2) == 1 && !s.halfTrains (otherHalf i)
         else s.fld LFL_SP_STS.USE (i / 2) == 2 && (s.half i).txFree) then
      ((s.spareUse i 2 x.lane).modHeat i (fun x => { x with step := .out })).steer i x.lane .out
    else s

/-- Whether a half's spare mirrors for it, or for a lane that it answers as responder. -/
def State.mirrors (s : State) (i : Nat) : Bool :=
  s.fld LFL_SP_STS.HALF (i / 2) == i % 2 && (s.fld LFL_SP_STS.USE (i / 2) == 1 ||
    (s.fld LFL_SP_STS.USE (i / 2) == 2 && (s.half i).txFree && (s.half i).heat.any (fun x => !x.initiator && x.step == .spare)))

/-- MIRROR_READY (R287). -/
def execMirrorReady (port : Fin 256) (s : State) : Host.Outcome State Fault Refusal :=
  let i := halfOf port.val
  if s.mirrors i then .next ((s.modHalf i (fun h => { h with mirrorOld := true })).tryOut i) else .next s

/-- LOCK_ASSERT (R263): two windows in a row within range. A heat that waits for its spare's receiver goes on. -/
def execLockAssert (lane : Fin 576) (s : State) : Host.Outcome State Fault Refusal :=
  let n := lane.val
  if !s.laneLive n ∨ s.flag LN_STS.LOS n ∨ !s.flag LN_STS.RXON n then .next s
  else
    let s := (s.setFld LN_STS.LOCK 1 n).laneBack n
    let o := octetOfLane n
    .next (if n = spareOf o then (s.tryOut (2 * o)).tryOut (2 * o + 1) else s)

/-- The port lanes of a mask within a half's width, ascending (R290, R297). -/
def State.heatLanes (s : State) (i mask : Nat) : List Nat :=
  (List.range (s.portWidth (portOfHalf i))).filter (fun k => mask / 2 ^ k % 2 == 1)

/-- The spare given to the half whose heat's next step may have it: the other half's where that waits (R293). -/
def State.mirrorNext (s : State) (i lane : Nat) : State :=
  match (s.half (otherHalf i)).heat with
  | some y => if y.initiator && y.step == .spare then s.mirror (otherHalf i) y.lane else s.mirror i lane
  | none => s.mirror i lane

/-- A heat begun (R290, R295, R297). -/
def State.startHeat (s : State) (i : Nat) : State :=
  let s := s.setFld LFL_HT_STS.WARNM 0 i
  let begin' := fun (s : State) (l : Nat) (ls : List Nat) =>
    s.modHalf i (fun h => { h with heat := some { initiator := true, todo := ls, lane := l, step := .spare,
                                                   thr := s.rd ⟨.LFL_HT_THR, i, 0⟩ } })
  if !s.hasSpare i then (begin' s 0 []).endHeat i 4
  else match s.heatLanes i (s.fld LFL_HT_CTL.LMASK i) with
    | [] => (begin' s 0 []).endHeat i 1
    | l :: ls =>
      let s := begin' s l ls
      let s := (s.setFld LFL_HT_STS.STATE 1 i).setFld LFL_HT_STS.LANE l i
      if s.fld LFL_SP_STS.USE (i / 2) = 1 ∧ s.fld LFL_SP_STS.HALF (i / 2) = i % 2 ∧ s.fld LFL_SP_STS.LANE (i / 2) = l then
        s.tryOut i
      else match (s.half (otherHalf i)).heat with
        | some _ => s
        | none => s.mirror i l

/-- An abort of the heat (R292). -/
def State.abortHeat (s : State) (i : Nat) : State := s.modHeat i (fun x => { x with abort := true })

/-- A write of LFL_HT_CTL (R297): LEAD outside 16 to 1,023 leaves LEAD; GO is ignored while a heat runs or the link is not
Active. -/
def writeHtCtl (s : State) (i : Nat) (v : Word) : State :=
  let s := if 16 ≤ bitsOf v 25 16 then s.setFld LFL_HT_CTL.LEAD (bitsOf v 25 16) i else s
  let s := s.setFld LFL_HT_CTL.LMASK (bitsOf v 15 8) i
  let s := if bitOf v 31 && (s.half i).heat.isNone && s.lfl i == lflActive then s.startHeat i else s
  if bitOf v 30 then s.abortHeat i else s

/-- HEAT_SPARE_LOCK_TIMEOUT (R299). A spare that locks on the tick of the expiry is in time, and a near miss (R15): tie says
so of one that is locked. -/
def execHeatSpareLockTimeout (port : Fin 256) (tie : Bool) (s : State) : Host.Outcome State Fault Refusal :=
  let i := halfOf port.val
  match (s.half i).heat with
  | some x =>
    if x.initiator && x.step == .spare then
      if !s.spareLocked i then .next (s.endHeat i 7)
      else if tie then .next (s.nearMiss (octetOf port.val))
      else .next s
    else .next s
  | none => .next s

/-- The next lane's visit, or the end of the heat (R290, R292, R293). -/
def State.nextVisit (s : State) (i : Nat) (x : Heat) : State :=
  if !x.initiator then s.endHeat i 0
  else if x.abort then s.endHeat i 5
  else match x.todo with
    | [] => s.endHeat i 1
    | l :: ls =>
      let s := s.modHeat i (fun x => { x with todo := ls, lane := l, step := .spare, own := none, far := none, answered := false })
      let s := (s.setFld LFL_HT_STS.STATE 1 i).setFld LFL_HT_STS.LANE l i
      (s.spareUse i 1 0).mirrorNext i l

/-- A lane kept on the spare in both directions, its transmitter idle (R291). -/
def State.retireLane (s : State) (i lane : Nat) : State :=
  let s := s.modHalf i (fun h => { h with retired := some lane, txSpare := some lane })
  let s := if (s.half i).rxSpare = some lane then s else s.selectSpare i (some lane)
  let s := (s.spareUse i 3 lane).count LFL_HT_CNT.RETIRED 1 i
  s.laneIdle (s.macroOf (2 * portOfHalf i + lane))

/-- The margins of a visit recorded (R300). -/
def State.recordMargins (s : State) (i lane : Nat) (near far : Nat × Nat) : State :=
  s.wr ⟨.LFL_HT_MARG, i, lane⟩ (wordOf (2 ^ 24 * near.1 + 2 ^ 16 * near.2 + 2 ^ 8 * far.1 + far.2))

/-- The initiator judges a lane once it has both ends' margins (R291). -/
def State.judge (s : State) (i : Nat) : State :=
  match (s.half i).heat with
  | none => s
  | some x => match x.own, x.far with
    | some a, some b =>
      if !x.initiator ∨ x.step ≠ .judge then s
      else
        let s := s.recordMargins i x.lane a b
        let hmin := bitsOf x.thr 15 8
        let wmin := bitsOf x.thr 7 0
        if a.1 < hmin ∨ b.1 < hmin ∨ a.2 < wmin ∨ b.2 < wmin then
          (((s.setFld LFL_HT_STS.STATE 5 i).steer i x.lane .retire).retireLane i x.lane).endHeat i 2
        else
          let hw := bitsOf x.thr 31 24
          let ww := bitsOf x.thr 23 16
          let s := if a.1 < hw ∨ b.1 < hw ∨ a.2 < ww ∨ b.2 < ww then
            s.setFld LFL_HT_STS.WARNM (s.fld LFL_HT_STS.WARNM i ||| 2 ^ x.lane) i else s
          ((s.setFld LFL_HT_STS.STATE 4 i).modHeat i (fun x => { x with step := .back })).steer i x.lane .back
    | _, _ => s

/-- The end of a visit's scan: the initiator judges, the responder sends MEAS (R290). -/
def State.scanned (s : State) (i : Nat) (m : Nat × Nat) : State :=
  match (s.half i).heat with
  | none => s
  | some x =>
    let s := s.modHeat i (fun x => { x with own := some m, step := .judge })
    if x.initiator then s.judge i
    else (s.recordMargins i x.lane m (0, 0)).steer i x.lane (.meas m.1 m.2)

/-- Whether a freed lane has bit lock, symbol lock and polarity (R217, R290). -/
def State.lanesUp (s : State) (r : Nat) : Bool :=
  let q := s.lane r
  s.flag LN_STS.LOCK r && !s.flag LN_STS.LOS r && decide (3 ≤ q.good) && decide (3 ≤ q.pol)

/-- HEAT_STEP_DONE (R290): the step in progress ends, in time where ok; h and w are the scan's minima. Steering steps end only
once both directions have switched, training once the lane is trained, and equalisation once both directions are equalised (R261).
A step that needs the shadow sampler ends a margin scan of the lane (R284). -/
def execHeatStepDone (port : Fin 256) (ok : Bool) (h : BitVec 8) (w : Fin 65) (s : State) :
    Host.Outcome State Fault Refusal :=
  let i := halfOf port.val
  let q := s.half i
  match q.heat with
  | none => .next s
  | some x =>
    let r := s.ownRx i x.lane
    let n := s.macroOf (2 * portOfHalf i + x.lane)
    let goto := fun (st : HeatStep) (code : Nat) =>
      (s.modHeat i (fun x => { x with step := st })).setFld LFL_HT_STS.STATE code i
    match x.step with
    | .spare => .next s
    | .out =>
      if q.txSpare = some x.lane ∧ q.rxSpare = some x.lane ∧ (!x.initiator ∨ x.answered) then
        .next ((goto .train 2).modLane r (fun _ => {}))
      else .next s
    | .train =>
      if !ok then .next (s.scanned i (0, 0))
      else if s.lanesUp r then .next (((goto .eq 2).eqBegin n r).abandonScan r)
      else .next s
    | .eq =>
      if !ok then .next (s.scanned i (0, 0))
      else if (s.lane r).done ∧ 3 ≤ (s.lane r).farDone then .next (goto .settle 2)
      else .next s
    | .settle => .next ((goto .scan 3).abandonScan r)
    | .scan => .next (s.scanned i (x.own.getD (h.toNat, w.val)))
    | .judge => .next s
    | .back =>
      if q.offSpare then .next (s.nextVisit i x)
      else .next s

/-! Steering messages received (R288 to R292) -/

/-- The oldest steering message of a kind that a half has received, with the state in which it has been handed on. -/
def State.takeSteer (s : State) (i : Nat) (f : SteerOp → Bool) : Option (SteerMsg × State) :=
  match takeFirst (fun (m : BypMsg) => match m with
      | .steer x => f x.op
      | _ => false) (s.half i).bypRx with
  | some (.steer x, r) => some (x, s.modHalf i (fun h => { h with bypRx := r : Half }.giveBack 5 1))
  | _ => none

/-- Whether the far end's OUT is declined (R292). -/
def State.declines (s : State) (i : Nat) : Bool :=
  s.lfl i != lflActive || !s.hasSpare i || !s.spareLocked i || s.halfTrains (otherHalf i) ||
    (s.fld LFL_SP_STS.USE (i / 2) == 2 && s.fld LFL_SP_STS.HALF (i / 2) != i % 2)

/-- An OUT that this end answers as responder (R290): it switches reception at TSEQ, and sends its own OUT once its spare has
mirrored the lane for 100 µs, at once where it has already (R287). -/
def State.respond (s : State) (i : Nat) (x : SteerMsg) : State :=
  let y : Heat := { initiator := false, todo := [], lane := x.lane, step := .spare, thr := s.rd ⟨.LFL_HT_THR, i, 0⟩ }
  let old := s.fld LFL_SP_STS.USE (i / 2) == 1 && s.fld LFL_SP_STS.HALF (i / 2) == i % 2 && s.fld LFL_SP_STS.LANE (i / 2) == x.lane &&
    (s.half i).mirrorOld
  let s := s.modHalf i (fun h => { h with rxSwitch := h.rxSwitch ++ [x], heat := some y, mirrorOld := old })
  let s := (s.setFld LFL_HT_STS.STATE 1 i).setFld LFL_HT_STS.LANE x.lane i
  (s.spareUse i 2 x.lane).tryOut i

/-- Whether the far end has not yet acknowledged this end's OUT of a lane: a far OUT is then no answer to it (R292). -/
def Half.outUnread (h : Half) (lane : Nat) : Bool :=
  let f := fun (m : BypMsg) => match m with
    | .steer x => x.op == .out && x.lane == lane
    | _ => false
  h.bypTx.any f || h.kept.any (fun g => g.byp.any f)

/-- STEERING_OUT (R288, R290, R292): the far end's answer to this end's OUT, a new visit, or both ends' OUT at once, where the
lower Switch ID keeps its heat and still follows the far end's switches. -/
def execSteeringOut (port : Fin 256) (s : State) : Host.Outcome State Fault Refusal :=
  let i := halfOf port.val
  match s.takeSteer i (fun o => o == .out) with
  | none => .next s
  | some (x, s) => match (s.half i).heat with
    | some y =>
      if y.initiator && y.step == .out then
        let t := s.modHalf i (fun h => { h with rxSwitch := h.rxSwitch ++ [x] })
        if y.lane = x.lane ∧ !(s.half i).outUnread y.lane then .next (t.modHeat i (fun y => { y with answered := true }))
        else if s.swid < s.fld LFL_STS.PEER i then .next t
        else .next (((s.steer i y.lane .back).endHeat i 3).respond i x)
      else if s.declines i then .next (s.steer i x.lane .refuse)
      else if y.initiator && y.step == .spare then .next ((s.endHeat i 3).respond i x)
      else .next (s.respond i x)
    | none => if s.declines i then .next (s.steer i x.lane .refuse) else .next (s.respond i x)

/-- STEERING_BACK (R288, R290): the responder answers with its own BACK. -/
def execSteeringBack (port : Fin 256) (s : State) : Host.Outcome State Fault Refusal :=
  let i := halfOf port.val
  match s.takeSteer i (fun o => o == .back) with
  | none => .next s
  | some (x, s) =>
    let s := s.modHalf i (fun h => { h with rxSwitch := h.rxSwitch ++ [x] })
    match (s.half i).heat with
    | some y =>
      if y.initiator then .next s
      else .next (((s.setFld LFL_HT_STS.STATE 4 i).modHeat i (fun x => { x with step := .back })).steer i x.lane .back)
    | none => .next s

/-- STEERING_MEAS (R288, R300). -/
def execSteeringMeas (port : Fin 256) (s : State) : Host.Outcome State Fault Refusal :=
  let i := halfOf port.val
  match s.takeSteer i (fun o => match o with
      | .meas _ _ => true
      | _ => false) with
  | some (⟨_, .meas h w, lane⟩, s) =>
    match (s.half i).heat with
    | some y => if y.initiator && y.lane == lane then
        .next ((s.modHeat i (fun x => { x with far := some (h, w) })).judge i) else .next s
    | none => .next s
  | some (_, s) => .next s
  | none => .next s

/-- STEERING_RETIRE (R291). -/
def execSteeringRetire (port : Fin 256) (s : State) : Host.Outcome State Fault Refusal :=
  let i := halfOf port.val
  match s.takeSteer i (fun o => o == .retire) with
  | none => .next s
  | some (x, s) => match (s.half i).heat with
    | some y => if y.initiator then .next s else .next ((s.retireLane i x.lane).endHeat i 0)
    | none => .next s

/-- STEERING_REFUSE (R292). -/
def execSteeringRefuse (port : Fin 256) (s : State) : Host.Outcome State Fault Refusal :=
  let i := halfOf port.val
  match s.takeSteer i (fun o => o == .refuse) with
  | none => .next s
  | some (x, s) => match (s.half i).heat with
    | some y => if y.initiator && y.step == .out && y.lane == x.lane then
        .next (((s.setFld LFL_HT_STS.STATE 4 i).steer i x.lane .back).endHeat i 3) else .next s
    | none => .next s

/-! The spare's settings (R286) -/

/-- Whether a started port of any role holds lanes of a global octet. -/
def State.octetStarted (s : State) (o : Nat) : Bool :=
  (List.range 256).any (fun p => s.started p && decide (2 * p < 8 * o + 8) && decide (8 * o < 2 * p + s.portWidth p))

/-- A write of LFL_SP_CTL: ignored while a port of the octet is started. -/
def writeSpCtl (s : State) (o : Nat) (v : Word) : State :=
  if s.octetStarted o then s
  else
    let s := s.setFld LFL_SP_CTL.OWN (bitsOf v 1 0) o
    if bitOf v 31 then
      let s := s.each [2 * o, 2 * o + 1] (fun s i => s.modHalf i (fun h => { h with retired := none }))
      s.wr ⟨.LFL_SP_STS, o, 0⟩ 0
    else s

end Sys2Proof.Machine
end

