-- ==== Sys2Proof/Machine/Ports.lean ====
section
/-! DEFINITION. CXL and PCIe ports: starting, training, link-down, enumeration of memory devices, viral, device ports
(spec/09). -/

namespace Sys2Proof.Machine

/-! Bindings of device ports (R248, R249) -/

/-- The binding of a device port that its vPPB shows: both ports Active. -/
def State.boundTo (s : State) (p : Nat) : Option (Nat × Nat) :=
  let h := s.fld PRT_BIND.HPORT p
  if s.fld PRT_CTL.ROLE p = 3 ∧ s.flag PRT_BIND.VLD p ∧ s.fld PRT_STS.STATE p = 4 ∧ s.fld PRT_CTL.ROLE h = 1 ∧
      s.fld PRT_STS.STATE h = 4 then some (h, s.fld PRT_BIND.VPPB p) else none

/-! The emulated Type 1 headers (R241). Their layout, their writable bits and the slot registers are PCIe's: PRESUMED (log entry
63) -/

/-- The bits of each word of a Type 1 header that a write stores; slot says that the function has a slot, vPPB 2 to 9. -/
def bridgeWritable (slot : Bool) (off : Nat) : Nat :=
  match off with
  | 0x04 => 0x547
  | 0x18 => 0xFFFFFF
  | 0x1C => 0xF0F0
  | 0x20 | 0x24 => 0xFFF0FFF0
  | 0x28 | 0x2C | 0x30 => 0xFFFFFFFF
  | 0x3C => 0x5F00FF
  | 0x58 => if slot then 0x1FFF else 0
  | _ => 0

/-- The bits of each word that a write of 1 clears: Status, Secondary Status, Slot Status. -/
def bridgeW1c (slot : Bool) (off : Nat) : Nat :=
  match off with
  | 0x04 | 0x1C => 0xF9000000
  | 0x58 => if slot then 0x11F0000 else 0
  | _ => 0

/-- A word of a Type 1 header of a host port, function 0 the upstream switch port, 1 + n vPPB n. -/
def State.bridge (s : State) (h f off : Nat) : Nat := tabGet (fun _ => 0) (s.port h).bridges (1024 * f + off / 4)

def State.setBridge (s : State) (h f off v : Nat) : State :=
  s.modPort h (fun q => { q with bridges := tabSet id (fun _ => 0) q.bridges (1024 * f + off / 4) (v % 2 ^ 32) })

/-- Hot-adds and surprise removals that a change of state brings (R249), with the changed bits of the slot's status. -/
def State.vppbs (old new : State) : State :=
  new.each (List.range 256) (fun s p =>
    let tell := fun (s : State) (b : Nat × Nat) (added : Bool) =>
      (s.setBridge b.1 (1 + b.2) 0x58 (s.bridge b.1 (1 + b.2) 0x58 ||| 0x1080000)).emit (.vppb b.1 b.2 added)
    match old.boundTo p, new.boundTo p with
    | none, some b => tell s b true
    | some b, none => tell s b false
    | _, _ => s)

/-! Training (R232, R233, R236) -/

/-- The settings with which a link trains (R236). -/
def State.linkSettings (s : State) (p : Nat) : List Word :=
  s.rd ⟨.PRT_CTL, p, 0⟩ :: (s.portLanes p).flatMap (fun n => [s.rd ⟨.LN_CTL, n, 0⟩, s.rd ⟨.LN_EQ_CFG, n, 0⟩])

/-- The role with which a port's link trained, PRT_CTL.ROLE where it has not. -/
def State.linkRole (s : State) (p : Nat) : Nat :=
  match (s.port p).trained with
  | some (w :: _) => bitsOf w 31 29
  | _ => s.fld PRT_CTL.ROLE p

/-- The lanes of the link as it trained; those that PRT_CTL gives where it has not. -/
def State.linkLanes (s : State) (p : Nat) : List Nat :=
  match (s.port p).trained with
  | some (w :: _) => (List.range (widthLanes (bitsOf w 28 27))).map (fun k => s.macroOf (2 * p + k))
  | _ => s.portLanes p

/-- LINK_DOWN_SWEEP (R117), by the role with which the link trained. -/
def State.sweep (s : State) (p role : Nat) : State :=
  match role with
  | 1 => s.sweepHost p
  | 2 => ((s.sweepDevs p true).sweepQueues p).holdPort p
  | _ => s

/-- A port's link is no longer up: its status, its outstanding requests and the skeins behind it (R40, R117, R235). -/
def State.linkOff (s : State) (p cause : Nat) : State :=
  let role := s.linkRole p
  let s := (s.setFld PRT_STS.LUP 0 p).setFld PRT_STS.LDN_CAUSE cause p
  let s := ((s.setFld PRT_STS.RATE_NEG 0 p).setFld PRT_STS.WIDTH_NEG 0 p).setFld PRT_STS.FLIT 0 p
  ((s.setFld PRT_STS.REV 0 p).modPort p (fun q => { q with trained := none, enum := none })).sweep p role

/-- A trained link taken down by a start: its lanes are the port's no longer, until the port drives those that it now has (R236). -/
def State.linkDrop (s : State) (p cause : Nat) : State := (s.linkOff p cause).each (s.linkLanes p) (fun s n => s.laneOff n)

/-- A port's state as it changes; a memory port that leaves Active loses what its enumeration recorded (R246). -/
def State.setPortState (s : State) (p st : Nat) : State :=
  let t := s.setFld PRT_STS.STATE st p
  if s.fld PRT_STS.STATE p = 4 ∧ st ≠ 4 ∧ s.fld PRT_CTL.ROLE p = 2 then (t.wr ⟨.PRT_MEM_CAP, p, 0⟩ 0).wr ⟨.PRT_MEM_ID, p, 0⟩ 0
  else t

/-- A training that failed: the port goes to Down hold (R233, R236, R239). -/
def State.trainFail (s : State) (p cause : Nat) : State :=
  ((s.setFld PRT_STS.STATE 5 p).setFld PRT_STS.LDN_CAUSE cause p).report (slotPort p)

/-- Training entered (R232). -/
def State.train (s : State) (p : Nat) : State :=
  (s.each (s.portLanes p) (fun s n => s.laneOn n 0)).setFld PRT_STS.STATE 2 p

/-- A port reaches Active (R236). -/
def State.portUp (s : State) (p : Nat) : State := (s.setFld PRT_STS.STATE 4 p).post 0x20 p 0

/-- An enumeration begins (R245). -/
def State.enumerate (s : State) (p : Nat) : State :=
  ((s.setFld PRT_STS.STATE 3 p).modPort p (fun q => { q with enum := some {}, enumLate := false })).emit (.enumRequest p 1)

/-- A CXL or PCIe port started once its checks have passed (R236). -/
def State.portStart (s : State) (p : Nat) : State :=
  let up := s.flag PRT_STS.LUP p
  let viral := s.flag PRT_STS.VIRAL_TX p
  if s.fld PRT_CTL.ROLE p = 0 then
    let s := if up then s.linkDrop p 1 else s
    (s.each (s.portLanes p) (fun s n => s.laneOff n)).setFld PRT_STS.STATE 0 p
  else if up ∧ (s.port p).trained = some (s.linkSettings p) ∧ !viral then
    let s := s.setFld PRT_STS.LDN_CAUSE 0 p
    if s.fld PRT_CTL.ROLE p = 2 ∧ s.flag PRT_CTL.ENUM p ∧ s.fld PRT_MEM_CAP.CAP_G p = 0 then s.enumerate p else s.portUp p
  else
    let s := s.setFld PRT_STS.LDN_CAUSE 0 p
    (if up ∧ viral then (s.linkDrop p 7).emit (.hotReset p) else if up then s.linkDrop p 1 else s).train p

/-- What training has found when L0 is reached: rate, width code (R235), whether the far end offers CXL.io and CXL.mem, the
256-byte, the latency-optimised and the 68-byte flit, and lane reversal. -/
structure Trained where
  rate : Fin 6
  width : Fin 5
  mem : Bool
  flit256 : Bool
  lopt : Bool
  flit68 : Bool
  rev : Bool
  deriving DecidableEq, Repr

/-- The flit mode that a port takes, none where protocol or flit mode is not acceptable (R230, R232). -/
def State.flitMode (s : State) (p : Nat) (t : Trained) : Option Nat :=
  match s.fld PRT_CTL.ROLE p with
  | 1 => if !t.mem || !t.flit256 then none else some (if s.flag PRT_CTL.LOPT p && t.lopt then 3 else 2)
  | 2 => if !t.mem then none else if t.flit256 then some 2
    else if s.flag PRT_CTL.F68 p && t.flit68 && t.rate.val ≤ 4 then some 1 else none
  | 3 => some (if t.rate.val = 5 then 2 else 0)
  | _ => none

/-- The PRE and POST that a request asks for, none for a reserved preset (R258). A preset stands for the nearest coefficients that
meet R257: a free value, since PCIe gives them. -/
def EqAsk.coefs' (a : EqAsk) (fast : Bool) : Option (Nat × Nat) :=
  match a with
  | .preset n =>
    let x := Config.pciePreset fast n.val
    if 10 < n.val then none else some (if eqLegal x.1 x.2 then x else (0, 0))
  | .coefs pre post => some (pre, post)

/-- A far receiver's request on a CXL or PCIe lane: taken where it meets R257, rejected where not, with its answer (R257, R258).
LN_TXEQ.OVR ignores it (R273). -/
def State.pcieAsk (s : State) (n : Nat) (fast : Bool) (a : EqAsk) : State :=
  if s.flag LN_TXEQ.OVR n then s
  else
    let now := fun (s : State) (ok : Bool) => s.emit (.eqAnswer n ok (s.fld LN_TXEQ.PRE n) (s.fld LN_TXEQ.POST n))
    match a.coefs' fast with
    | some (pre, post) => if eqLegal pre post then now (s.setTxEq n pre post) true else now s false
    | none => now s false

/-- The lanes of a port whose link has trained, with w lanes and lane order reversed or not (R233, R267, R268): port lane k
carries far lane k, or counts from the other end; a lane that the link does not use is idle. A polarity found inverted is
corrected and shown. At 8 GT/s and above the far receivers' equalisation requests have been taken (R258). -/
def State.setLanes (s : State) (p rate w : Nat) (rev : Bool) (ls : List LaneTrained) : State :=
  let n := s.portWidth p
  s.each (List.range n) (fun s k =>
    let far := if rev then n - 1 - k else k
    let l := s.macroOf (2 * p + k)
    let t := ls.getD k {}
    if far < w then
      let s := ((s.setFld LN_STS.RATE_CUR rate l).setFld LN_STS.PLANE far l).setFld LN_STS.INV (bit t.inverted) l
      if 2 ≤ rate then s.each t.asks (fun s a => s.pcieAsk l (rate == 5) a) else s
    else (s.setFld LN_STS.PLANE 0xF l).laneIdle l)

/-- Whether a lane of the link has its polarity forced against what training finds: that fails the training (R267). -/
def State.polarityFails (s : State) (p w : Nat) (rev : Bool) (ls : List LaneTrained) : Bool :=
  let n := s.portWidth p
  (List.range n).any (fun k =>
    let pol := s.fld LN_CTL.RX_POL (s.macroOf (2 * p + k))
    decide ((if rev then n - 1 - k else k) < w) && (pol == 1 && (ls.getD k {}).inverted || pol == 2 && !(ls.getD k {}).inverted))

/-- L0_REACHED (R236). The ports of an island whose PLL has not locked never reach L0 (R511), nor does a port with a lane whose
forced polarity does not match (R267). -/
def execL0Reached (port : Fin 256) (rate : Fin 6) (width : Fin 5) (mem flit256 lopt flit68 rev : Bool) (lanes : List LaneTrained)
    (s : State) : Host.Outcome State Fault Refusal :=
  let p := port.val
  let t : Trained := ⟨rate, width, mem, flit256, lopt, flit68, rev⟩
  if s.fld PRT_STS.STATE p ≠ 2 ∨ s.fld PRT_CTL.ROLE p = 4 ∨ s.fld PRT_CTL.MAXRATE p < rate.val ∨
      s.fld PRT_CTL.WIDTH p + 1 < width.val ∨ s.chip.pllFail.contains (octetOf p) ∨ s.polarityFails p (2 ^ width.val) rev lanes then
    .next s
  else if width.val < s.fld PRT_CTL.MINW p then
    .next (s.trainFail p 5)
  else match s.flitMode p t with
    | none => .next (s.trainFail p 6)
    | some f =>
      let s' := ((s.setFld PRT_STS.RATE_NEG rate.val p).setFld PRT_STS.WIDTH_NEG width.val p).setFld PRT_STS.FLIT f p
      let s' := ((s'.setFld PRT_STS.VIRAL_TX 0 p).setFld PRT_STS.VIRAL_RX 0 p).setFld PRT_STS.REV (bit rev) p
      let s' := (s'.setFld PRT_STS.LUP 1 p).modPort p (fun q => { q with
        trained := some (s.linkSettings p), trainedAt := some (rate.val, width.val) })
      let s' := if 2 ≤ rate.val then s'.emit (.eqAdvert p 48 12) else s'
      let s' := s'.setLanes p rate.val (2 ^ width.val) rev lanes
      .next (s.vppbs (if s.fld PRT_CTL.ROLE p = 2 ∧ s.flag PRT_CTL.ENUM p then s'.enumerate p else s'.portUp p))

/-- PCIE_TRAINING_LIMIT (R239). tie says that L0 is reached on the tick on which the limit expires. -/
def execPcieTrainingLimit (port : Fin 256) (tie : Bool) (s : State) : Host.Outcome State Fault Refusal :=
  let p := port.val
  if s.fld PRT_STS.STATE p ≠ 2 ∨ s.fld PRT_CTL.ROLE p = 4 then .next s
  else if tie then .next (s.nearMiss (octetOf p))
  else .next (s.trainFail p 5)

/-! Link-down (R117, R236, R239) -/

/-- A link-down of a CXL or PCIe port. A Stopped port whose trained link drops stays Stopped. -/
def State.portDown (s : State) (p cause : Nat) : State :=
  let st := s.fld PRT_STS.STATE p
  if s.fld PRT_CTL.ROLE p = 4 ∨ !s.flag PRT_STS.LUP p then s
  else
    let t := (s.linkOff p cause).report (slotPort p)
    let t := if st = 3 ∨ st = 4 then (t.setPortState p 5).post 0x21 p cause else t
    s.vppbs t

/-- PORT_LINK_DOWN (R236): Data Link Layer down, or a reset or disable from the far end. -/
def execPortLinkDown (port : Fin 256) (farReset : Bool) (s : State) : Host.Outcome State Fault Refusal :=
  .next (s.portDown port.val (if farReset then 3 else 2))

/-- PORT_DOWN_HOLD_EXPIRY (R236). -/
def execPortDownHoldExpiry (port : Fin 256) (s : State) : Host.Outcome State Fault Refusal :=
  let p := port.val
  if s.fld PRT_STS.STATE p = 5 ∧ s.fld PRT_CTL.ROLE p ≠ 4 ∧ (s.fn (fidPort p)).run = .running then .next (s.train p)
  else .next s

/-! Enumeration (R245, R246) -/

/-- An enumeration fails: the port is Stopped, its device place free (R236). -/
def State.enumFail (s : State) (p err : Nat) : State :=
  let s := s.modPort p (fun q => { q with enum := none })
  let s := (s.setFld PRT_STS.STATE 1 p).setFld PRT_STS.ENUM_ERR err p
  (s.stopDone (fidPort p) 0).post 0x22 p err

/-- The enumeration goes to a step. -/
def State.enumStep (s : State) (p : Nat) (e : EnumSt) : State :=
  (s.modPort p (fun q => { q with enum := some e })).emit (.enumRequest p e.step)

/-- Steps 7 and the end: the capacity and the identifiers recorded (R246). -/
def State.enumDone (s : State) (p : Nat) (e : EnumSt) : State :=
  let cap := min e.total 0x2000
  let s := s.modPort p (fun q => { q with enum := none })
  let s := ((s.setFld PRT_MEM_CAP.TRUNC (bit (decide (0x2000 < e.total))) p).setFld PRT_MEM_CAP.PBASE_G (min e.volatile cap) p)
  let s := (s.setFld PRT_MEM_CAP.CAP_G cap p).wr ⟨.PRT_MEM_ID, p, 0⟩ (wordOf (2 ^ 16 * e.dev + e.ven))
  (s.setFld PRT_STS.ENUM_ERR 0 p).portUp p

/-- ENUM_RESPONSE (R245): a response to the request of the present step, or one that comes after its timeout (R17). tie says that
it comes on the tick on which a timer of the enumeration expires (R15). -/
def execEnumResponse (port : Fin 256) (r : EnumResp) (tie : Bool) (s : State) : Host.Outcome State Fault Refusal :=
  let p := port.val
  match (s.port p).enum with
  | none =>
    if (s.port p).enumLate then .next ((s.modPort p (fun q => { q with enumLate := false })).lateArrival (octetOf p)) else .next s
  | some e =>
   let s := if tie then s.nearMiss (octetOf p) else s
   match r with
    | .header found v d =>
      if e.step ≠ 1 then .next s
      else .next (if found then s.enumStep p { e with step := 2, ven := v % 65536, dev := d % 65536 } else s.enumFail p 1)
    | .capable b =>
      if e.step ≠ 2 then .next s
      else .next (if b then s.enumStep p { e with step := 3 } else s.enumFail p 2)
    | .active b =>
      if e.step ≠ 3 then .next s
      else .next (s.enumStep p { e with step := if b then 4 else 3 })
    | .identify ok v t =>
      if e.step ≠ 4 then .next s
      else .next (if !ok then s.enumFail p 3 else if t = 0 then s.enumFail p 4
        else s.enumStep p { e with step := 5, volatile := v, total := t })
    | .enabled => if e.step ≠ 5 then .next s else .next (s.enumStep p { e with step := 6 })
    | .commit ok => if e.step ≠ 6 then .next s else .next (if ok then s.enumDone p e else s.enumFail p 5)

/-- An enumeration ended by a timeout: a response that is still to come is late. -/
def State.enumTimedOut (s : State) (p err : Nat) : State :=
  (s.enumFail p err).modPort p (fun q => { q with enumLate := true })

/-- ENUM_TIMEOUT (R245). -/
def execEnumTimeout (port : Fin 256) (s : State) : Host.Outcome State Fault Refusal :=
  if (s.port port.val).enum.isSome then .next (s.enumTimedOut port.val 7) else .next s

/-- MEMORY_ACTIVE_TIMEOUT (R245). -/
def execMemoryActiveTimeout (port : Fin 256) (s : State) : Host.Outcome State Fault Refusal :=
  match (s.port port.val).enum with
  | some e => if e.step = 3 then .next (s.enumTimedOut port.val 6) else .next s
  | none => .next s

/-! Viral and link services (R231, R240) -/

/-- VIRAL_FROM_HOST (R240). -/
def execViralFromHost (port : Fin 256) (s : State) : Host.Outcome State Fault Refusal :=
  let p := port.val
  if s.fld PRT_CTL.ROLE p = 1 ∧ s.flag PRT_STS.LUP p then .next ((s.setFld PRT_STS.VIRAL_RX 1 p).report (slotPort p))
  else .next s

/-- VIRAL_FROM_MEMORY_DEVICE (R240). -/
def execViralFromMemoryDevice (port : Fin 256) (s : State) : Host.Outcome State Fault Refusal :=
  let p := port.val
  if s.fld PRT_CTL.ROLE p = 2 ∧ s.flag PRT_STS.LUP p then .next ((s.setFld PRT_STS.VIRAL_RX 1 p).portDown p 4) else .next s

/-- PME_TURN_OFF (R231). -/
def execPmeTurnOff (port : Fin 256) (s : State) : Host.Outcome State Fault Refusal :=
  if s.fld PRT_CTL.ROLE port.val = 1 ∧ s.flag PRT_STS.LUP port.val then .next (s.emit (.pmeToAck port.val)) else .next s

/-- The lanes that the trained link of a port uses, by the far lane that each carries (R268). -/
def State.linkWidth (s : State) (p : Nat) : Nat := ((s.portLanes p).filter (fun n => s.fld LN_STS.PLANE n != 0xF)).length

/-- The link of a port at w lanes under L0p: the others of its lanes idle (R231, R233). -/
def State.setWidth (s : State) (p w : Nat) : State :=
  s.each (s.portLanes p) (fun s n =>
    if s.fld LN_STS.PLANE n = 0xF then s else s.setFld LN_STS.TXON (bit (decide (s.fld LN_STS.PLANE n < w))) n)

/-- L0P_REQUEST (R231): a width change, by width code, within the width at which the link has trained. -/
def execL0pRequest (port : Fin 256) (width : Fin 5) (s : State) : Host.Outcome State Fault Refusal :=
  let p := port.val
  if s.fld PRT_CTL.ROLE p = 4 ∨ !s.flag PRT_STS.LUP p then .next s
  else if s.flag PRT_CTL.L0P_EN p ∧ 2 ^ width.val ≤ s.linkWidth p then
    .next (((s.setWidth p (2 ^ width.val)).setFld PRT_STS.WIDTH_NEG width.val p).emit (.l0p p true))
  else .next (s.emit (.l0p p false))

/-! Device ports (R249) -/

/-- A secondary bus reset of a vPPB: a hot reset of the device bound to it (R249). -/
def State.busReset (s : State) (h v : Nat) : State :=
  s.each ((List.range 256).filter (fun p => s.fld PRT_CTL.ROLE p == 3 && s.flag PRT_BIND.VLD p &&
    s.fld PRT_BIND.HPORT p == h && s.fld PRT_BIND.VPPB p == v && s.flag PRT_STS.LUP p))
    (fun s p => s.emit (.hotReset p))

/-- VPPB_SECONDARY_BUS_RESET (R249). -/
def execVppbSecondaryBusReset (hport : Fin 256) (vppb : Fin 16) (s : State) : Host.Outcome State Fault Refusal :=
  .next (s.busReset hport.val vppb.val)

/-- The bits of a word that byte enables select. -/
def enabledBits (enable : Fin 16) : Nat :=
  (List.range 4).foldl (fun a k => if enable.val.testBit k then a ||| (0xFF * 2 ^ (8 * k)) else a) 0

/-- A configuration write of a Type 1 header: the bytes that it enables, under the masks. It reaches no link (R241); Secondary Bus
Reset of a vPPB, where it is set, resets the device bound there (R249). -/
def State.bridgeWrite (s : State) (h f off v : Nat) (enable : Fin 16) : State :=
  let slot := decide (3 ≤ f)
  let bytes := enabledBits enable
  let rw := bridgeWritable slot off &&& bytes
  let old := wordOf (s.bridge h f off)
  let new := (old &&& ~~~(wordOf rw)) ||| (wordOf v &&& wordOf rw)
  let new := new &&& ~~~(wordOf v &&& wordOf (bridgeW1c slot off &&& bytes))
  let s := s.setBridge h f off new.toNat
  if off = 0x3C ∧ 1 ≤ f ∧ !bitOf old 22 ∧ bitOf new 22 then s.busReset h (f - 1) else s

/-- Whether a device port takes upstream TLPs: bound and both ports Active, its stop not begun, the safe notice not taken
(R238, R249, R487). -/
def State.deviceSends (s : State) (p : Nat) : Bool :=
  (s.boundTo p).isSome && (s.fn (fidPort p)).run == .running && !(s.port p).safe

/-- DEVICE_TLP (R249): to the host port, whatever its address. -/
def execDeviceTlp (port : Fin 256) (posted : Bool) (payload : Fin 257) (s : State) : Host.Outcome State Fault Refusal :=
  let p := port.val
  if s.deviceSends p then
    .next (s.send { body := .tlp posted payload.val, src := p, dsts := [s.fld PRT_BIND.HPORT p], cls := if posted then 6 else 7,
                    len := 16 + payload.val })
  else .next s

/-- DEVICE_CONFIG_WRITE (R249): a configuration write of a host to its bound device goes from the host's port through the core as a
non-posted request (R145). dvsecControl marks the Control register of the CXL device DVSEC, whose Cache_Enable (bit 0)
and Mem_Enable (bit 2) are forced to 0. PRESUMED: the two bit positions, from CXL 3.1. -/
def execDeviceConfigWrite (port : Fin 256) (addr : Fin 4096) (dvsecControl : Bool) (value : Word) (s : State) :
    Host.Outcome State Fault Refusal :=
  let p := port.val
  match s.boundTo p with
  | some (h, _) => .next (s.send { body := .config addr.val (if dvsecControl then value &&& ~~~(5 : Word) else value),
                                   src := h, dsts := [p], cls := 7, len := 24 })
  | none => .next s

/-! STOPF of a CXL or PCIe port (R236, R238) -/

/-- Whether the drain of a port's stop has ended (R238). What a device port still has open is not seen by the device's
registers: npOpen says so. -/
def State.portDrained (s : State) (p : Nat) (npOpen : Bool) : Bool :=
  if s.fld PRT_STS.STATE p ≠ 4 then true
  else match s.fld PRT_CTL.ROLE p with
    | 1 => (s.port p).out.isEmpty
    | 2 => (s.port p).dev.isEmpty
    | 3 => !npOpen
    | 4 => s.lflDrained (halfOf p)
    | _ => true

/-- A port that has stopped (R223, R236): from Active its link stays trained; from Training, Enumerating and Down hold the link
is held in Detect. -/
def State.portStop (s : State) (p : Nat) : State :=
  if s.fld PRT_CTL.ROLE p = 4 then s.lflDisable (halfOf p)
  else
    let st := s.fld PRT_STS.STATE p
    let t := if st = 2 ∨ st = 3 ∨ st = 5 then
        (s.linkOff p 1).each (s.portLanes p) (fun s n => s.laneOff n)
      else s
    s.vppbs (t.setPortState p 1)

end Sys2Proof.Machine
end

