-- ==== Sys2Proof/Machine/Mailbox.lean ====
section
/-! DEFINITION. The mailbox of a host's logical memory device (spec/09 R242 to R244). -/

namespace Sys2Proof.Machine

/-- A mailbox answer of a host port whose link is up; the device answers every command itself (R242). -/
def State.mbx (s : State) (p : Nat) (code : MbxCode) (data : List Nat) : State :=
  if s.fld PRT_CTL.ROLE p = 1 ∧ s.flag PRT_STS.LUP p then s.emit (.mailbox p code data) else s

/-- The command opcodes that the Command Effects Log lists. PRESUMED: the codes, from CXL 3.1. -/
def mailboxOpcodes : List Nat :=
  [0x0100, 0x0101, 0x0102, 0x0103, 0x0300, 0x0301, 0x0400, 0x0401, 0x4000, 0x4800, 0x4801, 0x4802, 0x4803]

/-- The tag of an extent (R46): the skein index in bytes 0 and 1, CREW in byte 2. -/
def extentTag (skein crew : Nat) : Nat := skein + 2 ^ 16 * crew

/-- The accepted extents of a port: DPA base and length in granules, and tag (R46, R242). -/
def State.acceptedExtents (s : State) (p : Nat) : List Nat :=
  let q := s.port p
  ((q.ext.filter (fun a => s.accepted a.skein p)).flatMap (fun a => [a.base, a.size, extentTag a.skein a.crew])) ++
    ((q.rext.filter (fun a => s.flag PRT_REXT_W0.ACC p a.idx)).flatMap (fun a => [a.base, a.size, extentTag a.hskein a.hcrew]))

/-- IDENTIFY_MEMORY_DEVICE (R242): 0 bytes of static capacity. -/
def execIdentifyMemoryDevice (port : Fin 256) (s : State) : Host.Outcome State Fault Refusal :=
  .next (s.mbx port.val .success [0])

/-- GET_SUPPORTED_LOGS (R242): the Command Effects Log. -/
def execGetSupportedLogs (port : Fin 256) (s : State) : Host.Outcome State Fault Refusal :=
  .next (s.mbx port.val .success [1])

/-- GET_LOG (R242): the Command Effects Log. -/
def execGetLog (port : Fin 256) (s : State) : Host.Outcome State Fault Refusal :=
  .next (s.mbx port.val .success mailboxOpcodes)

/-- GET_EVENT_RECORDS (R242, R243): logs 0 to 3 are Informational, Warning, Failure and Fatal, into which the spec puts no
record; 4 is Dynamic Capacity. -/
def execGetEventRecords (port : Fin 256) (log : Fin 5) (s : State) : Host.Outcome State Fault Refusal :=
  let p := port.val
  .next (s.mbx p .success (if log.val = 4 then
    (s.port p).dcLog.flatMap (fun r => [r.op, bit r.remote, r.index, extentTag r.tagSkein r.tagCrew]) else []))

/-- CLEAR_EVENT_RECORDS (R243): the oldest records leave the Dynamic Capacity event log. -/
def execClearEventRecords (port : Fin 256) (log : Fin 5) (count : Fin 65) (s : State) : Host.Outcome State Fault Refusal :=
  let p := port.val
  if s.fld PRT_CTL.ROLE p ≠ 1 ∨ !s.flag PRT_STS.LUP p then .next s
  else if log.val ≠ 4 then .next (s.mbx p .success [])
  else
    let q := s.port p
    let left := q.dcLog.drop count.val
    .next (((s.setPort p { q with dcLog := left }).setFld PRT_DC_STS.PEND left.length p).mbx p .success [])

/-- GET_EVENT_INTERRUPT_POLICY (R242). -/
def execGetEventInterruptPolicy (port : Fin 256) (s : State) : Host.Outcome State Fault Refusal :=
  .next (s.mbx port.val .success [(s.port port.val).policy])

/-- SET_EVENT_INTERRUPT_POLICY (R242). -/
def execSetEventInterruptPolicy (port : Fin 256) (policy : Nat) (s : State) : Host.Outcome State Fault Refusal :=
  let p := port.val
  if s.fld PRT_CTL.ROLE p = 1 ∧ s.flag PRT_STS.LUP p then
    .next ((s.modPort p (fun q => { q with policy := policy })).mbx p .success [])
  else .next s

/-- GET_DC_CONFIGURATION (R242): one region: base 0, length and block size in granules of 256 MiB, and 1 for volatile. -/
def execGetDcConfiguration (port : Fin 256) (s : State) : Host.Outcome State Fault Refusal :=
  .next (s.mbx port.val .success [1, 0, s.fld PRT_DCR.SIZE_G port.val, 1, 1])

/-- GET_DC_EXTENT_LIST (R242). -/
def execGetDcExtentList (port : Fin 256) (s : State) : Host.Outcome State Fault Refusal :=
  .next (s.mbx port.val .success (s.acceptedExtents port.val))

/-- GET_TIMESTAMP (R242): the timestamp set, and what has passed since. -/
def execGetTimestamp (port : Fin 256) (elapsed : Nat) (s : State) : Host.Outcome State Fault Refusal :=
  .next (s.mbx port.val .success [(s.port port.val).stamp + elapsed])

/-- SET_TIMESTAMP (R242). -/
def execSetTimestamp (port : Fin 256) (stamp : Nat) (s : State) : Host.Outcome State Fault Refusal :=
  let p := port.val
  if s.fld PRT_CTL.ROLE p = 1 ∧ s.flag PRT_STS.LUP p then
    .next ((s.modPort p (fun q => { q with stamp := stamp })).mbx p .success [])
  else .next s

/-- UNSUPPORTED_MAILBOX_COMMAND (R242). -/
def execUnsupportedMailboxCommand (port : Fin 256) (s : State) : Host.Outcome State Fault Refusal :=
  .next (s.mbx port.val .unsupported [])

end Sys2Proof.Machine
end

