-- ==== Sys2Proof/Machine/FabricMgr.lean ====
section
/-! DEFINITION. Fabric manager commands (spec/09 R250): each posts EV_FM_CMD with its MCTP message tag, and is answered as the
firmware program answers it. -/

namespace Sys2Proof.Machine

/-- A fabric manager command: its event, what the program does, and the answer. -/
def State.fm (s : State) (tag : Nat) (code : FmCode) (data : List Nat) : State :=
  (s.post 0x50 0 tag).emit (.fmAnswer tag code data)

/-- The started ports of a role. -/
def State.startedOf (s : State) (role : Nat) : Nat :=
  ((List.range 256).filter (fun p => s.started p && s.fld PRT_CTL.ROLE p == role)).length

/-- SET_ENDPOINT_ID (R250). -/
def execSetEndpointId (eid : Fin 256) (s : State) : Host.Outcome State Fault Refusal := .next { s with eid := eid.val }

/-- IDENTIFY_SWITCH_DEVICE (R250): started ports by role, and 10 vPPBs for each started host port. -/
def execIdentifySwitchDevice (tag : Fin 256) (s : State) : Host.Outcome State Fault Refusal :=
  .next (s.fm tag.val .success [s.startedOf 1, s.startedOf 2, s.startedOf 3, s.startedOf 4, 10 * s.startedOf 1])

/-- SEND_PPB_CXL_IO_CONFIG_REQUEST (R250): to a memory or device port that is Stopped with its link up. A write carries its value;
a read answers with what the device returns. -/
def execSendPpbCxlIoConfigRequest (tag port : Fin 256) (addr : Fin 4096) (write : Option Word) (returned : BitVec 32) (s : State) :
    Host.Outcome State Fault Refusal :=
  let p := port.val
  let role := s.role p
  if (role = 2 ∨ role = 3) ∧ s.fld PRT_STS.STATE p = 1 ∧ s.flag PRT_STS.LUP p then
    match write with
    | some v => .next ((s.emit (.config p addr.val v)).fm tag.val .success [])
    | none => .next ((s.emit (.configRead p addr.val)).fm tag.val .success [returned.toNat])
  else .next (s.fm tag.val .invalidInput [])

/-- The device port, plus 1, bound to a vPPB; 0 where none is. -/
def State.boundPort (s : State) (h v : Nat) : Nat :=
  match (List.range 256).find? (fun p => s.role p == 3 && s.flag PRT_BIND.VLD p &&
      s.fld PRT_BIND.HPORT p == h && s.fld PRT_BIND.VPPB p == v) with
  | some p => p + 1
  | none => 0

/-- GET_VIRTUAL_CXL_SWITCH_INFO (R241, R250): vPPB 0 and 1 hold the device's own functions; what is bound to vPPB 2 to 9. -/
def execGetVirtualCxlSwitchInfo (tag hport : Fin 256) (s : State) : Host.Outcome State Fault Refusal :=
  .next (s.fm tag.val .success ((List.range 8).map (fun v => s.boundPort hport.val (v + 2))))

/-- A write of PRT_BIND: only while the port is stopped (R248). -/
def writeBind (s : State) (p : Nat) (v : Word) : State :=
  if s.started p then s else s.wr ⟨.PRT_BIND, p, 0⟩ (v &&& 0x8000FF0F)

/-- BIND_VPPB (R248, R250). -/
def execBindVppb (tag port hport : Fin 256) (vppb : Fin 16) (s : State) : Host.Outcome State Fault Refusal :=
  let p := port.val
  if s.started p ∨ vppb.val < 2 ∨ 9 < vppb.val then .next (s.fm tag.val .invalidInput [])
  else .next ((writeBind s p (wordOf (2 ^ 31 + 2 ^ 8 * hport.val + vppb.val))).fm tag.val .success [])

/-- UNBIND_VPPB (R248, R250). -/
def execUnbindVppb (tag port : Fin 256) (s : State) : Host.Outcome State Fault Refusal :=
  let p := port.val
  if s.started p then .next (s.fm tag.val .invalidInput [])
  else .next ((writeBind s p (putBits (s.rd ⟨.PRT_BIND, p, 0⟩) 31 31 0)).fm tag.val .success [])

/-- GET_DCD_INFO (R250): host ports, skeins that are not Absent, and the granules they hold. -/
def execGetDcdInfo (tag : Fin 256) (s : State) : Host.Outcome State Fault Refusal :=
  .next (s.fm tag.val .success [s.startedOf 1, s.skeins.length,
    (s.skeins.map (fun n => skeinGranules (s.fld SKN_W0.SIZE n))).foldl (· + ·) 0])

/-- GET_HOST_DC_REGION_CONFIGURATION (R250). -/
def execGetHostDcRegionConfiguration (tag hport : Fin 256) (s : State) : Host.Outcome State Fault Refusal :=
  .next (s.fm tag.val .success [1, 0, s.fld PRT_DCR.SIZE_G hport.val, 1, 1])

/-- GET_DC_REGION_EXTENT_LISTS (R250). -/
def execGetDcRegionExtentLists (tag hport : Fin 256) (s : State) : Host.Outcome State Fault Refusal :=
  .next (s.fm tag.val .success (s.acceptedExtents hport.val))

/-- UNSUPPORTED_FM_COMMAND (R250). -/
def execUnsupportedFmCommand (tag : Fin 256) (s : State) : Host.Outcome State Fault Refusal :=
  .next (s.fm tag.val .unsupported [])

end Sys2Proof.Machine
end

