-- ==== Sys2Proof/Machine/Spd.lean ====
section
/-! DEFINITION. The scratchpad port, the secure region, protection units and the FIFOs with duplicated pointers (spec/14). -/

namespace Sys2Proof.Machine

/-- The first offset of the secure region (R360). -/
def secureBase : Nat := 0x1C0000

/-- The SPD window in the management space (R360). -/
def windowBase : Nat := 0x400000

/-- The scratchpad offset that a management-space address of the SPD window reaches (R360). -/
def windowOffset (a : Nat) : Option Nat := if windowBase ≤ a ∧ a < windowBase + memSize then some (a - windowBase) else none

/-- Lifecycle codes (R4). -/
def lcBlank : Nat := 0
def lcManufacturing : Nat := 1
def lcDevelopment : Nat := 2
def lcProduction : Nat := 3
def lcReturned : Nat := 4

/-- The present lifecycle (R4). -/
def State.lifecycle (s : State) : Nat := s.fld GLB_LIFECYCLE.CODE

/-! Protection units (R377 to R381) -/

/-- The protection unit of a requester (R377). -/
def State.unitOf (s : State) : Requester → Nat
  | .seat n => if s.priv n then 0 else 1
  | .dma e => 2 + e
  | .debug => 6
  | .bar0 _ => 6

/-- Whether a requester is a privileged seat. -/
def State.isPriv (s : State) : Requester → Bool
  | .seat n => s.priv n
  | _ => false

/-- Whether a unit has the default map (R377, R367). -/
def State.defaultMap (s : State) (u : Nat) : Bool :=
  if u = 6 then decide (s.lifecycle < lcProduction) else u == 0 || u == 2 || u == 3

/-- Whether a region register holds the 16-byte unit of an address of a space for a requester (R378, R379). -/
def regionHolds (w : Word) (u : Nat) (who : Requester) (mgmt : Bool) (a : Nat) : Bool :=
  let seatOk := match who with
    | .seat n => u ≠ 1 || bitOf w (44 + n)
    | _ => true
  bitOf w 63 && (bitOf w 62 == mgmt) && decide (bitsOf w 43 22 ≤ a / 16) && decide (a / 16 ≤ bitsOf w 21 0) && seatOk

/-- The lowest-numbered region that decides for an address (R379). -/
def State.region (s : State) (u : Nat) (who : Requester) (mgmt : Bool) (a : Nat) : Option Word :=
  ((List.range 16).map (fun r => s.rd ⟨.MPU_RGN, u, r⟩)).find? (fun w => regionHolds w u who mgmt a)

/-- Whether a region permits an access (R378). -/
def Acc.permitted (w : Word) : Acc → Bool
  | .read => bitOf w 61
  | .write => bitOf w 60
  | .atomic => bitOf w 61 && bitOf w 60

def Acc.writes : Acc → Bool
  | .read => false
  | _ => true

/-- Whether an address belongs to a register that only privileged seats may write and whose write by others is a violation
(R308, R344, R367, R574). -/
def privilegedOnly (who : Requester) (a : Nat) : Bool :=
  let core := (0x200000 ≤ a && a < 0x400000) || (0x2C00000 ≤ a && a < 0x2D00000) || (4 ≤ a && a < 8)
  match who with
  | .seat _ => core || (0x2000000 ≤ a && a < 0x2400000 && 8 ≤ a % 0x1000 && a % 0x1000 < 12)
  | .bar0 _ => false
  | _ => core

/-- Whether a part of an access reaches the secure region (R360, R365). -/
def inSecure (mgmt : Bool) (a : Nat) : Bool :=
  if mgmt then
    match windowOffset a with
    | some o => decide (secureBase ≤ o)
    | none => false
  else decide (secureBase ≤ a)

/-- The cause for which one part of an access is refused, the highest code where several meet (R379, R381). -/
def State.partCause (s : State) (who : Requester) (mgmt : Bool) (acc : Acc) (a : Nat) : Option Nat :=
  let u := s.unitOf who
  if mgmt ∧ acc.writes ∧ !s.isPriv who ∧ privilegedOnly who a then some 3
  else if s.flag SPD_SEC_LOCK.LOCK ∧ inSecure mgmt a ∧ !s.isPriv who then some 2
  else match s.region u who mgmt a with
    | some w => if acc.permitted w then none else some 1
    | none => if s.defaultMap u then none else some 0

/-- The addresses at which the parts of an access of len bytes begin (R341, R379). -/
def partsOf (a len : Nat) : List Nat :=
  (List.range (len / 16 + 2)).filterMap (fun k =>
    let b := if k = 0 then a else (a / 16 + k) * 16
    if b < a + len ∧ (k = 0 ∨ a < b) then some b else none)

/-- The first refused part of an access, in address order, with its cause. -/
def State.refusal (s : State) (who : Requester) (mgmt : Bool) (acc : Acc) (a len : Nat) : Option (Nat × Nat) :=
  (partsOf a len).findSome? (fun b => (s.partCause who mgmt acc b).map (fun c => (b, c)))

/-- REQ of a violation (R381). -/
def Requester.req : Requester → Nat
  | .seat n => n
  | .bar0 _ => 1
  | _ => 0

/-- A violation counted and captured (R381). -/
def State.violate (s : State) (who : Requester) (mgmt : Bool) (acc : Acc) (r : Nat × Nat) : State :=
  let u := s.unitOf who
  (s.count MPU_VCNT.CNT 1 u).capture64 ⟨.MPU_VIOL, u, 0⟩
    (wordOf (2 ^ 62 * (bit mgmt) + 2 ^ 61 * (bit acc.writes) + 2 ^ 59 * r.2 + 2 ^ 55 * who.req + r.1))

/-! The array's error protection (R363, R364) -/

/-- An uncorrectable word counted, captured and reported (R364, R370). -/
def State.spadUe (s : State) (a : Nat) (merge : Bool) : State :=
  ((s.count SPD_ECC.UE).capture64 ⟨.SPD_ECC_LOG, 0, 0⟩ (wordOf (2 ^ 62 * (bit merge) + a / 4 * 4))).report slotSpad

/-- The address of word k of an access at a. -/
def obsWord (a k : Nat) : Nat := (a / 4 + k) * 4

/-- A read of n bytes at a: the value, the state with the errors found taken in, and whether one was uncorrectable. The bytes
of an uncorrectable word are a free value. -/
def State.spadRead (s : State) (a n : Nat) (o : SpadObs) : Nat × State × Bool :=
  match o with
  | .ok => (s.load a n, s, false)
  | .ce _ => (s.load a n, s.count SPD_ECC.CE, false)
  | .ue k =>
    let w := obsWord a k
    if w < a + n then
      let (x, s1) := s.drawWord
      let bs := (List.range n).map (fun i => if (a + i) / 4 * 4 = w then byteOf x ((a + i) % 4) else s.byte (a + i))
      (natOfBytes bs, s1.spadUe w false, true)
    else (s.load a n, s, false)

/-- Whether a write of n bytes at a covers only a part of its word k, so that the port merges it (R363). -/
def mergesWord (a n k : Nat) : Bool :=
  let w := obsWord a k
  w < a + n && !(a ≤ w && w + 4 ≤ a + n)

/-- A write of bytes at a: the state, and whether a merge has dropped it (R363, R364). -/
def State.spadWrite (s : State) (a : Nat) (bs : List Byte) (o : SpadObs) : State × Bool :=
  match o with
  | .ok => (s.storeBytes a bs, false)
  | .ce k => if mergesWord a bs.length k then ((s.storeBytes a bs).count SPD_ECC.CE, false) else (s.storeBytes a bs, false)
  | .ue k =>
    if mergesWord a bs.length k then (s.spadUe (obsWord a k) true, true) else (s.storeBytes a bs, false)

/-- Whether an access waits for a wipe of the secure region (R366). -/
def State.wipeBlocks (s : State) (a len : Nat) : Bool :=
  s.flag SPD_TAMP_STS.BUSY && decide (secureBase < a + len)

/-! The secure region (R365, R366) -/

/-- The secure region filled with zeros. -/
def State.wipe (s : State) : State := { s with mem := s.mem.filter (fun c => c.1 < secureBase) }

/-- A tamper input is qualified low, once for each assertion (R366): a wipe starts, or starts again from the lowest line. -/
def execTamperAssert (input : Fin 2) (s : State) : Host.Outcome State Fault Refusal :=
  let i := input.val
  let s := if s.chip.tamper.contains i then s else { s with chip := { s.chip with tamper := s.chip.tamper ++ [i] } }
  let s := s.setFld (if i = 0 then SPD_TAMP_STS.T0_SEEN else SPD_TAMP_STS.T1_SEEN) 1
  .next ((s.setFld SPD_TAMP_STS.BUSY 1).report slotTamper)

/-- The end of a wipe: the region reads 0, and it counts in WIPES (R366, R369). -/
def State.wipeDone (s : State) : State := (s.wipe.setFld SPD_TAMP_STS.BUSY 0).count SPD_TAMP_STS.WIPES

/-- A wipe that no lifecycle change has started completes (R366). released names the tamper inputs that are high again (R473,
the cause of the tamper source). -/
def execWipeComplete (released : List (Fin 2)) (s : State) : Host.Outcome State Fault Refusal :=
  let s := { s with chip := { s.chip with tamper := s.chip.tamper.filter (fun i => !(released.map (·.val)).contains i) } }
  if s.flag SPD_TAMP_STS.BUSY ∧ s.chip.target.isNone then .next s.wipeDone else .next s

/-! FIFOs with duplicated pointers (R374, R375) -/

/-- A pointer mismatch, or a parity error in a record that is read, resets a FIFO to empty (R374). -/
def execFifoPointerReset (fifo : FifoId) (s : State) : Host.Outcome State Fault Refusal :=
  match fifo with
  | .fault =>
    let s := { s with flt := { s.flt with faultQ := [] } }
    .next (((s.fifoRegs FLT_FQ_CNT.COUNT FLT_FQ_STS.FULL 256 0).count FLT_FQ_STS.UE_PMM).report slotFaultQ)
  | .safe =>
    let s := { s with flt := { s.flt with safeQ := [] } }
    .next (((s.fifoRegs FLT_SQ_CNT.COUNT FLT_SQ_STS.FULL 32 0).count FLT_SQ_STS.UE_PMM).report slotSafeQ)
  | .tracker p =>
    if s.role p.val = 1 ∨ s.role p.val = 4 then
      let s := s.modPort p.val (fun q => { q with trackerDown := true })
      .next ((s.count PRT_EPT_STS.UE_PMM 1 p.val).report (slotTracker p.val))
    else .next s

/-- The outstanding table of a port whose tracker was reset is empty: the tracker restarts, an EPOCH that drained completes with
0, and the held requests go on (R375). -/
def execDrainTrackerRestart (port : Fin 256) (s : State) : Host.Outcome State Fault Refusal :=
  let p := port.val
  let q := s.port p
  if !q.trackerDown ∨ !q.out.isEmpty then .next s
  else
    let s := s.modPort p (fun q => { q with trackerDown := false })
    let s := match q.epochs with
      | e :: rest =>
        if e.draining.isSome then (s.modPort p (fun q => { q with epochs := rest })).finishOpt e.seat e.rd 0 else s
      | [] => s
    .next (s.replayHeld p none)

end Sys2Proof.Machine
end

