-- ==== Sys2Proof/Machine/HsfOps.lean ====
section
/-! DEFINITION. The Host Service Function (spec/16): its configuration space, error log, MSI-X vectors, transmit path and the
reset of the FLR domain. The layout of the PCIe capabilities and of AER and their resets are PCIe's, which the spec takes over by
name: PRESUMED. -/

namespace Sys2Proof.Machine

/-- A stored word of the configuration space, by its offset. -/
def State.cfg (s : State) (p off : Nat) : Nat := (s.rd ⟨.HSF_CFG, p, off / 4⟩).toNat

def State.setCfg (s : State) (p off v : Nat) : State := s.wr ⟨.HSF_CFG, p, off / 4⟩ (wordOf (v % 2 ^ 32))

/-- A bit of a stored word of the configuration space. -/
def State.cfgBit (s : State) (p off n : Nat) : Bool := bitOf (s.rd ⟨.HSF_CFG, p, off / 4⟩) n

/-- Memory Space Enable, Bus Master Enable, D3hot (R403, R404). -/
def State.mse (s : State) (p : Nat) : Bool := s.cfgBit p 4 1
def State.bme (s : State) (p : Nat) : Bool := s.cfgBit p 4 2
def State.d3hot (s : State) (p : Nat) : Bool := s.cfg p 0x44 % 4 == 3

/-- Whether an FLR is in progress (R414). -/
def State.flr (s : State) (p : Nat) : Bool := s.flag HSF_STS.FLR p

/-- Whether the engines may send requests of this HSF (R404, R414, R415). -/
def State.hsfSends (s : State) (p : Nat) : Bool := s.bme p && !s.d3hot p && !s.flr p

/-- MSI-X Enable and Function Mask (R410, R411). -/
def State.msixOn (s : State) (p : Nat) : Bool := s.cfgBit p 0x90 31
def State.msixMasked (s : State) (p : Nat) : Bool := s.cfgBit p 0x90 30

/-- A word of the MSI-X table: four words a vector, the last of which holds the mask bit, set at reset. -/
def Hsf.vec (q : Hsf) (v w : Nat) : Nat := tabGet (fun k => if k % 4 = 3 then 1 else 0) q.table (4 * v + w)

/-- Running tenant slices that hold a page of an HSF (R406). -/
def State.runningSlices (s : State) (p : Nat) : Nat :=
  ((List.range 1024).filter (fun k => s.fld SLC_STS.STATE k == 2 && s.fld SLC_CTL.HPORT k == p)).length

/-- The bits of each word of the configuration space that a write stores (R403 to R405). -/
def cfgWritable (mgr : Bool) (off : Nat) : Nat :=
  match off with
  | 0x04 => 0x546
  | 0x10 => if mgr then 0xFC000000 else 0
  | 0x14 => if mgr then 0xFFFFFFFF else 0
  | 0x18 => 0xFF800000
  | 0x1C => 0xFFFFFFFF
  | 0x3C => 0xFF
  | 0x44 => 0x3
  | 0x58 => 0x79FF
  | 0x60 => 0xFFF
  | 0x78 => 0x100F
  | 0x90 => 0xC0000000
  | 0x108 => 0x7FFFFFF
  | 0x10C => 0x7FFFFFF
  | 0x114 => 0xFFFF
  | 0x14C => 0x10000
  | _ => 0

/-- The bits of each word that a write of 1 clears: the error bits of Status, Device Status and AER. -/
def cfgW1c (off : Nat) : Nat :=
  match off with
  | 0x04 => 0xF9000000
  | 0x58 => 0xF0000
  | 0x104 => 0x7FFFFFF
  | 0x110 => 0xFFFF
  | _ => 0

/-- The bits of each word that read as the spec and PCIe fix them (R403 to R406). -/
def State.cfgFixed (s : State) (p off : Nat) : Nat :=
  let mgr := (s.hsf p).mgr
  match off with
  | 0x00 => 0x51211F3A
  | 0x04 => 0x100000
  | 0x08 => 0x088000B1
  | 0x10 => if mgr then 4 else 0
  | 0x18 => 4
  | 0x2C => (s.hsf p).subsys
  | 0x34 => 0x40
  | 0x40 => 0x35001
  | 0x44 => 8
  | 0x50 => 0x29010
  | 0x54 => 0x10008022
  | 0x5C => s.portWidth p * 16 + s.fld PRT_CTL.MAXRATE p + 1
  | 0x60 => 2 ^ 20 * (2 ^ s.fld PRT_STS.WIDTH_NEG p) + 2 ^ 16 * (s.fld PRT_STS.RATE_NEG p + 1)
  | 0x74 => 0x2000F
  | 0x90 => 0x3F0011
  | 0x94 => 0x400002
  | 0x98 => 0x401002
  | 0x100 => 0x14820001
  | 0x148 => 0x1501001B
  | 0x14C => 0x1400
  | 0x150 => 0x10023
  | 0x154 => 0x1801F3A
  | 0x158 => 1
  | 0x15C => 0xB1 * 2 ^ 24 + 2 ^ 12 * (s.feidOf p) + 2 ^ 11 * (bit mgr) + 2 ^ 10 * (bit (s.flag HSF_FW.READY p)) + p
  | 0x160 => s.runningSlices p
  | _ => 0

/-- A word of the configuration space as the host and the shadow read it (R403). A BAR0 that is not present reads 0 (R407). -/
def State.cfgRead (s : State) (p off : Nat) : Nat :=
  if (off = 0x10 ∨ off = 0x14) ∧ !(s.hsf p).mgr then 0 else s.cfg p off ||| s.cfgFixed p off

/-- A write of the configuration space: the bytes that it enables, under the masks. Initiate FLR and what a change of Bus Master
Enable does are apart (R414, R415). -/
def State.cfgWrite (s : State) (p off v : Nat) (enable : Fin 16) : State :=
  let bytes := enabledBits enable
  let rw := cfgWritable (s.hsf p).mgr off &&& bytes
  let c := cfgW1c off &&& bytes
  let w := wordOf (s.cfg p off)
  let w := (w &&& ~~~(wordOf rw)) ||| (wordOf v &&& wordOf rw)
  s.setCfg p off (w &&& ~~~(wordOf v &&& wordOf c)).toNat

/-- An uncorrectable error recorded in AER and signalled where it is not masked and reporting is enabled (R418). -/
def State.aer (s : State) (p b : Nat) : State :=
  let fatal := s.cfgBit p 0x10C b
  let on := s.cfgBit p 4 8 || s.cfgBit p 0x58 (if fatal then 2 else 1)
  let masked := s.cfgBit p 0x108 b
  let s := s.setCfg p 0x104 (s.cfg p 0x104 ||| 2 ^ b)
  let s := s.setCfg p 0x58 (s.cfg p 0x58 ||| (if fatal then 0x40000 else 0x20000))
  if on ∧ !masked then s.emit (.pcieError p b) else s

/-- An uncorrectable error of advisory kind (R418): where its severity is non-fatal, the role-based reporting of R405 records it as
an advisory correctable error, as PCIe gives (PRESUMED, log 64); where it is fatal, it is reported as any other. -/
def State.aerAdvisory (s : State) (p b : Nat) : State :=
  if s.cfgBit p 0x10C b then s.aer p b
  else
    let told := s.cfgBit p 0x58 0 && !s.cfgBit p 0x114 13 && !s.cfgBit p 0x108 b
    let s := s.setCfg p 0x104 (s.cfg p 0x104 ||| 2 ^ b)
    let s := s.setCfg p 0x110 (s.cfg p 0x110 ||| 2 ^ 13)
    let s := s.setCfg p 0x58 (s.cfg p 0x58 ||| 0x10000)
    if told then s.emit (.pcieCorrectable p) else s

/-- The AER bits of R418. -/
def aerPoisoned : Nat := 12
def aerTimeout : Nat := 14
def aerAbort : Nat := 15
def aerUnexpected : Nat := 16
def aerMalformed : Nat := 18
def aerUnsupported : Nat := 20
def aerInternal : Nat := 22

/-- HSF_ERR_LOG (R422). -/
def State.hsfLog (s : State) (p cause addr : Nat) : State :=
  s.capture64 ⟨.HSF_ERR_LOG, p, 0⟩ (wordOf (2 ^ 59 * cause + addr % 2 ^ 56))

/-! The transmit path: what is handed to it leaves in order -/

/-- Everything handed to transmit is sent. -/
def State.hsfDrain (s : State) (p : Nat) : State :=
  let t := (s.hsf p).tx
  (s.modHsf p (fun q => { q with tx := [] })).each t (fun s x => s.emit (.hsf p x))

/-- A request TLP handed to transmit. -/
def State.hsfHand (s : State) (p : Nat) (t : HsfTlp) : State := s.modHsf p (fun q => { q with tx := q.tx ++ [t] })

/-! MSI-X (R410, R411) -/

/-- Whether a vector's message may go (R411). -/
def State.vecClear (s : State) (p v : Nat) : Bool :=
  s.msixOn p && !s.msixMasked p && (s.hsf p).vec v 3 % 2 == 0 && s.hsfSends p

/-- A vector's message (R411). -/
def State.sendVec (s : State) (p v : Nat) : State :=
  let q := s.hsf p
  (s.hsfDrain p).hsfHand p (.msix (q.vec v 0 + 2 ^ 32 * (q.vec v 1)) (q.vec v 2))

/-- The raise of a vector (R411). -/
def State.raise (s : State) (p v : Nat) : State :=
  if !s.msixOn p then s.setFld HSF_STS.IRQ_DROP 1 p
  else if (s.hsf p).pba.contains v then s
  else if s.vecClear p v then s.sendVec p v
  else s.modHsf p (fun q => { q with pba := q.pba ++ [v] })

/-- Every condition holds for a pending vector: its message is sent and its bit cleared (R411). -/
def execMsixPendingSend (port : Fin 256) (vec : Fin 64) (s : State) : Host.Outcome State Fault Refusal :=
  let p := port.val
  let v := vec.val
  if (s.hsf p).pba.contains v ∧ s.vecClear p v then
    .next ((s.modHsf p (fun q => { q with pba := q.pba.filter (· != v) })).sendVec p v)
  else .next s

/-! Engines as an HSF stops them (R414, R415) -/

/-- The end of a DMA engine's descriptor: its status, the bytes written, its event (R355, R356). -/
def State.dmaEnd (s : State) (e status : Nat) : State :=
  let d := s.dma e
  let s := s.setDma e { d with desc := none, reads := [], next := 0 }
  let s := (s.setFld ICF_DMA_STS.BUSY 0 e).setFld ICF_DMA_STS.LAST status e
  s.post 0x60 e (2 ^ 24 * status + s.fld ICF_DMA_CNT.BYTES e)

/-- The engines whose descriptor names a host port. -/
def State.enginesOf (s : State) (p : Nat) : List Nat :=
  (List.range 4).filter (fun e =>
    match (s.dma e).desc with
    | some d => (d.skind == 2 || d.dkind == 2) && d.hport == p
    | none => false)

/-! Function-level reset (R414, R441) -/

/-- The words of the configuration space that PCIe keeps over an FLR: the sticky registers of AER. -/
def cfgSticky (j : Nat) : Bool := decide (0x104 / 4 ≤ j) && decide (j ≤ 0x128 / 4)

/-- The mailbox page of a tenant slice cleared (R432, R441). -/
def State.clearMailbox (s : State) (k : Nat) : State :=
  { s.wr ⟨.SLC_MB_STS, k, 0⟩ 0 with
    regs := (s.wr ⟨.SLC_MB_STS, k, 0⟩ 0).regs.filter (fun e =>
      !((e.1.r == Reg.SLC_MB_CA || e.1.r == Reg.SLC_MB_RA) && e.1.i == k)) }

/-- The reset of the FLR domain of an HSF and the end of its FLR (R414 step 5, R441). -/
def State.flrReset (s : State) (p : Nat) : State :=
  let s := s.hsfDrain p
  let s := { s with regs := s.regs.filter (fun e => !(e.1.r == Reg.HSF_CFG && e.1.i == p && !cfgSticky e.1.j)) }
  let s := s.modHsf p (fun q => { q with table := [], pba := [] })
  let s := s.setFld HSF_STS.FLR 0 p
  let mine := fun (r : NocReq) => r.who == Requester.bar0 p
  let s := { s with noc := { s.noc with
    outstanding := s.noc.outstanding.filter (fun r => !mine r),
    relayed := s.noc.relayed - (s.noc.outstanding.filter (fun r => mine r && r.relayed)).length } }
  s.each ((List.range 1024).filter (fun k => s.fld SLC_STS.STATE k != 0 && s.fld SLC_CTL.HPORT k == p))
    (fun s k => s.clearMailbox k)

/-- A write of HSF_CMD (R411, R414, R416, R420). -/
def writeHsfCmd (s : State) (p : Nat) (v : Word) : State :=
  if s.fld PRT_CTL.ROLE p ≠ 1 then s
  else
    let s := if bitOf v 31 ∧ s.flr p then s.flrReset p else s
    let s := if bitOf v 30 ∧ s.bme p ∧ !s.d3hot p then
        s.each (List.range 4) (fun s e =>
          if (s.dma e).paused = some p then (s.setDma e { s.dma e with paused := none }).setFld ICF_DMA_STS.PAUSED 0 e else s)
      else s
    if bitOf v 29 then s.raise p (bitsOf v 5 0) else s

/-- A write of HSF_CTL (R419): a write that sets MGR while another port's is 1, or while the function is not Stopped, is
ignored. -/
def writeHsfCtl (s : State) (p : Nat) (v : Word) : State :=
  if s.fld PRT_CTL.ROLE p = 1 ∧ (s.fn (fidPort p)).run ≠ .stopped then s
  else if bitOf v 31 ∧ (List.range 256).any (fun q => q != p && s.flag HSF_CTL.MGR q) then s
  else s.setFld HSF_CTL.MGR (bitsOf v 31 31) p

/-- A write of HSF_SUBSYS (R419). -/
def writeHsfSubsys (s : State) (p : Nat) (v : Word) : State :=
  if s.fld PRT_CTL.ROLE p = 1 ∧ (s.fn (fidPort p)).run ≠ .stopped then s else s.wr ⟨.HSF_SUBSYS, p, 0⟩ (lowHalf v)

end Sys2Proof.Machine
end

