-- ==== Sys2Proof/Machine/Slices.lean ====
section
/-! DEFINITION. Tenant slices: creation, deletion, start, and the mailbox (spec/17). -/

namespace Sys2Proof.Machine

/-- The island of core control 1 (R382), in which mailbox events count (R499). -/
def islandMailbox : Nat := islandPlane 8

/-- Whether a slice has been created. -/
def State.sliceMade (s : State) (k : Nat) : Bool := s.fld SLC_STS.STATE k != 0

/-- The meters that a created slice holds (R424). -/
def State.claims (s : State) (k : Nat) : List Nat := tabGet (fun _ => []) s.tm.claims k

def State.setClaims (s : State) (k : Nat) (l : List Nat) : State :=
  { s with tm := { s.tm with claims := tabSet id (fun _ => []) s.tm.claims k l } }

/-- The meters that SLC_MTR names (R428). -/
def State.namedMeters (s : State) (k : Nat) : List Nat := ((List.range 4).filterMap (s.meterFor k)).eraseDups

/-- The first meter class whose meter another created slice holds (R424), with the meter. -/
def State.meterTaken (s : State) (k : Nat) : Option (Nat × Nat) :=
  (List.range 4).findSome? (fun c =>
    match s.meterFor k c with
    | some m => if s.tm.claims.any (fun e => e.1 != k && e.2.contains m) then some (c, m) else none
    | none => none)

/-- The other created slices of the same HSF. -/
def State.siblings (s : State) (k : Nat) : List Nat :=
  (List.range 1024).filter (fun j => j != k && s.sliceMade j && s.fld SLC_CTL.HPORT j == s.fld SLC_CTL.HPORT k)

/-- The cause for which creation is refused (R427, R429), with the meter concerned. -/
def State.createCause (s : State) (k : Nat) : Option (Nat × Nat) :=
  if s.role (s.fld SLC_CTL.HPORT k) ≠ 1 then some (0, 0)
  else if (s.siblings k).any (fun j => s.fld SLC_CTL.PASID j == s.fld SLC_CTL.PASID k) then some (1, 0)
  else if (s.siblings k).any (fun j => s.fld SLC_CTL.PAGE j == s.fld SLC_CTL.PAGE k) then some (2, 0)
  else match s.meterTaken k with
    | some (_, m) => some (3, m)
    | none => if 59 < s.fld SLC_TM.EQ k then some (4, 0) else none

/-- A command refused (R427): ERR, CAUSE and METER are set unless ERR is. -/
def State.sliceErr (s : State) (k cause meter : Nat) : State :=
  if s.flag SLC_STS.ERR k then s
  else ((s.setFld SLC_STS.ERR 1 k).setFld SLC_STS.CAUSE cause k).setFld SLC_STS.METER meter k

/-- Whether an active slice map names a slice (R432). -/
def State.sliceMapped (s : State) (k : Nat) : Bool :=
  s.ports.any (fun e => e.2.ext.any (fun a => a.slice == some k) || e.2.rext.any (fun a => a.slice == some k))

/-- The staged selections of a slice's counters taken in force (R500). -/
def State.applySsel (s : State) (k : Nat) : State :=
  s.each (List.range 4) (fun s j =>
    { s with pmc := { s.pmc with ssel := tabSet id (fun _ => 0) s.pmc.ssel (4 * k + j) (s.rd ⟨.PMC_SSEL, k, j⟩) } })

/-- A write of SLC_CMD (R426, R429, R432, R489). -/
def writeSlcCmd (s : State) (k : Nat) (v : Word) : State :=
  let st := s.fld SLC_STS.STATE k
  match bitsOf v 2 0 with
  | 0 => s
  | 1 =>
    if st ≠ 0 ∨ s.safe then s.sliceErr k 6 0
    else match s.createCause k with
      | some (c, m) => s.sliceErr k c m
      | none =>
        let ms := s.namedMeters k
        let s := (s.setClaims k ms).each ms (fun s m => s.fillMeter m)
        let s := ((s.wr ⟨.SLC_MB_STS, k, 0⟩ 0).setFn (fidTenant k) { run := .stopped }).applySsel k
        (s.each (List.range 4) (fun s j => s.wr ⟨.PMC_SCNT, k, j⟩ 0)).setFld SLC_STS.STATE 1 k
  | 2 =>
    if st = 0 then s
    else if st ≠ 1 then s.sliceErr k 6 0
    else if s.sliceMapped k then s.sliceErr k 5 0
    else
      let s := ((s.setClaims k []).clearMailbox k).setFn (fidTenant k) { run := .stopped }
      let s := (s.wr ⟨.SLC_MTR, k, 0⟩ 0).wr ⟨.SLC_TM, k, 0⟩ 0
      s.setFld SLC_STS.STATE 0 k
  | _ => s.sliceErr k 6 0

/-- The result word of the checks of STARTF on a created slice (R430). -/
def State.sliceCheck (s : State) (k : Nat) : Word :=
  match s.meterTaken k with
  | some (c, m) => resultWord 0x20 c m
  | none =>
    if 59 < s.fld SLC_TM.EQ k then resultWord 0x21 0 (s.fld SLC_TM.EQ k)
    else if s.flr (s.fld SLC_CTL.HPORT k) then resultWord 0x22 0 (s.fld SLC_CTL.HPORT k)
    else 0

/-- A slice taken to Running (R429, R431, R435). -/
def State.sliceStart (s : State) (k : Nat) : State :=
  let old := s.claims k
  let ms := s.namedMeters k
  let s := (s.setClaims k ms).each ms (fun s m => if old.contains m then s.applyMeter m else s.fillMeter m)
  let s := (s.applySsel k).setFld SLC_STS.STATE 2 k
  if s.flag SLC_MB_STS.PEND k then (s.setFld SLC_MB_STS.PEND 0 k).post 0x52 k 0 else s

/-! The mailbox (R433 to R437) -/

/-- A doorbell that reaches a created slice (R435). -/
def State.doorbell (s : State) (k tag : Nat) : State :=
  if !s.sliceMade k then s
  else if s.fld SLC_MB_STS.STATE k = 1 then
    (s.setFld SLC_MB_STS.DB_LOST 1 k).tenantEvent islandMailbox k 0x09
  else
    let s := ((s.setFld SLC_MB_STS.STATE 1 k).setFld SLC_MB_STS.TAG tag k).tenantEvent islandMailbox k 0x08
    let s := (s.setFld SLC_MB_STS.DB_LOST 0 k).setFld SLC_MB_STS.WLOCK 0 k
    if s.fld SLC_STS.STATE k = 2 then s.post 0x52 k 0 else s.setFld SLC_MB_STS.PEND 1 k

/-- DOORBELL: a doorbell write of a tenant reaches core control 1. -/
def execDoorbell (slice : Fin 1024) (tag : Fin 65536) (s : State) : Host.Outcome State Fault Refusal :=
  .next (s.doorbell slice.val tag.val)

/-- Bytes written into the command area of a created slice, from an offset below 0x100 (R433). -/
def State.commandWrite (s : State) (k off : Nat) (bs : List Byte) : State :=
  if !s.sliceMade k then s
  else if s.fld SLC_MB_STS.STATE k = 1 then s.setFld SLC_MB_STS.WLOCK 1 k
  else s.each (bs.zipIdx) (fun s b =>
    let a := off + b.2
    if a < 256 then
      let key : RKey := ⟨.SLC_MB_CA, k, a / 4⟩
      s.wr key (putBits (s.rd key) (8 * (a % 4) + 7) (8 * (a % 4)) b.1.toNat)
    else s)

/-- COMMAND_AREA_WRITE: a write of a tenant reaches the command area. -/
def execCommandAreaWrite (slice : Fin 1024) (off : Fin 256) (bytes : List Byte) (s : State) :
    Host.Outcome State Fault Refusal :=
  .next (s.commandWrite slice.val off.val bytes)

/-- A write of SLC_MB_DONE (R435, R441). -/
def writeMbDone (s : State) (k : Nat) (v : Word) : State :=
  let p := s.fld SLC_CTL.HPORT k
  if !bitOf v 31 ∨ s.fld SLC_MB_STS.STATE k ≠ 1 ∨ s.flr p then s
  else
    let s := s.setFld SLC_MB_STS.STATE 2 k
    if bitOf v 30 then s.raise p (s.fld SLC_TM.VEC k) else s

/-- A write of SLC_CTL is taken while the slice is Free, one of SLC_MTR or SLC_TM while it is not Running (R425, R428). -/
def writeSlcSetting (s : State) (key : RKey) (v : Word) : State :=
  let st := s.fld SLC_STS.STATE key.i
  let taken := if key.r = .SLC_CTL then st == 0 else st != 2
  if taken then s.wr key (v &&& wordOf key.r.row.rw) else s

end Sys2Proof.Machine
end

