-- ==== Sys2Proof/Machine/Bay.lean ====
section
/-! DEFINITION. Bay power and hot plug (spec/18): samples, estimates, trips, ramps, states, commands and lights. -/

namespace Sys2Proof.Machine

/-- Bay states (R471). -/
def bayEmpty : Nat := 0
def bayPresent : Nat := 1
def bayRamping : Nat := 2
def bayOn : Nat := 3
def bayTripped : Nat := 4
def bayCooling : Nat := 5
def bayIsOff : Nat := 6
def bayDamaged : Nat := 7

def State.bayState (s : State) (k : Nat) : Nat := s.fld BAY_STS.STATE k

/-- Whether the bay controller runs (R538). -/
def State.bayAlive (s : State) : Bool := !s.flag GLB_PWR_STS.BAY_LOCK

/-- Whether the bay controller has taken the safe notice (R487, R459). -/
def State.baySafe (s : State) : Bool := s.safe && !s.flt.notices.bay

/-- The registers of the settings, by 0 to 4 (R458). -/
def baySetting (j : Nat) : Reg :=
  match j with
  | 0 => .BAY_CFG
  | 1 => .BAY_LIM
  | 2 => .BAY_VWIN
  | 3 => .BAY_MODEL
  | _ => .BAY_FB

/-- The settings in force of a bay (R458). -/
def Bay.set (q : Bay) (j : Nat) : Word := tabGet (fun j => RKey.reset ⟨baySetting j, 0, 0⟩) q.inForce j

/-- The staged settings taken in force (R458). -/
def State.bayApply (s : State) (k : Nat) : State :=
  s.each (List.range 5) (fun s j =>
    s.modBay k (fun q => { q with
      inForce := tabSet id (fun j => RKey.reset ⟨baySetting j, 0, 0⟩) q.inForce j (s.rd ⟨baySetting j, k, 0⟩) }))

/-- EV_BAY (R464). -/
def State.bayEvent (s : State) (k reason cause new old : Nat) : State :=
  s.post 0x40 k (2 ^ 24 * reason + 2 ^ 8 * cause + new * 16 + old)

/-- EV_BAY for what changes no state. -/
def State.bayNote (s : State) (k reason : Nat) : State := s.bayEvent k reason 0 (s.bayState k) (s.bayState k)

/-- A near miss of a bay (R465, R506). -/
def State.bayNm (s : State) (k : Nat) (tie : Bool) : State :=
  if tie then (s.count BAY_NM_CNT.CNT 1 k).nearMiss islandBay else s

/-! Gates -/

def State.auxOn (s : State) (k : Nat) : Bool := s.flag BAY_STS.AUXON k

/-- Whether a feed (0 A, 1 B, 2 X) has its gate commanded on. -/
def State.gate (s : State) (k f : Nat) : Bool :=
  match f with
  | 0 => (s.bay k).gateA
  | 1 => (s.bay k).gateB
  | _ => s.auxOn k

/-- A gate commanded on, which releases its comparator (R446), or off. -/
def State.setGate (s : State) (k f : Nat) (on : Bool) : State :=
  let s := if on then s.modBay k (fun q => { q with latched := q.latched.filter (· != f) }) else s
  match f with
  | 0 => s.modBay k (fun q => { q with gateA := on })
  | 1 => s.modBay k (fun q => { q with gateB := on })
  | _ => s.setFld BAY_STS.AUXON (bit on) k

def State.gatesOff (s : State) (k : Nat) : State := ((s.setGate k 0 false).setGate k 1 false).setGate k 2 false

def State.feedOn (s : State) (k : Nat) : Bool := s.gate k 0 || s.gate k 1 || s.gate k 2

/-- A move of a bay to a state; power-good falls when it leaves On (R450). -/
def State.bayMove (s : State) (k st : Nat) : State := (s.setFld BAY_STS.PG (bit (st == bayOn)) k).setFld BAY_STS.STATE st k

/-- A move to Off, every gate off (R454, R455). -/
def State.bayTurnOff (s : State) (k why : Nat) : State :=
  ((s.gatesOff k).setFld BAY_STS.OFFWHY why k).bayMove k bayIsOff

/-! Samples and estimates (R443 to R445) -/

/-- The FET power of a feed in µW, 0 while its gate is off (R444). -/
def feedPower (o : FeedObs) (on : Bool) : Int := if on then ((o.drain : Int) - o.source) * o.current else 0

/-- One tick of a stage of the electro-thermal model (R444): its value t moved by the change d over the time constant tau. With a
time constant of 0, which a feed with a fitted sensor may have, the result is a free value. -/
def stageTick (board : Bool) (t d : Int) (tau : Nat) : Int := if tau = 0 then Config.noTau board d t else t + d / tau

/-- One tick of the electro-thermal model (R444), rounded to millionths of a degree: DESIGN CHOICE (log entry 83). -/
def FeedSt.tick (m : Word) (p : Int) (q : FeedSt) : FeedSt :=
  { q with
    t1 := stageTick false q.t1 (p * bitsOf m 15 0 / 1000 - q.t1) (10 * bitsOf m 31 16)
    t2 := stageTick true q.t2 (p * bitsOf m 47 32 / 100 - q.t2) (1000 * bitsOf m 63 48) }

/-- n ticks with the same samples. -/
def FeedSt.ticks (m : Word) (p : Int) : Nat → FeedSt → FeedSt
  | 0, q => q
  | n + 1, q => FeedSt.ticks m p n (q.tick m p)

/-- The source of a feed's estimate (R444): 0 sensor, 1 model, 2 fallback. -/
def feedSource (fitted : Bool) (o : FeedObs) (amb : Option Int) : Nat :=
  if fitted ∧ o.diode.isSome then 0 else if o.ok ∧ amb.isSome then 1 else 2

/-- A feed's estimate in thousandths of a degree, none in fallback (R444). -/
def feedEstimate (src : Nat) (q : FeedSt) (o : FeedObs) (amb : Option Int) : Option Int :=
  match src with
  | 0 => o.diode
  | 1 => amb.map (fun t => t + (q.t1 + q.t2) / 1000)
  | _ => none

/-- The coding of temperatures, (°C + 40) × 4 (R472, R547). -/
def tempCode (t : Int) : Nat := min 1023 ((t + 40000) / 250).toNat

/-- The current limit in mA that the loop of each 12 V feed enforces (R446). -/
def State.loopLimit (s : State) (k : Nat) : Nat :=
  let w := (s.bay k).set 1
  250 * (if s.bayState k = bayRamping then bitsOf w 47 40 else bitsOf w 55 48)

/-- Whether a 12 V feed is held at its current limit: its loop regulates, or its current has reached the limit (R446, R458). -/
def State.atLimit (s : State) (k : Nat) (o : FeedObs) : Bool := o.limited || decide ((s.loopLimit k : Int) ≤ o.current)

/-- One feed's state after the samples: the model, and the energy while the feed ramps or is held (R445). -/
def FeedSt.after (m : Word) (o : FeedObs) (on ramping limited : Bool) (dt : Nat) (q : FeedSt) : FeedSt :=
  let p := feedPower o on
  let q := if o.ok then FeedSt.ticks m p dt q else q
  { q with energy := if ramping ∨ limited then q.energy + p.toNat * dt else 0 }

/-- The samples of a bay taken in (R443, R444, R472). The estimate of a feed in fallback stays as it was last reported. -/
def State.sample (s : State) (k : Nat) (o : BayObs) : State :=
  let q := s.bay k
  let m := q.set 3
  let ramping := s.bayState k == bayRamping
  let a := q.a.after m o.a q.gateA (ramping && q.gateA) (q.gateA && s.atLimit k o.a) o.dt
  let b := q.b.after m o.b q.gateB (ramping && q.gateB) (q.gateB && s.atLimit k o.b) o.dt
  let s := s.setBay k { q with a := a, b := b, vo := o.vo, vox := o.vox, rested := o.rested }
  let put := fun (s : State) (f : Fld) (t : Option Int) =>
    match t with
    | some t => s.setFld f (tempCode t) k
    | none => s
  let s := put s BAY_MEAS.TA (feedEstimate (s.fld BAY_STS.ESTA k) a o.a o.amb)
  let s := put s BAY_MEAS.TB (feedEstimate (s.fld BAY_STS.ESTB k) b o.b o.amb)
  let s := (s.setFld BAY_MEAS.VO (min 4095 (o.vo / 10)) k).setFld BAY_MEAS.IX (min 255 (o.ix / 25)) k
  let s := (s.setFld BAY_MEAS.IA (intField 12 (o.a.current / 25)) k).setFld BAY_MEAS.IB (intField 12 (o.b.current / 25)) k
  match o.amb with
  | some t => (s.setFld BAY_AMB.TEMP (tempCode t)).setFld BAY_AMB.VLD 1
  | none => s.setFld BAY_AMB.VLD 0

/-- A feed's estimate source and its estimate as last sampled (R471, R472). -/
def State.estSource (s : State) (k f : Nat) : Nat := s.fld (if f = 0 then BAY_STS.ESTA else BAY_STS.ESTB) k
def State.estCode (s : State) (k f : Nat) : Nat := s.fld (if f = 0 then BAY_MEAS.TA else BAY_MEAS.TB) k

/-- Whether a feed has an estimate at or above, or below, a temperature in °C. -/
def State.estAtLeast (s : State) (k f t : Nat) : Bool := s.estSource k f != 2 && decide ((t + 40) * 4 ≤ s.estCode k f)

/-- Whether a 12 V feed counts as cooled (R457). -/
def State.cooled (s : State) (k f : Nat) : Bool :=
  if s.estSource k f = 2 then s.fld BAY_HOLD.HOLD k == 0 && (s.bay k).rested
  else decide (s.estCode k f < (bitsOf ((s.bay k).set 1) 23 16 + 40) * 4)

/-! Trips (R446 to R448) -/

/-- The hold-off in ms (R466). A reserved code is never in force. -/
def holdMs (code : Nat) : Nat :=
  match code with
  | 0 => 100
  | 1 => 200
  | 2 => 500
  | 3 => 1000
  | 4 => 2000
  | 5 => 5000
  | 6 => 10000
  | 7 => 20000
  | _ => 60000

/-- A trip (R448, R454). -/
def State.trip (s : State) (k cause : Nat) : State :=
  if !s.feedOn k ∨ s.bayState k = bayDamaged then s
  else
    let old := s.bayState k
    let s := (s.setGate k 0 false).setGate k 1 false
    let s := if cause = 3 then s.setGate k 2 false else s
    let s := ((s.setFld BAY_STS.TCAUSE cause k).count BAY_STS.RETRY 1 k).count BAY_TRIP_CNT.CNT 1 k
    let s := (s.setFld BAY_HOLD.HOLD (holdMs (bitsOf ((s.bay k).set 0) 23 20)) k).bayMove k bayTripped
    (s.bayEvent k 1 cause bayTripped old).report (slotBay k)

/-- COMPARATOR_TRIP: the comparator of a feed pulls its gate low and latches, without the controller (R446). -/
def execComparatorTrip (bay : Fin 32) (feed : Fin 3) (s : State) : Host.Outcome State Fault Refusal :=
  let k := bay.val
  if s.gate k feed.val ∧ !(s.bay k).latched.contains feed.val then
    .next (s.modBay k (fun q => { q with latched := q.latched ++ [feed.val] }))
  else .next s

/-- COMPARATOR_TRIP_TAKEN: on its next tick the controller takes a latched comparator as a trip, a feed before a later one
(R446, R448). -/
def execComparatorTripTaken (bay : Fin 32) (tie : Bool) (s : State) : Host.Outcome State Fault Refusal :=
  let k := bay.val
  if !s.bayAlive then .next s
  else match [0, 1, 2].find? (fun f => (s.bay k).latched.contains f && s.gate k f) with
    | some f => .next ((s.trip k (f + 1)).bayNm k tie)
    | none => .next s

/-- Whether the fault timer of the 12 V feeds, or of feed X, runs on a tick with these samples (R447). -/
def State.timerRuns (s : State) (k : Nat) (feedX : Bool) (o : BayObs) : Bool :=
  let w := (s.bay k).set 2
  if feedX then
    s.gate k 2 && (o.xLimited || decide (25 * bitsOf ((s.bay k).set 1) 39 32 ≤ o.ix) || decide (o.vox < 20 * bitsOf w 7 0))
  else
    (s.gate k 0 && s.atLimit k o.a) || (s.gate k 1 && s.atLimit k o.b) ||
      (s.bayState k == bayOn && (decide (o.vo < 100 * bitsOf w 23 16) || decide (100 * bitsOf w 15 8 < o.vo)))

/-- FAULT_TIMER_EXPIRY: the fault timer of the 12 V feeds or of feed X reaches TFLT, its condition present (R447). R471 gives a
feed X timer cause 0x3. -/
def execFaultTimerExpiry (bay : Fin 32) (feedX tie : Bool) (o : BayObs) (s : State) : Host.Outcome State Fault Refusal :=
  let k := bay.val
  if s.bayAlive ∧ s.timerRuns k feedX o then .next (((s.sample k o).trip k (if feedX then 3 else 4)).bayNm k tie) else .next s

/-- OVER_TEMPERATURE_TRIP: an estimate at or above TMAX (R446). -/
def execOverTemperatureTrip (bay : Fin 32) (o : BayObs) (tie : Bool) (s : State) : Host.Outcome State Fault Refusal :=
  let k := bay.val
  if !s.bayAlive then .next s
  else
    let s := s.sample k o
    let t := bitsOf ((s.bay k).set 1) 31 24
    if s.estAtLeast k 0 t ∨ s.estAtLeast k 1 t then .next ((s.trip k 5).bayNm k tie) else .next s

/-- Whether a feed in fallback exceeds a fallback limit (R445). -/
def overFallback (w : Word) (src : Nat) (o : FeedObs) (q : FeedSt) (on : Bool) : Bool :=
  src == 2 && (decide ((250 * bitsOf w 31 24 : Nat) < o.current) || decide ((1000000 * bitsOf w 23 16 : Nat) < feedPower o on) ||
    decide (bitsOf w 15 8 * 10 ^ 11 < q.energy))

/-- FALLBACK_LIMIT_TRIP (R445). -/
def execFallbackLimitTrip (bay : Fin 32) (o : BayObs) (tie : Bool) (s : State) : Host.Outcome State Fault Refusal :=
  let k := bay.val
  if !s.bayAlive then .next s
  else
    let s := s.sample k o
    let q := s.bay k
    let w := q.set 4
    if overFallback w (s.estSource k 0) o.a q.a q.gateA ∨ overFallback w (s.estSource k 1) o.b q.b q.gateB then
      .next ((s.trip k 6).bayNm k tie)
    else .next s

/-- One feed's estimate source changed (R445). -/
def State.setSource (s : State) (k : Nat) (f : Fld) (src : Nat) : State :=
  if s.fld f k = src then s else ((s.setFld f src k).bayNote k 5).report (slotBay k)

/-- ESTIMATE_SOURCE_CHANGE (R444, R445). -/
def execEstimateSourceChange (bay : Fin 32) (o : BayObs) (s : State) : Host.Outcome State Fault Refusal :=
  let k := bay.val
  if !s.bayAlive then .next s
  else
    let w := (s.bay k).set 0
    let s := s.setSource k BAY_STS.ESTA (feedSource (bitOf w 31) o.a o.amb)
    .next ((s.setSource k BAY_STS.ESTB (feedSource (bitOf w 30) o.b o.amb)).sample k o)

/-! Ramps and power-good (R449, R450, R454) -/

/-- RAMP_TIMEOUT: 200 ms after its ramp began a bay has not reached On (R449). -/
def execRampTimeout (bay : Fin 32) (tie : Bool) (s : State) : Host.Outcome State Fault Refusal :=
  let k := bay.val
  if s.bayAlive ∧ s.bayState k = bayRamping then .next ((s.trip k 7).bayNm k tie) else .next s

/-- RAMP_HOLD: an estimate at or above TRAMP stops the raising of the gates (R449). -/
def execRampHold (bay : Fin 32) (o : BayObs) (s : State) : Host.Outcome State Fault Refusal :=
  let k := bay.val
  if !s.bayAlive then .next s
  else
    let s := s.sample k o
    let t := bitsOf ((s.bay k).set 1) 15 8
    if (s.bayState k = bayRamping ∨ s.bayState k = bayOn) ∧ (s.estAtLeast k 0 t ∨ s.estAtLeast k 1 t) then
      .next (s.modBay k (fun q => { q with held := true }))
    else .next s

/-- RAMP_RESUME: every estimate has fallen to TRAMP − 5 °C (R449). -/
def execRampResume (bay : Fin 32) (o : BayObs) (s : State) : Host.Outcome State Fault Refusal :=
  let k := bay.val
  if !s.bayAlive then .next s
  else
    let s := s.sample k o
    let t := (bitsOf ((s.bay k).set 1) 15 8 - 5 + 40) * 4
    let low := fun f => s.estSource k f == 2 || decide (s.estCode k f ≤ t)
    if (s.bay k).held ∧ low 0 ∧ low 1 then .next (s.modBay k (fun q => { q with held := false })) else .next s

/-- POWER_GOOD: BAY_VO, in mV, has stayed in its window for 2 ms with the 12 V fault timer idle (R450). Where the timer starts on
that tick, power-good is withheld (R465). -/
def execPowerGood (bay : Fin 32) (vo : Fin 65536) (timerStarts : Bool) (s : State) : Host.Outcome State Fault Refusal :=
  let k := bay.val
  let w := (s.bay k).set 2
  if !s.bayAlive ∨ s.bayState k ≠ bayRamping then .next s
  else if vo.val < bitsOf w 23 16 * 100 ∨ bitsOf w 15 8 * 100 < vo.val then .next s
  else if timerStarts then .next (s.bayNm k true)
  else .next (((s.modBay k (fun q => { q with vo := vo.val })).bayMove k bayOn).bayEvent k 1 0 bayOn bayRamping)

/-- A ramp begins: both 12 V gates are raised, but for a feed whose input is lost, and feed X where it waited (R449, R455). -/
def State.rampBegin (s : State) (k : Nat) : State :=
  let lost := (s.bay k).lost
  let s := s.each [0, 1] (fun s f => if lost.contains f then s else s.setGate k f true)
  let s := s.setGate k 2 true
  (s.modBay k (fun q => { q with held := false, fromTrip := false })).bayMove k bayRamping

/-- RAMP_BEGIN: the hold-off of a Cooling bay has ended and its feeds have cooled (R454, R457, R459). -/
def execRampBegin (bay : Fin 32) (o : BayObs) (s : State) : Host.Outcome State Fault Refusal :=
  let k := bay.val
  if !s.bayAlive then .next s
  else
    let s := s.sample k o
    if s.bayState k = bayCooling ∧ s.fld BAY_HOLD.HOLD k = 0 ∧ s.cooled k 0 ∧ s.cooled k 1 ∧ !s.baySafe then
      .next (s.rampBegin k)
    else .next s

/-- HOLD_OFF_EXPIRY: BAY_HOLD reaches 0 (R448, R454). -/
def execHoldOffExpiry (bay : Fin 32) (s : State) : Host.Outcome State Fault Refusal :=
  let k := bay.val
  if !s.bayAlive ∨ s.fld BAY_HOLD.HOLD k = 0 then .next s
  else
    let s := s.setFld BAY_HOLD.HOLD 0 k
    if s.bayState k ≠ bayTripped then .next s
    else if s.fld BAY_STS.RETRY k ≤ bitsOf ((s.bay k).set 0) 26 24 then
      .next ((s.modBay k (fun q => { q with fromTrip := true })).bayMove k bayCooling)
    else .next (((s.setFld BAY_STS.OFFWHY 2 k).bayMove k bayIsOff).bayEvent k 1 2 bayIsOff bayTripped)

/-- ON_RETRY_RESET: 10 s in On (R454). -/
def execOnRetryReset (bay : Fin 32) (s : State) : Host.Outcome State Fault Refusal :=
  let k := bay.val
  if s.bayAlive ∧ s.bayState k = bayOn then .next (s.setFld BAY_STS.RETRY 0 k) else .next s

/-! Presence and the button (R454, R463) -/

/-- PRESENCE_QUALIFIED: PRSNT_N has been low for 64 ms (R454). -/
def execPresenceQualified (bay : Fin 32) (s : State) : Host.Outcome State Fault Refusal :=
  let k := bay.val
  let st := s.bayState k
  if !s.bayAlive ∨ s.flag BAY_STS.PRSNT k then .next s
  else if st = bayEmpty then
    .next (((s.setFld BAY_STS.PRSNT 1 k).bayMove k bayPresent).bayEvent k 1 0 bayPresent bayEmpty)
  else if st = bayDamaged then .next ((s.setFld BAY_STS.PRSNT 1 k).bayNote k 1)
  else .next s

/-- PRESENCE_LOST: PRSNT_N high on two ticks (R454). A bay that leaves Damaged without a sled has PRSNT 0 and yet becomes Empty. -/
def execPresenceLost (bay : Fin 32) (tie : Bool) (s : State) : Host.Outcome State Fault Refusal :=
  let k := bay.val
  let st := s.bayState k
  if !s.bayAlive ∨ (!s.flag BAY_STS.PRSNT k ∧ (st = bayEmpty ∨ st = bayDamaged)) then .next s
  else
    let s := s.setFld BAY_STS.PRSNT 0 k
    if st = bayDamaged then .next (s.bayNote k 1)
    else
      let s := ((s.gatesOff k).setFld BAY_STS.RETRY 0 k).modBay k (fun q => { q with held := false, fromTrip := false })
      .next (((s.bayMove k bayEmpty).bayEvent k 1 0 bayEmpty st).bayNm k tie)

/-- ATTN_PRESS (R463). -/
def execAttnPress (bay : Fin 32) (s : State) : Host.Outcome State Fault Refusal :=
  let k := bay.val
  if !s.bayAlive ∨ s.flag BAY_STS.ATTN k then .next s else .next ((s.setFld BAY_STS.ATTN 1 k).bayNote k 2)

/-- ATTN_RELEASE (R463). -/
def execAttnRelease (bay : Fin 32) (s : State) : Host.Outcome State Fault Refusal :=
  if s.bayAlive then .next (s.setFld BAY_STS.ATTN 0 bay.val) else .next s

/-- ATTN_LONG_PRESS: ATTN_N held low for 5 s with LPOFF set (R454). -/
def execAttnLongPress (bay : Fin 32) (s : State) : Host.Outcome State Fault Refusal :=
  let k := bay.val
  let st := s.bayState k
  if s.bayAlive ∧ s.flag BAY_STS.ATTN k ∧ bitOf ((s.bay k).set 0) 29 ∧ (st = bayRamping ∨ st = bayOn) then
    .next ((s.bayTurnOff k 3).bayEvent k 1 3 bayIsOff st)
  else .next s

/-! Inputs and sharing (R451, R452) -/

/-- INPUT_LOSS: a 12 V input below VIN_MIN for 1 ms (R452). tie says that power-good would complete on the tick of a trip (R16,
R465). -/
def execInputLoss (bay : Fin 32) (feed : Fin 2) (tie : Bool) (s : State) : Host.Outcome State Fault Refusal :=
  let k := bay.val
  let f := feed.val
  let lost := (s.bay k).lost
  if !s.bayAlive ∨ lost.contains f then .next s
  else
    let s := s.modBay k (fun q => { q with lost := q.lost ++ [f] })
    if lost.isEmpty then .next (((s.setGate k f false).setFld BAY_STS.SINGLE 1 k).bayNote k 3)
    else .next (((s.trip k 8).setGate k f false).bayNm k tie)

/-- INPUT_RETURN: a lost input has stayed at or above VIN_MIN + 0.2 V for 10 ms (R452). -/
def execInputReturn (bay : Fin 32) (feed : Fin 2) (s : State) : Host.Outcome State Fault Refusal :=
  let k := bay.val
  let f := feed.val
  if !s.bayAlive ∨ !(s.bay k).lost.contains f then .next s
  else
    let s := s.modBay k (fun q => { q with lost := q.lost.filter (· != f) })
    let s := if s.bayState k = bayOn ∨ s.bayState k = bayRamping then s.setGate k f true else s
    if (s.bay k).lost.isEmpty then .next ((s.setFld BAY_STS.SINGLE 0 k).bayNote k 3) else .next s

/-- SHARE_ERROR: a feed outside 35–65 % of the total for 100 ms (R451). -/
def execShareError (bay : Fin 32) (s : State) : Host.Outcome State Fault Refusal :=
  let k := bay.val
  if s.bayAlive ∧ s.gate k 0 ∧ s.gate k 1 ∧ !s.flag BAY_STS.SHARE k then
    .next (((s.setFld BAY_STS.SHARE 1 k).bayNote k 4).report (slotBay k))
  else .next s

/-- SHARE_CLEAR: 100 ms within 40–60 % (R451). -/
def execShareClear (bay : Fin 32) (s : State) : Host.Outcome State Fault Refusal :=
  let k := bay.val
  if s.bayAlive ∧ s.flag BAY_STS.SHARE k then .next ((s.setFld BAY_STS.SHARE 0 k).bayNote k 4) else .next s

/-- DAMAGE_FOUND: FET A or B conducts although its gate is off, or FET X does not gate on (R453). -/
def execDamageFound (bay : Fin 32) (fet : Fin 3) (s : State) : Host.Outcome State Fault Refusal :=
  let k := bay.val
  let f := fet.val
  let st := s.bayState k
  if !s.bayAlive ∨ (if f = 2 then !s.gate k 2 else s.gate k f) then .next s
  else
    let s := s.setFld (if f = 0 then BAY_STS.DMGA else if f = 1 then BAY_STS.DMGB else BAY_STS.DMGX) 1 k
    if st = bayDamaged then .next s
    else .next ((((s.gatesOff k).bayMove k bayDamaged).bayEvent k 1 0 bayDamaged st).report (slotBay k))

/-- The severe action "bay off" of the fault collector (R454, R476). -/
def State.bayOffByFault (s : State) (k : Nat) : State :=
  let st := s.bayState k
  if s.bayAlive ∧ (st = bayPresent ∨ st = bayRamping ∨ st = bayOn ∨ st = bayTripped ∨ st = bayCooling) then
    (s.bayTurnOff k 4).bayEvent k 1 4 bayIsOff st
  else s

/-! Commands (R455, R456, R462) -/

/-- The commands of BAYCMD (R352). -/
def cmdEnable : Nat := 1
def cmdOff : Nat := 2
def cmdClear : Nat := 3
def cmdIndicate : Nat := 4
def cmdAuxOn : Nat := 5

/-- ENABLE on a Present bay or one in Off (R455). -/
def State.bayEnable (s : State) (k : Nat) : State :=
  let hold := s.fld BAY_HOLD.HOLD k
  let s := if s.fld BAY_STS.TCAUSE k = 3 ∧ hold ≠ 0 then s else s.setGate k 2 true
  let s := (s.setFld BAY_STS.RETRY 0 k).modBay k (fun q => { q with fromTrip := false })
  if hold ≠ 0 ∨ !s.cooled k 0 ∨ !s.cooled k 1 then s.bayMove k bayCooling else s.rampBegin k

/-- OFF on a bay that it moves to Off: every gate off, but in Tripped and Cooling, where the 12 V gates are off already and feed X
stays as it is (R455). -/
def State.bayOffCmd (s : State) (k : Nat) : State :=
  if s.bayState k = bayTripped ∨ s.bayState k = bayCooling then (s.setFld BAY_STS.OFFWHY 1 k).bayMove k bayIsOff
  else s.bayTurnOff k 1

/-- What a command does in a bay's state: the result and the state (R455). clean is the outcome of the trial of CLEAR in
Damaged. -/
def State.bayCommand (s : State) (k cmd : Nat) (clean : Bool) : Nat × State :=
  let st := s.bayState k
  let idle := st == bayPresent || st == bayIsOff
  match cmd with
  | 1 =>
    if st = bayDamaged then (0x26, s)
    else if st = bayEmpty ∨ st = bayTripped then (0x24, s)
    else if idle then (0, s.bayEnable k) else (0, s)
  | 2 => if st = bayEmpty ∨ st = bayDamaged then (0, s) else (0, s.bayOffCmd k)
  | 3 =>
    if st = bayTripped then (0, s.setFld BAY_STS.RETRY 0 k)
    else if st ≠ bayDamaged then (0x24, s)
    else if clean then
      (0, (((s.setFld BAY_STS.DMGA 0 k).setFld BAY_STS.DMGB 0 k).setFld BAY_STS.DMGX 0 k).bayTurnOff k 5)
    else (0x26, s)
  | _ =>
    if st = bayDamaged then (0x26, s)
    else if st = bayEmpty then (0x24, s)
    else if idle then (0, s.setGate k 2 true)
    else if s.auxOn k then (0, s) else (0x24, s)

/-- BAYCMD as the bay controller takes it, or the bridge in its stead in lockout (R455, R456, R459, R538). The safe state is checked
first, before whether the function runs: DEDUCED from R455 (log entry 84). -/
def State.bayCmd (s : State) (k cmd arg : Nat) (clean : Bool) : Nat × State :=
  if !s.bayAlive then (0x24, s)
  else if s.baySafe ∧ cmd ≠ cmdOff ∧ cmd ≠ cmdIndicate then (0x25, s)
  else if (s.fn (fidBay k)).run ≠ .running then (0x23, s)
  else if cmd = cmdIndicate then
    if arg / 16 ≠ 0 then (0x29, s)
    else (0, (s.setFld BAY_IND.ATTN (arg % 4) k).setFld BAY_IND.LOCATE (arg / 4 % 4) k)
  else s.bayCommand k cmd clean

/-! STARTF of a bay (R456, R458) -/

/-- The result word of the checks of a bay's staged settings, 0 where they pass (R456, R466 to R470). -/
def State.bayCheck (s : State) (k : Nat) : Word :=
  let r := fun j => s.rd ⟨baySetting j, k, 0⟩
  let cfg := r 0
  let lim := r 1
  let win := r 2
  let fb := r 4
  let sc := bitsOf lim 63 56
  let ilim := bitsOf lim 55 48
  let ramp := bitsOf lim 47 40
  let aux := bitsOf lim 39 32
  let tmax := bitsOf lim 31 24
  let trst := bitsOf lim 23 16
  let tramp := bitsOf lim 15 8
  let noModel := (List.range 4).any (fun i => bitsOf (r 3) (16 * i + 15) (16 * i) == 0)
  if 8 < bitsOf cfg 23 20 ∨ 6 < bitsOf cfg 19 16 then resultWord 0x10 0 ((RKey.addr ⟨.BAY_CFG, k, 0⟩) / 4)
  else if bitsOf cfg 15 8 = 0 then resultWord 0x27 1 0
  else if sc < 48 ∨ 160 < sc ∨ sc * 4 < ilim + 32 ∨ ilim < 4 ∨ 160 < ilim ∨ ramp < 4 ∨ ilim < ramp ∨ aux < 4 ∨ 120 < aux then
    resultWord 0x27 2 0
  else if tmax < 80 ∨ 175 < tmax ∨ trst < 25 ∨ tmax < trst + 10 ∨ tramp < trst ∨ tmax < tramp + 10 then resultWord 0x27 3 0
  else if bitsOf win 31 24 = 0 ∨ bitsOf win 15 8 ≤ bitsOf win 23 16 ∨ bitsOf win 7 0 < 100 ∨ 160 < bitsOf win 7 0 then
    resultWord 0x27 4 0
  else if bitsOf fb 31 24 = 0 ∨ bitsOf fb 23 16 = 0 ∨ bitsOf fb 15 8 = 0 then resultWord 0x27 5 0
  else if noModel ∧ !bitOf cfg 31 then resultWord 0x28 0 0
  else if noModel ∧ !bitOf cfg 30 then resultWord 0x28 1 0
  else 0

/-! Lights (R462, R550) -/

/-- BAY_IND as it reads: POWER and FAULT follow the bay, ATTN and LOCATE are as INDICATE set them (R462). -/
def State.bayInd (s : State) (k : Nat) : Word :=
  let st := s.bayState k
  let q := s.bay k
  let power := if st = bayOn then 1 else if 2000 ≤ q.vo ∨ 2000 ≤ q.vox then 2 else 0
  let fault := if st = bayDamaged then 1 else if st = bayTripped ∨ (st = bayCooling ∧ q.fromTrip) then 3 else 0
  wordOf (2 ^ 6 * power + 2 ^ 4 * fault + 2 ^ 2 * (s.fld BAY_IND.ATTN k) + s.fld BAY_IND.LOCATE k)

/-- Whether a light is lit, given the present phases of the 1 Hz and the 4 Hz blink (R462). -/
def lit (slow fast : Bool) (code : Nat) : Bool :=
  match code with
  | 0 => false
  | 1 => true
  | 2 => slow
  | _ => fast

/-- INDICATOR_SHIFT: the 128 light bits are shifted out, from bay 31 to bay 0, LOCATE first (R462, R550). -/
def execIndicatorShift (slow fast : Bool) (s : State) : Host.Outcome State Fault Refusal :=
  if !s.bayAlive then .next s
  else .next (s.emit (.indicators (((List.range 32).reverse).flatMap (fun k =>
    let w := s.bayInd k
    [bitsOf w 1 0, bitsOf w 3 2, bitsOf w 5 4, bitsOf w 7 6].map (lit slow fast)))))

/-! Lockout and reset (R460, R538) -/

/-- Every BAY register at its reset value, and every bay as after power-on (R460). -/
def State.resetBays (s : State) : State :=
  let isBay := fun (r : Reg) => r == .BAY_CFG || r == .BAY_LIM || r == .BAY_VWIN || r == .BAY_MODEL || r == .BAY_FB ||
    r == .BAY_STS || r == .BAY_MEAS || r == .BAY_HOLD || r == .BAY_IND || r == .BAY_TRIP_CNT || r == .BAY_NM_CNT ||
    r == .BAY_AMB
  let s := { s with regs := s.regs.filter (fun e => !isBay e.1.r), bays := [] }
  s.each (List.range 32) (fun s k => s.setFn (fidBay k) { run := .stopped })

/-- BAY_LOCKOUT: VDD_BAY below 3.0 V or VBAY_HV below 10.2 V (R538). -/
def execBayLockout (s : State) : Host.Outcome State Fault Refusal :=
  if !s.bayAlive then .next s
  else
    let s := (s.setFld GLB_PWR_STS.BAY_LOCK 1).setFld GLB_PWR_STS.BAY_LOCK_STK 1
    .next (s.each (List.range 32) (fun s k => s.gatesOff k))

/-- BAY_LOCKOUT_RELEASE: the supplies are back, and the controller starts as after power-on (R538, R460). -/
def execBayLockoutRelease (s : State) : Host.Outcome State Fault Refusal :=
  if s.bayAlive then .next s else .next (s.resetBays.setFld GLB_PWR_STS.BAY_LOCK 0)

end Sys2Proof.Machine
end

