-- ==== Sys2Proof/Machine/Fault.lean ====
section
/-! DEFINITION. The fault collector: sources, windows, severe actions, clears, the safe state and its notices (spec/19). -/

namespace Sys2Proof.Machine

/-! Sources (R473) -/

/-- Whether a slot is reserved (R473). -/
def slotReserved (n : Nat) : Bool := n == 0x3BE || n == 0x3BF || decide (0x4C0 ≤ n)

/-- The port of a source, for a port, a port access or a drain tracker (R477). -/
def slotPortOf (n : Nat) : Option Nat :=
  if n < 0x200 then some (n % 256)
  else if 0x3C0 ≤ n ∧ n < 0x4C0 then some (n - 0x3C0)
  else none

/-- The bay of a source (R473). -/
def slotBayOf (n : Nat) : Option Nat := if 0x398 ≤ n ∧ n < 0x3B8 then some (n - 0x398) else none

/-- Whether a source's cause is present (R473). -/
def State.causePresent (s : State) (n : Nat) : Bool :=
  if n < 0x100 then
    s.fld PRT_CTL.ROLE n != 0 && (s.fn (fidPort n)).run != .stopped &&
      (if s.fld PRT_CTL.ROLE n = 4 then s.fld LFL_STS.STATE (halfOf n) != 10 else !s.flag PRT_STS.LUP n)
  else if n = slotEngine then s.seatState 0 == seatHalted
  else if n = slotTamper then !s.chip.tamper.isEmpty
  else if n = slotNoc then (List.range 18).any (fun b => !s.flag NOC_BR_STS.UP b)
  else if 0x3C0 ≤ n ∧ n < 0x4C0 then (s.port (n - 0x3C0)).trackerDown
  else match slotBayOf n with
    | some k =>
      let st := s.bayState k
      st == bayTripped || st == bayDamaged || s.flag BAY_STS.SHARE k || s.fld BAY_STS.ESTA k == 2 || s.fld BAY_STS.ESTB k == 2
    | none => false

/-- FLT_SRC_STS as it reads (R482). -/
def State.srcStatus (s : State) (n : Nat) : Word := putBits (s.rd ⟨.FLT_SRC_STS, n, 0⟩) 29 29 (bit (s.causePresent n))

/-- Sources with PEND 1 (R484). -/
def State.pendCount (s : State) : Nat := (s.regs.filter (fun e => e.1.r == .FLT_SRC_STS && bitOf e.2 31)).length

/-- Whether FAULT_N is low (R478, R491, R518, R535): before fuse load completes, too. -/
def State.faultLow (s : State) : Bool := s.pendCount != 0 || s.safe || s.chip.dead || !s.flag FUSE_STS.DONE

/-- Whether SAFE_N is low (R487, R518, R535). -/
def State.safeLow (s : State) : Bool := s.safe || s.chip.dead || !s.flag FUSE_STS.DONE

/-- FLT_GSTS as it reads (R484). -/
def State.gsts (s : State) : Word :=
  wordOf (2 ^ 31 * (bit s.safe) + 2 ^ 30 * (bit s.faultLow) + s.pendCount)

/-- A record (R483). -/
def faultRecord (kind pri src count action : Nat) : Word :=
  wordOf (2 ^ 56 * kind + 2 ^ 53 * pri + 2 ^ 40 * src + 2 ^ 32 * (count % 256) + 2 ^ 29 * action)

/-! Actions (R476, R477) -/

/-- The fault collector takes a stopped port's link down (R476). -/
def State.linkDownByFault (s : State) (p : Nat) : State :=
  let s := { s with flt := { s.flt with portDown := s.flt.portDown.filter (· != p) } }
  if s.role p = 0 ∨ s.role p = 4 then s
  else
    let old := s
    let s := s.linkDrop p 1
    State.vppbs old ((s.setFld PRT_STS.STATE 1 p).post 0x21 p 1)

/-- The severe action "port down" (R476). A port that a seat stops is waited for; one already stopped is taken down at once. -/
def State.portDownByFault (s : State) (p : Nat) : State :=
  let f := s.fn (fidPort p)
  if s.role p = 0 then s
  else match f.run with
    | .running =>
      let s := s.setFn (fidPort p) { f with run := .stopping, collector := true }
      ({ s with flt := { s.flt with portDown := s.flt.portDown ++ [p] } } : State).stopLink p
    | .stopping => { s with flt := { s.flt with portDown := s.flt.portDown ++ [p] } }
    | .stopped => s.linkDownByFault p

/-- The crews that a crew fence names (R477). -/
def State.fenceArg (s : State) (n arg : Nat) : List Nat :=
  if arg < 0x100 then [arg]
  else if arg = 0x1FF then (List.range 256).filter (fun c => s.crewState c == 1 || s.crewState c == 2)
  else match slotPortOf n with
    | some p => if s.role p = 1 then (List.range 256).filter (fun c => s.member c (s.feidOf p)) else []
    | none => []

/-- The action of a source that becomes severe (R476, R477). -/
def State.fire (s : State) (n : Nat) : State :=
  let arg := s.fld FLT_SRC_CFG.ARG n
  match s.fld FLT_SRC_CFG.ACTION n with
  | 1 => s.portDownByFault ((slotPortOf n).getD (arg % 256))
  | 2 => s.each (s.fenceArg n arg) (fun s c => s.takeFence { cause := 6, unit := n, crews := .one c })
  | 3 => s.bayOffByFault ((slotBayOf n).getD (arg % 32))
  | 4 => s.post 0x02 n (s.fld FLT_SRC_STS.WCNT n)
  | _ => s

/-- The length of a window in µs (R481). -/
def State.window (s : State) (n : Nat) : Nat :=
  s.fld FLT_SRC_CFG.WVAL n * (match s.fld FLT_SRC_CFG.WUNIT n with
    | 0 => 1
    | 1 => 1000
    | _ => 1000000)

/-- A report that opens a window where none is open (R475). -/
def State.openWindow (s : State) (n : Nat) : State :=
  if s.flag FLT_SRC_STS.WOPEN n then s
  else
    let s := (s.setFld FLT_SRC_STS.WOPEN 1 n).setFld FLT_SRC_STS.WCNT 0 n
    { s with flt := { s.flt with windows := tabSet id (fun _ => 0) s.flt.windows n (s.window n) } }

/-- A window closed. -/
def State.closeWindow (s : State) (n : Nat) : State :=
  let s := s.setFld FLT_SRC_STS.WOPEN 0 n
  { s with flt := { s.flt with windows := tabSet id (fun _ => 0) s.flt.windows n 0 } }

/-- What an enabled source that is not severe does on a report (R475). -/
def State.classify (s : State) (n : Nat) : State :=
  let s := (s.openWindow n).count FLT_SRC_STS.WCNT 1 n
  let wcnt := s.fld FLT_SRC_STS.WCNT n
  let s := if s.flag FLT_SRC_STS.PEND n then s
    else (s.setFld FLT_SRC_STS.PEND 1 n).pushFault (faultRecord 1 (s.fld FLT_SRC_CFG.LVL n) n wcnt 0)
  if wcnt < s.fld FLT_SRC_CFG.NSEV n then s
  else
    let s := ((s.setFld FLT_SRC_STS.SEVERE 1 n).closeWindow n).event islandFlt 0x05
    (s.fire n).pushFault (faultRecord 2 7 n wcnt (s.fld FLT_SRC_CFG.ACTION n))

/-- A report taken (R474, R475, R490). -/
def State.takeReport (s : State) (n : Nat) (tie : Bool) : State :=
  let s := (s.count FLT_SRC_TOT.CNT 1 n).event islandFlt 0x02
  if s.safe then s.pushSafe (faultRecord 0x11 0 n (s.fld FLT_SRC_STS.WCNT n) 0)
  else if !s.flag FLT_SRC_CFG.EN n ∨ s.flag FLT_SRC_STS.SEVERE n then s
  else (if tie ∧ s.flag FLT_SRC_STS.WOPEN n then s.nearMiss islandFlt else s).classify n

/-- The unit that sends the reports of a source: a port's island for its sources, else the source's own (R28, R473). -/
def slotUnit (n : Nat) : Nat :=
  if n < 0x200 then octetOf (n % 0x100) else if 0x3C0 ≤ n ∧ n < 0x4C0 then octetOf (n - 0x3C0) else n

/-- FAULT_REPORT: the collector takes a report on its way, those of one unit in the order in which it sent them (R474). tie says
that it is taken on the cycle that carries the closing tick of the source's window (R475). -/
def execFaultReport (slot : Fin 1536) (tie : Bool) (s : State) : Host.Outcome State Fault Refusal :=
  let n := slot.val
  if slotReserved n ∨ s.flt.reports.find? (fun m => slotUnit m == slotUnit n) ≠ some n then .next s
  else .next (({ s with flt := { s.flt with reports := s.flt.reports.erase n } }).takeReport n tie)

/-- FAULT_WINDOW_CLOSE: the W-th tick of an open window (R475). -/
def execFaultWindowClose (slot : Fin 1536) (s : State) : Host.Outcome State Fault Refusal :=
  let n := slot.val
  if s.flag FLT_SRC_STS.WOPEN n then .next ((s.closeWindow n).setFld FLT_SRC_STS.WCNT 0 n) else .next s

/-- A write of FLT_SRC_STS (R479). -/
def writeSrcStatus (s : State) (n : Nat) (v : Word) : State :=
  if slotReserved n ∨ !bitOf v 31 then s
  else if s.causePresent n then
    ((s.count FLT_SRC_STS.REFUSED 1 n).count FLT_REFUSE_CNT.CNT).event islandFlt 0x03
  else ((s.closeWindow n).wr ⟨.FLT_SRC_STS, n, 0⟩ 0)

/-- Whether an ARG is reserved for an action of a source (R477, R481). -/
def argReserved (n action arg : Nat) : Bool :=
  match action with
  | 1 => (slotPortOf n).isNone && decide (0x100 ≤ arg)
  | 2 => decide (0x100 < arg) && arg != 0x1FF
  | 3 => (slotBayOf n).isNone && decide (0x20 ≤ arg)
  | _ => false

/-- A write of FLT_SRC_CFG (R476, R481). -/
def writeSrcCfg (s : State) (n : Nat) (v : Word) : State :=
  let act := bitsOf v 62 60
  let unit := bitsOf v 56 55
  let wval := bitsOf v 54 45
  let top := if unit = 2 then 60 else 1000
  if slotReserved n ∨ 4 < act ∨ bitsOf v 59 57 = 7 ∨ unit = 3 ∨ wval = 0 ∨ top < wval ∨ bitsOf v 44 37 = 0 ∨
      argReserved n act (bitsOf v 36 28) then s
  else s.wr ⟨.FLT_SRC_CFG, n, 0⟩ (v &&& 0xFFFFFFFFF0000000)

/-! The safe state (R485 to R488) -/

/-- A safe cause taken (R485 to R487, R490). -/
def State.safeCause (s : State) (cause addr : Nat) : State :=
  let s := s.capture64 ⟨.FLT_SAFE_LOG, 0, 0⟩ (wordOf (2 ^ 60 * cause + addr))
  let s := s.pushSafe (wordOf (0x10 * 2 ^ 56 + 7 * 2 ^ 53 + 2 ^ 32 * cause + addr))
  if s.safe then s
  else
    let s := (s.setFld FLT_GSTS.SAFE 1).takeFence { cause := 7, unit := slotSafeQ, crews := .all }
    { s with flt := { s.flt with notices := { ports := List.range 64, engine := true, bay := true } } }

/-- A write of FLT_CTL (R484). -/
def writeFltCtl (s : State) (v : Word) : State := if bitOf v 31 then s.safeCause 4 0 else s

/-- A write of FLT_SAFE_VEC is ignored in the safe state (R484). -/
def writeSafeVec (s : State) (v : Word) : State :=
  if s.safe then s else s.wr ⟨.FLT_SAFE_VEC, 0, 0⟩ (v &&& 0x8007FFF8)

/-- The safe cause of a word under parity (R485, R486). The window counter of a source stands beside its status. -/
def parityCause (r : Reg) : Option Nat :=
  match r with
  | .FLT_SRC_CFG => some 1
  | .FLT_SAFE_VEC => some 1
  | .FLT_SRC_STS => some 2
  | .CRW_CTL => some 3
  | .CRW_MEM => some 3
  | .CRW_STS => some 3
  | _ => none

/-- PARITY_ERROR: a word at a management-space address is found with bad parity, once for each word (R485). -/
def execParityError (word : Fin 67108864) (s : State) : Host.Outcome State Fault Refusal :=
  let a := word.val / 4 * 4
  match (regAt a).bind (fun x => parityCause x.1.r) with
  | some c =>
    if s.flt.bad.contains a then .next s
    else .next (({ s with flt := { s.flt with bad := s.flt.bad ++ [a] } }).safeCause c a)
  | none => .next s

/-- A port island's ports. -/
def portsOf (o : Nat) : List Nat := (List.range 4).map (fun k => 4 * o + k)

/-- SAFE_NOTICE_PORT: a port island takes the safe notice (R487). -/
def execSafeNoticePort (island : Fin 64) (s : State) : Host.Outcome State Fault Refusal :=
  let o := island.val
  if !s.flt.notices.ports.contains o then .next s
  else
    let s := { s with flt := { s.flt with notices := { s.flt.notices with ports := s.flt.notices.ports.filter (· != o) } } }
    .next (s.each (portsOf o) (fun s p =>
      let s := s.modPort p (fun q => { q with safe := true })
      match s.fld PRT_CTL.ROLE p with
      | 1 => s.aer p aerInternal
      | 2 => (s.sweepDevs p false).stopScrub p
      | _ => s))

/-- SAFE_NOTICE_BAY: the bay controller takes the safe notice; every bay holds its power state (R459, R487). -/
def execSafeNoticeBay (s : State) : Host.Outcome State Fault Refusal :=
  .next { s with flt := { s.flt with notices := { s.flt.notices with bay := false } } }

/-- A waiting seat leaves its instruction to finish without it (R306, R488). -/
def State.abandonWait (s : State) (n : Nat) : State :=
  let s := s.modSeat n (fun q => { q with wait := none })
  let s := { s with eng := { s.eng with scans := s.eng.scans.map (fun (x : Scan) =>
    if x.seat = some n then { x with seat := none } else x) } }
  let s := s.each (List.range 256) (fun s p =>
    s.modPort p (fun q => { q with epochs := q.epochs.map (fun (e : EpochReq) =>
      if e.seat = some n then { e with seat := none } else e) }))
  { s with fns := s.fns.map (fun (e : Nat × Fn) => (e.1, { e.2 with waiters := e.2.waiters.filter (fun w => w.1 != n) })) }

/-- A seat of 1 to 15 that is Ready or Waiting is halted (R488). -/
def State.safeHalt (s : State) (n : Nat) : State :=
  let st := s.seatState n
  if st = seatReady ∨ st = seatWaiting then (s.abandonWait n).setSeatState n seatHalted else s

/-- SAFE_NOTICE_ENGINE (R488). -/
def execSafeNoticeEngine (s : State) : Host.Outcome State Fault Refusal :=
  if !s.flt.notices.engine then .next s
  else
    let s := { s with flt := { s.flt with notices := { s.flt.notices with engine := false } } }
    let s := (s.each ((List.range 16).filter (· != 0)) (fun s n => s.safeHalt n)).abandonWait 0
    if s.flag FLT_SAFE_VEC.VLD then
      let pc := s.fld FLT_SAFE_VEC.ADDR * 8
      .next (((s.setFld ICF_SEAT_STS.INTRAP 0 0).modSeat 0 (fun q => { q with pc := pc, yielded := false })).setSeatState 0
        seatReady)
    else .next (s.setSeatState 0 seatHalted)

/-! The queues' pop registers (R372, R480, R572) -/

/-- A privileged read of a pop register: the head record, removed (R372). -/
def State.popFault (s : State) : Word × State :=
  match fifoPop s.flt.faultQ with
  | some (w, q) => (w, ({ s with flt := { s.flt with faultQ := q } }).fifoRegs FLT_FQ_CNT.COUNT FLT_FQ_STS.FULL 256 q.length)
  | none => (0, s)

def State.popSafe (s : State) : Word × State :=
  match fifoPop s.flt.safeQ with
  | some (w, q) => (w, ({ s with flt := { s.flt with safeQ := q } }).fifoRegs FLT_SQ_CNT.COUNT FLT_SQ_STS.FULL 32 q.length)
  | none => (0, s)

/-- The head record, left in place. -/
def headRecord (q : List Word) : Word := ((fifoPop q).map (·.1)).getD 0

end Sys2Proof.Machine
end

