-- ==== Sys2Proof/Machine/Pmc.lean ====
section
/-! DEFINITION. The performance monitor (spec/20): selections, accumulators sent home, clears, freeze and flush. -/

namespace Sys2Proof.Machine

/-- Whether an EVT code is reserved for an island's class (R498). -/
def islandEvtReserved (island evt : Nat) : Bool :=
  let top := if island < 0x40 then 0x0D
    else if island < 0x80 then 0x0B
    else if island < 0x90 then 0x06
    else if island < 0x98 then 0x07
    else if island = 0x98 then 0x08
    else if island = 0x99 then 0x06
    else 0x01
  decide (top < evt) && evt != 0x0E && evt != 0x0F

/-- Whether a selection is one that a write may store (R496). -/
def selOk (r : Reg) (v : Word) : Bool :=
  let evt := bitsOf v 7 0
  match r with
  | .PMC_GSEL => decide (bitsOf v 23 16 ≤ 0x9C) && !islandEvtReserved (bitsOf v 23 16) evt
  | .PMC_PSEL => !islandEvtReserved 0 evt
  | _ => decide (evt ≤ 0x09)

/-- A write of a selection register (R496): ignored whole where it names a reserved code; OVF is W1C, and SRCI is stored in
the global bank only. -/
def writeSel (s : State) (k : RKey) (v : Word) : State :=
  if !selOk k.r v then s
  else
    let mask : Word := if k.r = .PMC_GSEL then 0xC0FF00FF else 0xC00000FF
    let old := s.rd k
    s.wr k ((v &&& mask) ||| (old &&& 0x20000000 &&& ~~~v))

/-- The counter of a bank's selection. -/
def AccKey.home (k : AccKey) : AccKey := { k with island := 0 }

/-- The registers of a counter: its count and its selection. -/
def AccKey.count (k : AccKey) : RKey :=
  match k.bank with
  | 0 => ⟨.PMC_GCNT, k.i, 0⟩
  | 1 => ⟨.PMC_PCNT, k.i, k.j⟩
  | _ => ⟨.PMC_SCNT, k.i, k.j⟩

def AccKey.sel (k : AccKey) : RKey :=
  match k.bank with
  | 0 => ⟨.PMC_GSEL, k.i, 0⟩
  | 1 => ⟨.PMC_PSEL, k.i, k.j⟩
  | _ => ⟨.PMC_SSEL, k.i, k.j⟩

/-- A counter's generation, of 2 bits (R501). -/
def State.pmcGen (s : State) (k : AccKey) : Nat := (s.pmc.base + tabGet (fun _ => 0) s.pmc.gen k.home) % 4

/-- The generation that a source island holds for a counter (R501). -/
def State.pmcHeld (s : State) (k : AccKey) : Nat := tabGet (fun _ => 0) s.pmc.held k

/-- A clear of one counter: it reads 0, and its generation advances. What its islands have accumulated before the clear is never
added (R501). -/
def State.pmcClear (s : State) (k : AccKey) : State :=
  let g := tabGet (fun _ => 0) s.pmc.gen k.home
  let s := s.wr k.count 0
  { s with pmc := { s.pmc with acc := s.pmc.acc.filter (fun e => e.1.home != k.home)
                               gen := tabSet AccKey.ord (fun _ => 0) s.pmc.gen k.home ((g + 1) % 4) } }

/-- The counter that a count register holds. -/
def cntKey (k : RKey) : AccKey :=
  match k.r with
  | .PMC_GCNT => ⟨0, 0, k.i, 0⟩
  | .PMC_PCNT => ⟨0, 1, k.i, k.j⟩
  | _ => ⟨0, 2, k.i, k.j⟩

/-- Every counter of the three banks cleared (R502). -/
def State.pmcClearAll (s : State) : State :=
  { s with regs := s.regs.filter (fun e => !(e.1.r == Reg.PMC_GCNT || e.1.r == Reg.PMC_PCNT || e.1.r == Reg.PMC_SCNT)),
           pmc := { s.pmc with acc := [], base := (s.pmc.base + 1) % 4 } }

/-- The islands of the device (R495). -/
def islands : List Nat := List.range 0x9D

/-- A write of PMC_CTL (R502). -/
def writePmcCtl (s : State) (v : Word) : State :=
  let s := s.setFld PMC_CTL.FRZ (bitsOf v 31 31)
  let s := s.setFld PMC_STS.FROZEN (bitsOf v 31 31)
  let s := if bitOf v 30 then
      ({ s with pmc := { s.pmc with flushing := islands } }).setFld PMC_STS.FLUSH_BUSY 1
    else s
  if bitOf v 29 then s.pmcClearAll else s

/-- An increment that reaches its counter's home: added where its generation is the counter's, else discarded; a wrap sets OVF
(R501). -/
def State.pmcAdd (s : State) (k : AccKey) (gen n : Nat) : State :=
  if gen ≠ s.pmcGen k then s
  else
    let v := (s.rd k.count).toNat + n
    let s := s.wr k.count (wordOf (v % 2 ^ 64))
    if 2 ^ 64 ≤ v then s.wr k.sel (putBits (s.rd k.sel) 29 29 1) else s

/-- The events of an island's class that no command shows (R498): island cycles, the other conditions, and a plane's write that
waits for a bank. -/
def timedEvent (island evt : Nat) : Bool :=
  evt == 0x01 ||
    (if island < 0x40 then evt == 0x07 || evt == 0x0A
    else if island < 0x80 then evt == 0x09 || evt == 0x0A
    else if island < 0x90 then evt == 0x05 || evt == 0x06
    else if island < 0x98 then evt == 0x07
    else island == islandEngine && evt == 0x03)

/-- What a counter of an island with selection w adds (R497): in level mode the cycles, in edge mode the times. -/
def accCycles (w : Word) (o : CycleObs) : Nat := if bitOf w 30 then o.cycles else o.times

/-- The accumulators of an island after what it counted of one event (R494, R497): the global counters that select it, and those
of the port. Nothing counts while PMC_CTL.FRZ is set (R502). -/
def State.countCycles (s : State) (island : Nat) (o : CycleObs) : State :=
  if !timedEvent island o.evt.val ∨ s.flag PMC_CTL.FRZ then s
  else
    let p := 4 * island + o.port.val
    let put := fun (w : Word) bank i j acc => accAdd (putBits w 30 30 0) island bank i j o.evt.val (accCycles w o) acc
    let acc := (List.range 16).foldl (fun a c => put (s.rd ⟨.PMC_GSEL, c, 0⟩) 0 c 0 a) s.pmc.acc
    let acc := if island < 0x40 then (List.range 8).foldl (fun a j => put (s.rd ⟨.PMC_PSEL, p, j⟩) 1 p j a) acc else acc
    { s with pmc := { s.pmc with acc := acc } }

/-- One accumulator sent home and emptied. stale says that its increment left the island before the island took a clear that
the counter has made meanwhile (R501); the island has taken every clear after it. -/
def State.pmcSend (s : State) (k : AccKey) (stale : Bool) : State :=
  let n := tabGet (fun _ => 0) s.pmc.acc k
  let gen := if stale then s.pmcHeld k else s.pmcGen k
  let s := s.pmcAdd k gen n
  let s := { s with pmc := { s.pmc with acc := tabErase s.pmc.acc k } }
  { s with pmc := { s.pmc with held := tabSet AccKey.ord (fun _ => 0) s.pmc.held k (s.pmcGen k) } }

/-- ACCUMULATOR_SEND (R494, R501, R502): a source island sends its accumulated increments, with what it has counted of the events
that no command shows, and so answers a flush. -/
def execAccumulatorSend (island : Fin 157) (stale : Bool) (obs : List CycleObs) (s : State) : Host.Outcome State Fault Refusal :=
  let s := s.each obs (fun s o => s.countCycles island.val o)
  let keys := (s.pmc.acc.filter (fun e => e.1.island == island.val)).map (·.1)
  let s := s.each keys (fun s k => s.pmcSend k stale)
  let left := s.pmc.flushing.filter (· != island.val)
  let s := { s with pmc := { s.pmc with flushing := left } }
  .next (s.setFld PMC_STS.FLUSH_BUSY (bit (!left.isEmpty)))

end Sys2Proof.Machine
end

