-- ==== Sys2Proof/Machine/Noc.lean ====
section
/-! DEFINITION. The network on chip (spec/15): the walk of a request along its hop codes, drops, timeouts, bridges, and the alert
rail. -/

namespace Sys2Proof.Machine

/-- Where a packet stands: in a router, by die and number, or in a node's NI. -/
inductive NocAt where
  | router (die n : Nat)
  | node (n : Nat)
  deriving DecidableEq, Repr

/-- How a request ends its way: it reached its target, and its response is in time, or late; it was dropped, with the cause and
the place of R387; it was lost in a bridge that is down (R385); or it never left, for want of a valid entry (R393). -/
inductive NocEnd where
  | ok
  | late
  | dropped (cause die router : Nat)
  | gone
  | noEntry
  deriving DecidableEq, Repr

/-- The node at a local port of a router (R383, R384, R400). -/
def nodeAt (die router port : Nat) : Option Nat := (List.range 0xEE).find? (fun n => nodePlace n == some ⟨die, router, port⟩)

/-- What one hop does (R386): the place it leads to, the bridge it crosses, the codes left; or the cause of a drop. -/
def nocHop (die n : Nat) (codes : List Nat) : Except Nat (NocAt × Option Nat × List Nat) :=
  match codes with
  | [] => .error 2
  | c :: rest =>
    if 8 ≤ die then
      if c = 0xE ∨ c = 0xF then
        match rest with
        | [] => .error 2
        | d :: rest =>
          if d = 0 ∨ 10 < d then .error 1
          else .ok (.router die ((if c = 0xE then n + d else n + 20 - d) % 20), none, rest)
      else if 8 ≤ c then .error 0
      else if 16 ≤ n ∧ c ≤ 1 then
        let d := 2 * (n - 16) + c
        .ok (.router d 0, some (if die = 8 then d else 8 + d), rest)
      else if n = 19 ∧ c = 4 then .ok (.router (if die = 8 then 9 else 8) 19, some 16, rest)
      else if die = 8 ∧ n = 18 ∧ c = 4 then .ok (.node 0xED, some 17, rest)
      else match nodeAt die n c with
        | some t => .ok (.node t, none, rest)
        | none => .error 0
    else if c = 0 ∧ n ≠ 0 then .ok (.router die ((n - 1) / 2), none, rest)
    else if c = 0 then .ok (.router 8 (16 + die / 2), some die, rest)
    else if c ≤ 2 ∧ n < 7 then .ok (.router die (2 * n + c), none, rest)
    else if c = 3 ∧ n = 0 then .ok (.router 9 (16 + die / 2), some (8 + die), rest)
    else if c = 4 ∧ n = 0 then .ok (.node (0xD8 + die), none, rest)
    else if c ≤ 2 then
      match nodeAt die n c with
      | some t => .ok (.node t, none, rest)
      | none => .error 0
    else .error 0

/-- The walk of a packet for a target (R386, R387). -/
def State.nocWalk (s : State) (target : Nat) : Nat → NocAt → List Nat → NocEnd
  | 0, _, _ => .gone
  | fuel + 1, .router die n, codes =>
    match nocHop die n codes with
    | .error c => .dropped c die n
    | .ok (next, bridge, rest) =>
      match bridge with
      | some b => if s.flag NOC_BR_STS.UP b then s.nocWalk target fuel next rest else .gone
      | none => s.nocWalk target fuel next rest
  | _ + 1, .node t, _ =>
    if t = target then .ok
    else match nodePlace t with
      | some p => .dropped 3 p.die p.router
      | none => .dropped 3 0xF 0

/-- The first NHOP codes of a route entry (R388). -/
def entryCodes (w : Word) : List Nat := (List.range (bitsOf w 35 32)).map (fun k => bitsOf w (4 * k + 3) (4 * k))

/-- Where the packets of a node enter the NoC. The bay controller's NI stands at the far end of bridge 17 (R384). -/
def State.nocFrom (s : State) (n : Nat) (target : Nat) (codes : List Nat) : NocEnd :=
  match nodePlace n with
  | some p =>
    if n = target then .ok
    else if p.die = 10 then
      if s.flag NOC_BR_STS.UP 17 then s.nocWalk target 64 (.router 8 18) codes else .gone
    else s.nocWalk target 64 (.router p.die p.router) codes
  | none => .noEntry

/-- The way of a request from an initiator's node to its target (R387 to R389, R391, R393). -/
def State.nocWay (s : State) (n target : Nat) : NocEnd :=
  let w := s.rd ⟨.NOC_RT, n, target⟩
  if !bitOf w 63 then .noEntry
  else if bitOf w 62 then
    match s.nocFrom n 0xE7 (entryCodes w) with
    | .ok =>
      let h := s.rd ⟨.NOC_RT, 0xE7, target⟩
      if !bitOf h 63 ∨ bitOf h 62 then .dropped 6 8 16 else s.nocFrom 0xE7 target (entryCodes h)
    | e => e
  else s.nocFrom n target (entryCodes w)

/-- The node of a requester (R382, R407): the engine, a DMA engine, the debug master, a host port's island. -/
def Requester.node : Requester → Nat
  | .seat _ => 0xE0
  | .dma e => 0xE1 + e
  | .debug => 0xE5
  | .bar0 p => octetOf p

/-- The node that owns an address (R392). -/
def targetOf (a : Nat) : Nat :=
  if 0x1C80000 ≤ a ∧ a < 0x1D00000 then 0xD0 + (a - 0x1C80000) / 0x20 / 2048
  else if 0x1D00000 ≤ a ∧ a < 0x1F00000 then 0xD0 + (a - 0x1D00000) / 0x80 / 2048
  else match regAt a with
    | some _ => nodeOfAddr a
    | none => if (windowOffset a).isSome then 0xE0 else 0xE7

/-! Errors and statistics (R393, R399, R402) -/

/-- An error of the NoC counted, captured and reported (R387, R393, R399). -/
def State.nocError (s : State) (cause src dst die router : Nat) : State :=
  ((s.count NOC_ERR_CNT.CNT).capture64 ⟨.NOC_ERR_LOG, 0, 0⟩
    (wordOf (2 ^ 60 * cause + 2 ^ 52 * src + 2 ^ 44 * dst + 2 ^ 40 * die + 2 ^ 35 * router))).report slotNoc

/-- The die and the router of a node. -/
def dieOf (n : Nat) : Nat := ((nodePlace n).map (·.die)).getD 0xF
def routerOf (n : Nat) : Nat := ((nodePlace n).map (·.router)).getD 0

/-- The bin of a round trip of t ns (R402). -/
def nocBin (h t : Nat) : Nat := if t < 2 ^ h then 0 else min 15 (Nat.log2 t + 1 - h)

/-- A request of a node counted as injected (R402). -/
def State.nocInject (s : State) (n bytes : Nat) : State :=
  if s.flag NOC_CTL.ST_EN then
    let s := s.wr ⟨.NOC_ST_REQ, n, 0⟩ (wordOf (satAdd (2 ^ 64 - 1) (s.rd ⟨.NOC_ST_REQ, n, 0⟩).toNat 1))
    s.wr ⟨.NOC_ST_BYTES, n, 0⟩ (wordOf (satAdd (2 ^ 64 - 1) (s.rd ⟨.NOC_ST_BYTES, n, 0⟩).toNat bytes))
  else s

/-- A round trip counted (R402). Its length is a free value: R30 bounds no internal latency. -/
def State.nocTrip (s : State) (n : Nat) : State :=
  if s.flag NOC_CTL.ST_EN then
    let (d, s) := s.draw
    let k := nocBin (s.fld NOC_CTL.HSHIFT) (Config.latency d)
    s.count NOC_ST_HIST.CNT 1 n k
  else s

/-- A request ended at once for want of an entry (R393). -/
def State.nocNoEntry (s : State) (n target : Nat) : State := s.nocError 5 n target (dieOf n) (routerOf n)

/-- A request that has run out of time: an error with cause 4 (R393), and a round trip of bin 15 (R402). -/
def State.nocTimedOut (s : State) (n target : Nat) : State :=
  let s := s.nocError 4 n target (dieOf n) (routerOf n)
  if s.flag NOC_CTL.ST_EN then s.count NOC_ST_HIST.CNT 1 n 15 else s

/-- The island in which a node's NI keeps its timers (R393, R495): a port island's node in that island, every other initiator in
the engine's. -/
def nodeIsland (n : Nat) : Nat := if n < 64 then n else islandEngine

/-- What a request meets on its way: whether it is done, ended at once, or waits for its timeout, with its errors counted; o says
when its response comes, and one on the tick of the timeout is a near miss (R15). A read that gets no response moves no payload,
and a request with no entry is not injected (R402). -/
def State.nocTry (s : State) (who : Requester) (a : Nat) (wide write : Bool) (o : NocObs) : NocEnd × State :=
  let n := who.node
  let t := targetOf a
  let len := if wide then 8 else 4
  let paid := if write then len else 0
  match s.nocWay n t with
  | .ok => match o with
    | .inTime => (.ok, (s.nocInject n len).nocTrip n)
    | .tie => (.ok, ((s.nocInject n len).nocTrip n).nearMiss (nodeIsland n))
    | .late => (.late, s.nocInject n len)
  | .late => (.late, s.nocInject n len)
  | .dropped c d r => (.dropped c d r, (s.nocInject n paid).nocError c n t d r)
  | .gone => (.gone, s.nocInject n paid)
  | .noEntry => (.noEntry, s.nocNoEntry n t)

/-- Whether the hub relays the packets of an entry (R388, R391): they reach it, and its own entry for the target leads on. -/
def State.nocRelayed (s : State) (n target : Nat) : Bool :=
  let w := s.rd ⟨.NOC_RT, n, target⟩
  let h := s.rd ⟨.NOC_RT, 0xE7, target⟩
  bitOf w 63 && bitOf w 62 && s.nocFrom n 0xE7 (entryCodes w) == .ok && bitOf h 63 && !bitOf h 62

/-- A request that waits for its timeout, which holds an entry of the hub's relay record where the hub has relayed it; late says
that its response follows. -/
def State.nocWait (s : State) (who : Requester) (a : Nat) (wide write : Bool) (late : Bool := false) : State :=
  let n := who.node
  let t := targetOf a
  let r := s.nocRelayed n t
  { s with noc := { s.noc with
      outstanding := s.noc.outstanding ++ [⟨n, t, who, a, wide, write, late, s.rd ⟨.NOC_RT, n, t⟩, r⟩],
      relayed := s.noc.relayed + bit r } }

/-- The entries of an NI's outstanding table (R393). -/
def nocCap (n : Nat) : Nat := if n = 0xE0 then 512 else if 0xE1 ≤ n ∧ n ≤ 0xE4 then 64 else 32

/-- Whether a request of a node for a target waits in its NI: the outstanding table is full (R393), a request to the target on
another route is still open (R394), or the hub's relay record is full (R391). -/
def State.nocHeld (s : State) (n target : Nat) : Bool :=
  let w := s.rd ⟨.NOC_RT, n, target⟩
  let mine := s.noc.outstanding.filter (fun q => q.node == n)
  bitOf w 63 && (decide (nocCap n ≤ mine.length) || mine.any (fun q => q.target == target && q.route != w) ||
    (s.nocRelayed n target && decide (256 ≤ s.noc.relayed)))

/-- A response that comes after the timeout of its request, discarded and counted (R17, R393). -/
def State.nocLate (s : State) (n : Nat) : State := s.lateArrival (nodeIsland n)

/-! Bridges (R385, R401) -/

/-- BRIDGE_DOWN. -/
def execBridgeDown (bridge : Fin 18) (s : State) : Host.Outcome State Fault Refusal :=
  let b := bridge.val
  if !s.flag NOC_BR_STS.UP b then .next s
  else .next (((s.setFld NOC_BR_STS.UP 0 b).count NOC_BR_STS.DOWNS 1 b).report slotNoc)

/-- BRIDGE_UP. -/
def execBridgeUp (bridge : Fin 18) (s : State) : Host.Outcome State Fault Refusal :=
  .next (s.setFld NOC_BR_STS.UP 1 bridge.val)

/-! The alert rail (R396, R397) -/

/-- KIND of an alert (R396); 0 for the kinds that are reserved. -/
def alertKind : BypMsg → Nat
  | .fence _ _ _ _ => 1
  | .fenceReq _ _ _ _ _ => 2
  | .linkLoss _ _ _ _ => 3
  | _ => 0

/-- The rail NIs that an alert names (R396). -/
def State.named (s : State) (a : Alert) : List Nat :=
  if a.dst = 0xFF then (List.range 64).filter (fun o => (portsOf o).any (fun p => s.role p == 1)) else [a.dst]

/-- A receive queue of a rail NI. -/
def State.railIn (s : State) (n : Nat) : List Alert := tabGet (fun _ => []) s.noc.recv n

def State.setRailIn (s : State) (n : Nat) (l : List Alert) : State :=
  { s with noc := { s.noc with recv := tabSet id (fun _ => []) s.noc.recv n l } }

/-- ALERT_AT_ROOT: the root takes the oldest alert, discards it where its kind is reserved, and else sends it to every NI that it
names once each has room. -/
def execAlertAtRoot (s : State) : Host.Outcome State Fault Refusal :=
  match s.noc.send with
  | [] => .next s
  | a :: rest =>
    let taken := { s with noc := { s.noc with send := rest } }
    if alertKind a.msg = 0 then .next (taken.count NOC_ERR_CNT.CNT)
    else if (s.named a).all (fun n => decide ((s.railIn n).length < 16)) then
      .next (taken.each (s.named a) (fun s n => s.setRailIn n (s.railIn n ++ [a])))
    else .next s

/-- What an NI does with an alert (R183, R192): the fault collector sends a fence notice of another switch on to every host
port and queues a fence request; a host port's island gives it to its host ports; a fabric port's island sends it on its link. -/
def State.handAlert (s : State) (n : Nat) (a : Alert) : State :=
  if n = 0xE6 then
    match a.msg with
    | .fenceReq _ _ _ c f => { s with flt := { s.flt with requests := s.flt.requests ++ [(c, f)] } }
    | m => s.alert ⟨0xFF, 0xE6, 0, m⟩
  else if a.dst = 0xFF then
    s.each ((portsOf n).filter (fun p => s.role p == 1)) (fun s p =>
      s.modPort p (fun q => { q with alerts := q.alerts ++ [a.msg] }))
  else s.queueBypass (halfOf a.port) a.msg

/-- ALERT_DELIVERY: an NI hands on the oldest alert of its receive queue. -/
def execAlertDelivery (node : Fin 238) (s : State) : Host.Outcome State Fault Refusal :=
  match s.railIn node.val with
  | [] => .next s
  | a :: rest => .next ((s.setRailIn node.val rest).handAlert node.val a)

end Sys2Proof.Machine
end

