-- ==== Sys2Proof/Machine/Functions.lean ====
section
/-! DEFINITION. Functions: their IDs and owners, STOPF, its completion, the checks of STARTF and what a start does (spec/12
R319 to R323, and the chapters of the kinds). -/

namespace Sys2Proof.Machine

/-! IDs and grants (R319, R328) -/

def fidKind (fid : Nat) : Nat := fid / 4096
def fidIndex (fid : Nat) : Nat := fid % 1024

/-- The number of functions of a kind (R319). -/
def kindCount (k : Nat) : Nat :=
  match k with
  | 0 | 1 => 256
  | 2 => 1024
  | 3 => 64
  | 4 => 1024
  | 5 => 32
  | 6 => 256
  | _ => 0

/-- Whether a register value is a function ID (R319). -/
def fidOk (v : Nat) : Bool := decide (v < 0x10000) && v / 1024 % 4 == 0 && decide (fidIndex v < kindCount (fidKind v))

/-- Whether an ICF_UGRANT entry covers a seat and an index of a kind (R328). -/
def grantHolds (w : Word) (seat kind idx : Nat) : Bool :=
  bitOf w 63 && decide (1 ≤ seat) && bitOf w (47 + seat) && bitsOf w 31 28 == kind && decide (bitsOf w 9 0 ≤ idx) &&
    decide (idx ≤ bitsOf w 25 16)

/-- Whether a seat may act on a function: it is privileged, or granted (R308, R328). -/
def State.mayAct (s : State) (seat kind idx : Nat) : Bool :=
  s.priv seat || (List.range 64).any (fun k => grantHolds (s.rd ⟨.ICF_UGRANT, k, 0⟩) seat kind idx)

/-- The state code with which a function is in a state of code 0x06 (R320), or none. -/
def State.outOfPlay (s : State) (fid : Nat) : Option Nat :=
  let i := fidIndex fid
  match fidKind fid with
  | 1 => let st := s.crewState i; if st = 0 ∨ st = 3 ∨ st = 4 then some st else none
  | 4 => if s.sliceMade i then none else some 0
  | _ => none

/-- ICF_FN_QRES as it reads for the ID of ICF_FN_QRY (R329). -/
def State.fnQres (s : State) : Word :=
  let fid := s.fld ICF_FN_QRY.FID
  let f := s.fn fid
  let st := if !fidOk fid then 3
    else match f.run with
      | .stopping => 1
      | .running => if (s.outOfPlay fid).isSome then 3 else 0
      | .stopped => if (s.outOfPlay fid).isSome then 3 else 2
  let owner := if fidOk fid then f.owner else none
  wordOf (2 ^ 30 * st + 2 ^ 29 * (bit owner.isSome) + 2 ^ 25 * (owner.getD 0))

/-! STOPF (R320 to R322) -/

/-- What a function's stop does on the dispatch cycle, beyond its state: a slice's stop goes out to every port agent, and a fabric
port that is not Active is Disabled (R223). -/
def State.stopBegins (s : State) (fid : Nat) : State :=
  if fidKind fid = 3 then
    s.each (s.ports.map (·.1)) (fun s p => s.modPort p (fun q => { q with stops := q.stops.filter (· != fidIndex fid) }))
  else if fidKind fid = 0 then s.stopLink (fidIndex fid)
  else s

/-- STOPF from a seat: the result word, or none where the seat waits for the drain, with the state (R321). -/
def State.stopf (s : State) (seat rd v : Nat) : Option Word × State :=
  if !fidOk v then (some (resultWord 1 0 0), s)
  else if !s.mayAct seat (fidKind v) (fidIndex v) then (some (resultWord 5 0 0), s)
  else
    let f := s.fn v
    let beats := s.priv seat && (match f.owner with
      | some o => !s.priv o
      | none => false)
    match f.run with
    | .stopping =>
      if beats then (none, s.setFn v { f with owner := some seat, waiters := f.waiters ++ [(seat, rd)] })
      else (some (resultWord 2 0 (f.owner.getD 0)), s)
    | .running =>
      match s.outOfPlay v with
      | some st => (some (resultWord 6 0 st), s)
      | none => (none, (s.setFn v { f with run := .stopping, owner := some seat, waiters := [(seat, rd)] }).stopBegins v)
    | .stopped =>
      if f.owner.isSome ∧ f.owner ≠ some seat ∧ !beats then (some (resultWord 2 0 (f.owner.getD 0)), s)
      else match s.outOfPlay v with
        | some st => (some (resultWord 6 0 st), s)
        | none => (some 0, s.setFn v { f with owner := some seat })

/-! The end of a drain -/

/-- Whether a request of a crew remains open at a slice (R72). -/
def State.crewOpen (s : State) (c : Nat) : Bool :=
  s.ports.any (fun e => e.2.out.any (fun x => x.ofCrew c && (x.phase == .sent || x.phase == .parked))) ||
    s.slices.any (fun e => e.2.txns.any (fun t => t.crew == c) || e.2.retry.any (fun x => x.req.crew == c) ||
      e.2.reqIn.any (fun m => m.crew == c))

/-- Whether a request to a skein group is in flight (R56). -/
def State.groupOpen (s : State) (g : Nat) : Bool :=
  s.ports.any (fun e => e.2.out.any (fun x => match x.kind with
    | .remote _ => false
    | _ => (s.skeinAt x.mport x.addr).any (fun a => s.fld SKN_W1.GROUP a.1 == g)))

/-- Whether a slice's stop may complete (R109): every port agent has acknowledged it, and the slice holds no open transaction,
no parked request and no write-in-progress entry. -/
def State.sliceQuiet (s : State) (d : Nat) : Bool :=
  let q := s.slice d
  q.txns.isEmpty && q.evicts.isEmpty && q.retry.isEmpty && q.wip.isEmpty && q.entries.all (fun e => !e.2.v || e.2.otc == 0) &&
    (List.range 256).all (fun p =>
      !((s.fld PRT_CTL.ROLE p == 1 || s.fld PRT_CTL.ROLE p == 4) && s.started p) || (s.port p).stops.contains d)

/-- Whether the drain of a stopping function has ended. npOpen says whether a device port still has a non-posted request
outstanding, which the device's registers do not show (R238). -/
def State.drained (s : State) (fid : Nat) (npOpen : Bool) : Bool :=
  let i := fidIndex fid
  match fidKind fid with
  | 0 => s.portDrained i npOpen
  | 1 => !s.crewOpen i
  | 2 => !s.groupOpen i
  | 3 => s.sliceQuiet i
  | _ => true

/-- A drained function is Stopped, and its waiting STOPF complete (R321). -/
def State.stopped (s : State) (fid : Nat) : State :=
  let i := fidIndex fid
  match fidKind fid with
  | 0 =>
    let s := (s.portStop i).modPort i (fun q => { q with trainedAt := none })
    let s := s.stopDone fid 0
    if s.flt.portDown.contains i then s.linkDownByFault i else s
  | 1 =>
    if s.crewState i = 2 then (s.setFld CRW_STS.STATE 1 i).stopDone fid 0
    else s.stopDone fid (resultWord 6 0 (s.crewState i)) false
  | 3 => (s.each (s.ports.map (·.1)) (fun s p => s.setCredits p i 0)).stopDone fid 0
  | 4 => (s.setFld SLC_STS.STATE 1 i).stopDone fid 0
  | _ => s.stopDone fid 0

/-! STARTF of a port (R175, R178, R226, R237, R248) -/

/-- Whether a width is allowed for a role (R20): Lafoush x4 and x8, CXL and PCIe any. -/
def widthOk (role code : Nat) : Bool := role != 4 || code == 1 || code == 2

/-- The lane pairs (slots) that a port covers (R19). -/
def State.portSlots (s : State) (p : Nat) : List Nat := (List.range (widthSlots (s.fld PRT_CTL.WIDTH p))).map (p + ·)

/-- The other started ports. -/
def State.startedOthers (s : State) (p : Nat) : List Nat := (List.range 256).filter (fun q => q != p && s.started q)

/-- The entries of CORE_FEID_MAP that name a local port (R178). -/
def State.feidEntries (s : State) (p : Nat) : Nat :=
  (s.regs.filter (fun e => e.1.r == .CORE_FEID_MAP && bitOf e.2 31 && bitsOf e.2 25 16 == s.swid && bitsOf e.2 7 0 == p)).length

/-- A register's offset as DETAIL of code 0x10 gives it (R320). -/
def regDetail (k : RKey) : Nat := k.addr / 4 % 2 ^ 16

/-- The result word of the checks of STARTF on a port, 0 where they pass; the codes in ascending order (R584). -/
def State.portCheck (s : State) (p : Nat) : Word :=
  let role := s.fld PRT_CTL.ROLE p
  let width := s.fld PRT_CTL.WIDTH p
  let fabric := role == 4
  let others := s.startedOthers p
  let ofRole := fun (r : Nat) => (others.filter (fun q => s.fld PRT_CTL.ROLE q == r)).length
  let places := (others.filter (fun q => s.fld PRT_CTL.ROLE q == 2 && s.flag PRT_CTL.ENUM q)).length
  let credits := (List.range 5).map (fun v => s.fld LFL_CRD_INIT.CRED (halfOf p) v)
  let bind := fun (q : Nat) => (s.fld PRT_BIND.HPORT q, s.fld PRT_BIND.VPPB q)
  if role = 0 then 0
  else if 5 ≤ role ∨ (!fabric ∧ 6 ≤ s.fld PRT_CTL.MAXRATE p) then resultWord 0x10 0 (regDetail ⟨.PRT_CTL, p, 0⟩)
  else if !widthOk role width ∨ p % widthSlots width ≠ 0 ∨
      others.any (fun q => (s.portSlots q).any (fun x => (s.portSlots p).contains x)) then resultWord 0x11 1 0
  else if (role = 1 ∧ 128 ≤ ofRole 1) ∨ (role = 2 ∧ 192 ≤ ofRole 2) then resultWord 0x11 2 0
  else if role = 2 ∧ s.flag PRT_CTL.ENUM p ∧ 128 ≤ places then resultWord 0x11 3 0
  else if !fabric ∧ width + 1 < s.fld PRT_CTL.MINW p then resultWord 0x11 4 0
  else if fabric ∧ (credits.contains 0 ∨ (if width = 2 then 6144 else 3072) < credits.foldl (· + ·) 0) then
    resultWord 0x17 3 0
  else if fabric ∧ !s.flag CORE_FAB_ID.VLD then resultWord 0x18 1 0
  else if role = 1 ∧ s.feidEntries p ≠ 1 then resultWord 0x18 2 0
  else if role = 3 ∧ (!s.flag PRT_BIND.VLD p ∨ s.fld PRT_CTL.ROLE (s.fld PRT_BIND.HPORT p) ≠ 1 ∨
      s.fld PRT_BIND.VPPB p < 2 ∨ 9 < s.fld PRT_BIND.VPPB p ∨
      others.any (fun q => s.fld PRT_CTL.ROLE q == 3 && bind q == bind p)) then resultWord 0x19 0 0
  else 0

/-- A port starts once its checks have passed (R217, R236, R407, R419): the HSF of a host port takes MGR and its subsystem
IDs. A port without a role has no function that runs. -/
def State.portGo (s : State) (p : Nat) : State :=
  let role := s.fld PRT_CTL.ROLE p
  let s := s.setFn (fidPort p) { run := if role = 0 then .stopped else .running }
  let s := s.modPort p (fun q => { q with trainedAt := none, safe := false })
  let s := if role = 1 then
      s.modHsf p (fun q => { q with mgr := s.flag HSF_CTL.MGR p, subsys := (s.rd ⟨.HSF_SUBSYS, p, 0⟩).toNat })
    else s
  if role = 4 then (if s.flag PRT_STS.LUP p then s.linkDrop p 1 else s).lflStart (halfOf p)
  else
    let old := s
    State.vppbs old (s.portStart p)

/-- A stopped port that the firmware program resets is started again, where the checks of STARTF let it (R250). -/
def State.restart (s : State) (fid : Nat) : State :=
  if fidKind fid = 0 ∧ (s.fn fid).restart then
    let s := s.setFn fid { s.fn fid with restart := false }
    if s.portCheck (fidIndex fid) = 0 then s.portGo (fidIndex fid) else s
  else s

/-- STOPF_COMPLETE (R321). -/
def execStopfComplete (fid : Fin 65536) (npOpen : Bool) (s : State) : Host.Outcome State Fault Refusal :=
  let f := fid.val
  if (s.fn f).run = .stopping ∧ s.drained f npOpen then .next ((s.stopped f).restart f) else .next s

/-! STARTF of a crew (R73) -/

/-- The first skein of a crew in Allocated to Releasing with an owner slot whose host port is no member. The FEID is that of the
map entry that names the port, started or not, and 0xFFF where there is none: DESIGN CHOICE (log entry 105), the spec does not say
whether an owner without an FEID (R178) fails the check. -/
def State.strayOwner (s : State) (c : Nat) : Option Nat :=
  s.skeins.find? (fun n => s.skeinOfCrew c n && skAllocated ≤ s.fld SKN_W0.STATE n &&
    s.fld SKN_W0.STATE n ≤ skReleasing &&
    (List.range 16).any (fun k => bitOf (s.rd ⟨.SKN_W1, n, 0⟩) (16 + k) && !s.member c (s.mappedFeid (s.owner n k))))

/-- The credits of a port at a slice (R107). -/
def State.cred (s : State) (d p : Nat) : Nat := bitsOf (s.rd ⟨.DIR_RCRED, d, p / 8⟩) (4 * (p % 8) + 3) (4 * (p % 8))

/-- The first slice at which a member's port agent holds no reserved credit. -/
def State.creditGap (s : State) (c : Nat) : Option Nat :=
  let agents := ((s.members c).filterMap s.agentPort).eraseDups
  (List.range 64).find? (fun d => agents.any (fun p => s.cred d p == 0))

/-- The result word of the checks of R73, 0 where they pass. -/
def State.crewCheck (s : State) (c : Nat) : Word :=
  let n := s.nmem c
  let large := s.large c
  let lo := s.fld CRW_CTL.BO_MIN c
  let hi := s.fld CRW_CTL.BO_MAX c
  if 0xA ≤ s.fld CRW_CTL.SNP_TMO c then resultWord 0x10 0 (regDetail ⟨.CRW_CTL, c, 0⟩)
  else if (!large ∧ (n = 0 ∨ 16 < n)) ∨ (large ∧ (n < 17 ∨ 512 < n)) then resultWord 0x12 0 (min n 4095)
  else if !large ∧ (lo < 8 ∨ 0x80 < hi ∨ hi < lo) then resultWord 0x13 0 0
  else if s.flt.memCut.contains c ∧ s.fld CRW_ENT_CNT.CNT c ≠ 0 then
    resultWord 0x14 0 (min (s.fld CRW_ENT_CNT.CNT c) 0xFFFF)
  else match s.strayOwner c with
    | some k => resultWord 0x15 0 k
    | none => if large then (match s.creditGap c with
        | some d => resultWord 0x16 0 d
        | none => 0) else 0

/-- A crew becomes Active; its held requests go (R72). -/
def State.crewGo (s : State) (c : Nat) : State :=
  let s := (s.setFld CRW_STS.STATE 2 c).setFn (fidCrew c) { run := .running }
  let s := { s with flt := { s.flt with memCut := s.flt.memCut.filter (· != c) } }
  s.releaseAll.replayAll none

/-! STARTF of a skein group (R56) -/

/-- The skeins of a group whose place differs from the one marked for them. -/
def State.movedSkeins (s : State) (g : Nat) : List Nat :=
  s.skeins.filter (fun n => s.fld SKN_W0.STATE n != skAbsent && s.fld SKN_W1.GROUP n == g &&
    tabGet (fun _ => none) s.marks n != some (markOf (s.rd ⟨.SKN_W0, n, 0⟩)))

/-- The moved skeins checked and marked in order; the first that breaks R36, with its cause, ends it. -/
def State.placeAll (s : State) : List Nat → Except (Nat × Nat) State
  | [] => .ok s
  | n :: ns =>
    let w := s.rd ⟨.SKN_W0, n, 0⟩
    match s.placeErr n w with
    | some c => .error (c, n)
    | none => (s.mark n (some (markOf w))).placeAll ns

/-- The new places copied into the active copy of every port. -/
def State.copyPlaces (s : State) (ns : List Nat) : State :=
  s.each (s.ports.map (·.1)) (fun s p => s.modPort p (fun q => { q with
    ext := q.ext.map (fun (a : ActExt) => if ns.contains a.skein then
      { a with mport := s.fld SKN_W0.MPORT a.skein, dbase := s.fld SKN_W0.DBASE a.skein } else a)
    skeins := q.skeins.map (fun (a : ActSkein) => if ns.contains a.skein then
      { a with mport := s.fld SKN_W0.MPORT a.skein, dbase := s.fld SKN_W0.DBASE a.skein } else a) }))

/-- STARTF on a skein group: its result word with the state. -/
def State.groupStart (s : State) (g : Nat) : Word × State :=
  let ns := s.movedSkeins g
  match (s.each ns (fun s n => s.mark n none)).placeAll ns with
  | .error (c, n) => (resultWord 0x1A c n, s)
  | .ok t => (0, ((t.copyPlaces ns).setFn (fidGroup g) { run := .running }).replayAll (some g))

/-! STARTF of a slice and of a shaper group (R107, R109, R166, R167) -/

/-- The sum of the credits of all ports at a slice. -/
def State.credSum (s : State) (d : Nat) : Nat := ((List.range 256).map (s.cred d)).foldl (· + ·) 0

/-- A slice starts: its credits are granted anew, and the requests held for it go (R109). -/
def State.sliceGo (s : State) (d : Nat) : State :=
  let s := s.setFn (fidSlice d) { run := .running }
  let s := s.each (List.range 256) (fun s p =>
    (s.setCredits p d (s.cred d p)).modPort p (fun q => { q with stops := q.stops.filter (· != d) }))
  s.releaseAll

/-- A lane's raw rate in Mbit/s by rate code (R167). -/
def laneRate (code : Nat) : Nat :=
  match code with
  | 0 => 2500
  | 1 => 5000
  | 2 => 8000
  | 3 => 16000
  | 4 => 32000
  | _ => 64000

/-- The raw rate of a port in Mbit/s: as it last trained since its start, else as PRT_CTL has it (R167). -/
def State.rawRate (s : State) (p : Nat) : Nat :=
  match (s.port p).trainedAt with
  | some (r, w) => laneRate r * 2 ^ w
  | none => laneRate (s.fld PRT_CTL.MAXRATE p) * s.portWidth p

/-- The sum of the staged CIR of queues 0 to 59 and 63 of a memory port (R167). -/
def State.committed (s : State) (p : Nat) : Nat :=
  (tenantQueues.map (fun q => s.fld TM_QRATE.CIR (64 * p + q))).foldl (· + ·) 0

/-- A shaper group starts: its queues take their staged settings (R166). -/
def State.shaperGo (s : State) (p : Nat) : State :=
  (s.each (List.range 64) (fun s q => s.applyQueue (64 * p + q))).setFn (fidShaper p) { run := .running }

/-! STARTF (R320, R321) -/

/-- The checks of a stopped function, and its start: the result word with the state. -/
def State.startChecked (s : State) (v : Nat) : Word × State :=
  let i := fidIndex v
  match fidKind v with
  | 0 => let w := s.portCheck i; if w = 0 then (0, s.portGo i) else (w, s)
  | 1 => let w := s.crewCheck i; if w = 0 then (0, s.crewGo i) else (w, s)
  | 2 => s.groupStart i
  | 3 => if 2048 < s.credSum i then (resultWord 0x17 1 0, s) else (0, s.sliceGo i)
  | 4 =>
    let w := s.sliceCheck i
    if w = 0 then (0, (s.sliceStart i).setFn v { run := .running }) else (w, s)
  | 5 =>
    let w := s.bayCheck i
    if w = 0 then (0, (s.bayApply i).setFn v { run := .running }) else (w, s)
  | _ => if s.rawRate i < s.committed i then (resultWord 0x17 2 0, s) else (0, s.shaperGo i)

/-- The fence causes on their way that name a crew. -/
def State.fencesOf (s : State) (c : Nat) : Option FenceReq := s.flt.fences.find? (fun f => f.crews == .one c || f.crews == .all)

/-- STARTF from a seat: its result word with the state (R320, R321). In the safe state every function answers 0x06, a Running one
too (R489). tie says that a fence cause for the crew, one on its way, reaches the fault collector on the same cycle (R74). -/
def State.startf (s : State) (seat v : Nat) (tie : Bool) : Word × State :=
  if !fidOk v then (resultWord 1 0 0, s)
  else if !s.mayAct seat (fidKind v) (fidIndex v) then (resultWord 5 0 0, s)
  else if s.safe then (resultWord 6 0 (if fidKind v = 1 then s.crewState (fidIndex v) else 0), s)
  else
    let f := s.fn v
    if !s.priv seat ∧ f.owner.isSome ∧ f.owner ≠ some seat then (resultWord 2 0 (f.owner.getD 0), s)
    else if f.run ≠ .stopped ∧ !(f.run = .running ∧ (s.outOfPlay v).isSome) then (resultWord 3 0 0, s)
    else match s.outOfPlay v with
      | some st => (resultWord 6 0 st, s)
      | none =>
        if fidKind v = 1 ∧ tie then
          match s.fencesOf (fidIndex v) with
          | some c => (resultWord 0x1B 0 c.cause, s.takeFence c)
          | none => s.startChecked v
        else s.startChecked v

end Sys2Proof.Machine
end

