-- ==== Sys2Proof/Machine/FmSequences.lean ====
section
/-! DEFINITION. Fabric manager commands that run a sequence (spec/09 R250): the reset of a port, a cast-on, a bind-off. The
firmware program takes the steps up to the first wait at the command; the steps after a wait of R58 and R59 are commands of its
own (log entry 109). -/

namespace Sys2Proof.Machine

/-- PHYSICAL_PORT_CONTROL (R250): the reset of a port's link through STOPF and STARTF. A port that is being stopped already is
started by whoever stops it. -/
def execPhysicalPortControl (tag port : Fin 256) (s : State) : Host.Outcome State Fault Refusal :=
  let v := fidPort port.val
  let s := s.fm tag.val .background []
  match (s.fn v).run with
  | .running => .next ((s.setFn v { s.fn v with run := .stopping, restart := true }).stopBegins v)
  | .stopped => .next (if s.portCheck port.val = 0 then s.portGo port.val else s)
  | .stopping => .next s

/-- INITIATE_DYNAMIC_CAPACITY_ADD (R58, R250): a cast-on of a skein to a host port, up to its EPOCH: the skein table words, and
the extent map entry that names the skein. -/
def execInitiateDynamicCapacityAdd (tag hport : Fin 256) (skein : Fin 65536) (w0 w1 : Word) (index : Fin 256) (base : BitVec 18)
    (s : State) : Host.Outcome State Fault Refusal :=
  let p := hport.val
  let s := s.fm tag.val .background []
  let s := writeSkeinW1 (writeSkeinW0 s skein.val w0) skein.val w1
  if s.fld SKN_W0.STATE skein.val = skAllocated then
    let s := s.wr ⟨.PRT_EXT, p, index.val⟩ (wordOf (2 ^ 63 + 2 ^ 46 * skein.val + 2 ^ 28 * base.toNat))
    .next (s.modPort p (fun q => { q with epochs := q.epochs ++ [{ seat := none, rd := 0 }] }))
  else .next s

/-- INITIATE_DYNAMIC_CAPACITY_RELEASE (R59, R250): a bind-off of a skein from a host port, up to the host's release: Releasing,
unless the skein is Held, and a release request. -/
def execInitiateDynamicCapacityRelease (tag hport : Fin 256) (skein : Fin 65536) (s : State) : Host.Outcome State Fault Refusal :=
  let p := hport.val
  let n := skein.val
  let s := s.fm tag.val .background []
  let w := s.rd ⟨.SKN_W0, n, 0⟩
  let s := if s.fld SKN_W0.STATE n = skHeld then s else writeSkeinW0 s n (putBits w 63 60 skReleasing)
  .next (if s.accepted n p then writeDce s p (wordOf (2 ^ 31 + n)) else s)

end Sys2Proof.Machine
end

