-- ==== Sys2Proof/Machine/Loader.lean ====
section
/-! DEFINITION. The image loader, the keys it accepts, the fuse burns and the lifecycle transitions (spec/12 R310 to R312,
spec/21 R522 to R525). -/

namespace Sys2Proof.Machine

/-! The instruction store (R310): 64 Ki words of 8 bytes, by word; an unlisted word is 0 -/

def storeWords : Nat := 65536

def State.instr (s : State) (k : Nat) : Word := tabGet (fun _ => 0) s.eng.store k

def State.setInstr (s : State) (k : Nat) (v : Word) : State :=
  { s with eng := { s.eng with store := tabSet id (fun _ => 0) s.eng.store k v } }

/-- The first byte of the user region (R310). -/
def State.userBase (s : State) : Nat := 4096 * s.fld ICF_CTL.USPLIT

/-- The SHA-384 of the privileged region (R520). -/
def State.regionDigest (s : State) : Nat :=
  Config.sha384 ((List.range (s.userBase / 8)).flatMap (fun k => bytesOf (s.instr k) 8))

/-! Keys and versions (R522) -/

def State.keySlot (s : State) (k : Nat) : KeySlot := tabGet (fun _ => {}) s.chip.keys k

def State.setKeySlot (s : State) (k : Nat) (v : KeySlot) : State :=
  { s with chip := { s.chip with keys := tabSet id (fun _ => {}) s.chip.keys k v } }

/-- The key hashes accepted for firmware (false) and user programs (true) in the present lifecycle (R522). -/
def State.acceptedKeys (s : State) (user : Bool) : List Nat :=
  let lc := s.lifecycle
  if user then
    if lc = lcDevelopment ∨ lc = lcProduction then
      (List.range 4).filterMap (fun k => if (s.keySlot k).revoked then none else (s.keySlot k).hash)
    else []
  else if lc = lcDevelopment then [Config.keyHash 1, Config.keyHash 2]
  else if lc = lcProduction then [Config.keyHash 2]
  else if lc = lcReturned then [Config.keyHash 3]
  else [Config.keyHash 0]

/-! The header (R311) -/

/-- A little-endian field of an image's header in the scratchpad. -/
def State.hdr (s : State) (src off n : Nat) : Nat := s.load (src + off) n

/-- The bytes of code of the image at src. -/
def State.imageLen (s : State) (src : Nat) : Nat := s.hdr src 12 4

/-- Check 0x1 of R312. An image that does not lie in the scratchpad has a bad LENGTH. -/
def State.headerBad (s : State) (kind src : Nat) : Bool :=
  let len := s.imageLen src
  memSize < src + 256 || s.hdr src 0 4 != 0x1CFE0001 || s.hdr src 4 1 != kind || s.hdr src 5 3 != 0 ||
    len % 8 != 0 || len == 0 || decide (memSize < src + 256 + len) || s.hdr src 216 40 != 0 ||
    (kind == 1 && s.hdr src 20 4 != 0)

/-- Check 0x5: the code does not fit inside the region of its kind. -/
def State.regionMiss (s : State) (kind dst len : Nat) : Bool :=
  let lo := if kind = 0 then 0 else s.userBase
  let hi := if kind = 0 then s.userBase else 8 * storeWords
  decide (dst < lo) || decide (hi < dst + len)

/-- Check 0x6: a seat that is neither Idle nor Halted has its pc inside the destination range. -/
def State.rangeBusy (s : State) (dst len : Nat) : Bool :=
  (List.range 16).any (fun n => s.seatState n != seatIdle && s.seatState n != seatHalted &&
    decide (dst ≤ (s.seat n).pc) && decide ((s.seat n).pc < dst + len))

/-- The part of the first n bytes of the image that the loader may not read, with its cause: by the lock, for a user image, or by
the protection unit of privileged seats, as which the loader is checked (R361, R365). A refusal by that unit is captured as one of
seat 0 and reported as RESULT 0x8: DESIGN CHOICE (log entry 24). -/
def State.loadRefusal (s : State) (l : LoadSt) (n : Nat) : Option (Nat × Nat) :=
  if l.lockRefused ∧ secureBase < l.src + n then some (max l.src secureBase, 2)
  else if memSize < l.src + n then none
  else s.refusal (.seat 0) false .read l.src n

/-- The checks made before any write, with their codes (R312). A header that is refused cannot be read: 0x8. -/
def State.earlyResult (s : State) (l : LoadSt) : Nat :=
  if (s.loadRefusal l 256).isSome then 8
  else if s.headerBad l.kind l.src then 1
  else if s.regionMiss l.kind l.dst (s.imageLen l.src) then 5
  else if s.rangeBusy l.dst (s.imageLen l.src) then 6
  else 0

/-- The checks made as the image is read and hashed (R312). ue says that the scratchpad returned an uncorrectable error. -/
def State.lateResult (s : State) (l : LoadSt) (ue : Bool) : Nat :=
  let len := s.imageLen l.src
  let key := s.bytes (l.src + 24) 96
  let digest := Config.sha384 (s.bytes l.src 120 ++ s.bytes (l.src + 256) len)
  if !l.keys.contains (Config.sha384 key) then 2
  else if (s.loadRefusal l (256 + len)).isSome then 8
  else if ue then 7
  else if !Config.verifies key digest (s.bytes (l.src + 120) 96) then 3
  else if s.hdr l.src 8 4 < l.least then 4
  else 0

/-- The destination range written with the code, or filled with zeros. -/
def State.putCode (s : State) (l : LoadSt) (zero : Bool) : State :=
  s.each (List.range (s.imageLen l.src / 8)) (fun s k =>
    s.setInstr (l.dst / 8 + k) (if zero then 0 else wordOf (s.load (l.src + 256 + 8 * k) 8)))

/-- The end of a load: its RESULT with the state (R312). -/
def State.finishLoad (s : State) (l : LoadSt) (ue : Bool) : Nat × State :=
  let early := s.earlyResult l
  let r := if early ≠ 0 then early else s.lateResult l ue
  let n := if early ≠ 0 then 256 else 256 + s.imageLen l.src
  let s := match (if r = 8 then s.loadRefusal l n else none) with
    | some x => s.violate (.seat 0) false .read x
    | none => s
  let s := if early ≠ 0 then s else s.putCode l (r != 0)
  let s := if r = 0 ∧ l.kind = 0 then s.wr ⟨.ICF_TVEC, 0, 0⟩ (wordOf (l.dst + s.hdr l.src 20 4) &&& 0x7FFF8) else s
  let s := ((s.setFld ICF_LOAD_STS.BUSY 0).setFld ICF_LOAD_STS.DONE 1).setFld ICF_LOAD_STS.RESULT r
  (r, ({ s with eng := { s.eng with load := none } }).post 0x03 0 r)

/-- A load that starts now (R312, R365, R522, R523). -/
def State.loadStart (s : State) (kind src dst : Nat) : LoadSt :=
  { kind := kind, src := src, dst := dst, lockRefused := kind == 1 && s.flag SPD_SEC_LOCK.LOCK,
    keys := s.acceptedKeys (kind == 1), least := if kind = 0 then s.chip.fwMin else s.chip.userMin }

/-- A write of ICF_LOAD_CTL (R330): GO starts a load unless one runs. A user image that reaches the locked secure region is
refused by the lock (R365). -/
def writeLoadCtl (s : State) (v : Word) : State :=
  let s := s.wr ⟨.ICF_LOAD_CTL, 0, 0⟩ (v &&& 0x41FF007F)
  if !bitOf v 31 ∨ s.flag ICF_LOAD_STS.BUSY then s
  else
    let l := s.loadStart (bitsOf v 30 30) (4096 * bitsOf v 24 16) (4096 * bitsOf v 6 0)
    ({ s with eng := { s.eng with load := some l } }).setFld ICF_LOAD_STS.BUSY 1

/-- IMAGE_LOAD_DONE (R312). An image that reaches the secure region waits for a wipe (R366). -/
def execImageLoadDone (ue : Bool) (s : State) : Host.Outcome State Fault Refusal :=
  match s.eng.load with
  | none => .next s
  | some l =>
    if s.wipeBlocks l.src (256 + s.imageLen l.src) then .next s
    else .next ((if ue then s.spadUe l.src false else s).finishLoad l ue).2

/-! Fuse burns (R523) -/

/-- Whether a burn is refused (R523): RESULT 0x1. -/
def State.burnRefused (s : State) (op slot : Nat) : Bool :=
  let lc := s.lifecycle
  let slotLc := lc == lcBlank || lc == lcManufacturing || lc == lcReturned
  match op with
  | 1 => slotLc || (s.keySlot slot).hash.isSome || (s.keySlot slot).revoked
  | 2 => slotLc
  | 3 => decide (32 ≤ s.chip.fwMin)
  | 4 => decide (32 ≤ s.chip.userMin)
  | _ => true

/-- A write of FUSE_PGM (R523): OP, SLOT and SRC are stored; GO starts OP unless a burn runs. -/
def writeFusePgm (s : State) (v : Word) : State :=
  let busy := s.flag FUSE_PGM.BUSY
  let s := s.wr ⟨.FUSE_PGM, 0, 0⟩ ((v &&& 0x3E1FFFF0) ||| (s.rd ⟨.FUSE_PGM, 0, 0⟩ &&& 0x41E00000))
  let op := bitsOf v 29 27
  let slot := bitsOf v 26 25
  if !bitOf v 31 ∨ busy then s
  else if s.burnRefused op slot then s.setFld FUSE_PGM.RESULT 1
  else if !s.flag GLB_PWR_STS.FUSE_PWR then s.setFld FUSE_PGM.RESULT 2
  else
    let hash := s.load (bitsOf v 20 4 * 16) 48
    ({ s with chip := { s.chip with burn := some (op, slot, hash) } }).setFld FUSE_PGM.BUSY 1

/-- The row of a burn takes its new value. -/
def State.burnt (s : State) (op slot hash : Nat) : State :=
  match op with
  | 1 => s.setKeySlot slot { s.keySlot slot with hash := some hash }
  | 2 => s.setKeySlot slot { s.keySlot slot with revoked := true }
  | 3 => { s with chip := { s.chip with fwMin := s.chip.fwMin + 1 } }
  | _ => { s with chip := { s.chip with userMin := s.chip.userMin + 1 } }

/-- The row of a burn reads as one whose check fails (R518): a key slot as revoked, a minimum version as 32. -/
def State.rowBad (s : State) (op slot : Nat) : State :=
  match op with
  | 1 | 2 => s.setKeySlot slot { s.keySlot slot with revoked := true }
  | 3 => { s with chip := { s.chip with fwMin := 32 } }
  | _ => { s with chip := { s.chip with userMin := 32 } }

/-- The end of a burn (R523): RESULT 0x0, or 0x3 with the row as fuse load reads it. -/
def State.burnDone (s : State) (verified bad : Bool) : State :=
  match s.chip.burn with
  | none => s
  | some (op, slot, hash) =>
    let s := if verified then s.burnt op slot hash else if bad then s.rowBad op slot else s
    let s := { s with chip := { s.chip with burn := none } }
    (s.setFld FUSE_PGM.BUSY 0).setFld FUSE_PGM.RESULT (if verified then 0 else 3)

/-! Lifecycle transitions (R524, R525) -/

/-- Whether a transition is allowed (R524). -/
def transitionOk (lc target : Nat) : Bool :=
  (lc == lcBlank && target == lcManufacturing) || (lc == lcManufacturing && target == lcDevelopment) ||
    ((lc == lcManufacturing || lc == lcDevelopment) && target == lcProduction) ||
    ((lc == lcDevelopment || lc == lcProduction) && target == lcReturned)

/-- The code that lifecycle bits stand for (R524). -/
def LifeBits.code (b : LifeBits) : Nat :=
  if b.t then lcReturned else if b.p then lcProduction else if b.d then lcDevelopment
  else if b.m then lcManufacturing else lcBlank

/-- Lifecycle bits with the bit of a transition to a lifecycle set; no transition clears one (R524). -/
def LifeBits.burn (b : LifeBits) (target : Nat) : LifeBits :=
  { m := b.m || target == lcManufacturing, d := b.d || target == lcDevelopment,
    p := b.p || target == lcProduction, t := b.t || target == lcReturned }

/-- A write of GLB_LIFECYCLE (R525). A reserved code leaves TARGET as it was (R8), and GO then asks for that one. verified says
whether the burn of the bit in its three copies verifies. The commit starts the wipe of the secure region (R366). -/
def writeLifecycle (s : State) (v : Word) (verified : Bool) : State :=
  let busy := s.flag GLB_LIFECYCLE.BUSY
  let s := if bitsOf v 27 24 ≤ lcReturned then s.setFld GLB_LIFECYCLE.TARGET (bitsOf v 27 24) else s
  let target := s.fld GLB_LIFECYCLE.TARGET
  if !bitOf v 31 ∨ busy then s
  else if !transitionOk s.lifecycle target then s.setFld GLB_LIFECYCLE.RESULT 1
  else if !s.flag GLB_PWR_STS.FUSE_PWR then s.setFld GLB_LIFECYCLE.RESULT 2
  else if !verified then s.setFld GLB_LIFECYCLE.RESULT 3
  else
    let s := (s.setFld GLB_LIFECYCLE.BUSY 1).setFld SPD_TAMP_STS.LC_WIPE 1
    ({ s with chip := { s.chip with target := some target, life := s.chip.life.burn target } }).setFld SPD_TAMP_STS.BUSY 1

/-- The wipe after a commit is complete: CODE and RESULT are written and the extra effect applies (R524, R525). -/
def State.commitDone (s : State) : State :=
  match s.chip.target with
  | none => s
  | some t =>
    let s := s.wipeDone
    let s := { s with chip := { s.chip with target := none } }
    let s := ((s.setFld GLB_LIFECYCLE.CODE t).setFld GLB_LIFECYCLE.RESULT 0).setFld GLB_LIFECYCLE.BUSY 0
    if t = lcProduction then s.setFld SPD_DBG_CTL.EN 0
    else if t = lcReturned then s.each (List.range 4) (fun s k => s.setKeySlot k { s.keySlot k with revoked := true })
    else s

end Sys2Proof.Machine
end

