-- ==== Sys2Proof/Machine/Clock.lean ====
section
/-! DEFINITION. Clocks, resets, fuse load, the boot ROM, thermal sensing and supplies (spec/21, spec/22). -/

namespace Sys2Proof.Machine

/-! What a reset leaves (R9, R513 to R517) -/

/-- The register file with the bits of a mask kept and every other bit at its reset value. -/
def keepRegs (mask : RKey → Word) (l : List (RKey × Word)) : List (RKey × Word) :=
  l.filterMap (fun e =>
    let v := (e.2 &&& mask e.1) ||| (RKey.reset e.1 &&& ~~~(mask e.1))
    if v = RKey.reset e.1 then none else some (e.1, v))

/-- The bits that a warm reset keeps: those of domain Cold and Fuse, and the state of the NoC bridges, which run on (R515). -/
def warmMask (k : RKey) : Word :=
  match k.r with
  | .NOC_BR_STS => 0x80000000
  | r => r.warmKeep

/-- The bits that a power-on or cold reset keeps: fused values, which change at fuse load alone (R9), but for FUSE_STS, which
tells of the fuse load to come and reads 0 until it ends (DESIGN CHOICE: the spec does not say what it reads in between), the
level of the bay supplies and of VDD_FUSE, and, over a reset without a fall of PWR_OK, the latch of THERMTRIP_N (R518, R543,
R545). -/
def coldMask (tripped : Bool) (k : RKey) : Word :=
  match k.r with
  | .FUSE_STS => 0
  | .GLB_LIFECYCLE => 0xF
  | .LN_STS => 0xC00FFC00
  | .GLB_PWR_STS => 0xA0000000
  | .GLB_THERM_STS => if tripped then 0x20000000 else 0
  | r => match r.row.domain with
    | .fuse => BitVec.allOnes 64
    | _ => 0

/-- SPD_DBG_CTL.EN at its reset value, which follows the lifecycle (R370). -/
def State.debugReset (s : State) : State := s.setFld SPD_DBG_CTL.EN (bit (s.lifecycle != lcProduction))

/-- What outlives every reset: the commands that wait, what has been sent, the draws made, the fused keys and versions, the
tamper inputs, and, at a warm reset, the incarnation value that the next one must differ from (R193). -/
def State.fresh (s : State) (regs : List (RKey × Word)) (c : Chip) (old : Option Nat) : State :=
  let t : State := { pending := s.pending, out := s.out, free := s.free, regs := regs, chip := c, fab := { old := old } }
  t.debugReset

/-- LAST and REQ of GLB_RST_STS (R516). -/
def ResetKind.last : ResetKind → Nat
  | .powerOn => 0
  | .coldPin => 1
  | .coldReg _ => 2
  | .warmPin => 3
  | .warmReg _ => 4

def ResetKind.req : ResetKind → Nat
  | .coldReg r => r
  | .warmReg r => r
  | _ => 0

def ResetKind.warm (k : ResetKind) : Bool := decide (3 ≤ k.last)

/-- A power-on or cold reset. A burn that PWR_OK stops leaves
a key row that reads as revoked (R551). keepTrip: PWR_OK has not fallen. -/
def State.coldReset (s : State) (k : ResetKind) (keepTrip : Bool) : State :=
  let s := match s.chip.burn with
    | some (1, slot, _) => s.rowBad 1 slot
    | _ => s
  let c : Chip := { fuses := s.chip.fuses, life := s.chip.life, keys := s.chip.keys, fwMin := s.chip.fwMin,
                    userMin := s.chip.userMin, tamper := s.chip.tamper }
  let s := s.fresh (keepRegs (coldMask keepTrip) s.regs) c none
  (s.setFld GLB_RST_STS.LAST k.last).setFld GLB_RST_STS.REQ k.req

/-- A warm reset: domain Cold and Fuse, the scratchpad, the bays, the privileged region of the instruction store and the boot
ROM's digest are kept (R515). -/
def State.warmReset (s : State) (k : ResetKind) : State :=
  let kept := s.eng.store.filter (fun e => 8 * e.1 < s.userBase)
  let c : Chip := { s.chip with boot := .rom, burn := none, resetHeld := none }
  let t := s.fresh (keepRegs warmMask s.regs) c (if s.fab.inc.isSome then s.fab.inc else s.fab.old)
  let t := { t with mem := s.mem, bays := s.bays, eng := { t.eng with store := kept } }
  let t := (t.setFld GLB_RST_STS.LAST k.last).setFld GLB_RST_STS.REQ k.req
  (t.count GLB_RST_STS.WARM_CNT).setFld GLB_RST_STS.SAFE (bit s.safe)

/-- A reset as it is asked for: held while a fuse burn or the wipe of a commit runs, except a power-on reset (R517). Of two that
wait, the cold one is kept. A device that fuse load has stopped in boot leaves that state by a power-on or cold reset alone
(R518). -/
def State.askReset (s : State) (k : ResetKind) : State :=
  if s.chip.dead ∧ k.warm then s
  else if s.chip.burn.isSome ∨ s.chip.target.isSome then
    let keep := s.chip.resetHeld.any (fun h => !h.warm)
    if keep then s else { s with chip := { s.chip with resetHeld := some k } }
  else if k.warm then s.warmReset k
  else s.coldReset k true

/-- A reset that has waited, once nothing holds it. -/
def State.runHeld (s : State) : State :=
  match s.chip.resetHeld with
  | some k => if s.chip.burn.isSome ∨ s.chip.target.isSome then s
    else ({ s with chip := { s.chip with resetHeld := none } }).askReset k
  | none => s

/-- POWER_ON_RESET (R513, R517). byMonitor: a supply monitor has tripped while PWR_OK stayed high, so that the latch of
THERMTRIP_N stays (R543). -/
def execPowerOnReset (byMonitor : Bool) (s : State) : Host.Outcome State Fault Refusal :=
  .next (s.coldReset .powerOn byMonitor)

/-- COLD_RESET (R513). -/
def execColdReset (s : State) : Host.Outcome State Fault Refusal := .next (s.askReset .coldPin)

/-- WARM_RESET (R513). -/
def execWarmReset (s : State) : Host.Outcome State Fault Refusal := .next (s.askReset .warmPin)

/-- A write of GLB_RST_CTL (R514, R516): OP 0b10 a cold reset, 0b01 a warm one, with the key. -/
def writeRstCtl (s : State) (req : Nat) (v : Word) : State :=
  if bitsOf v 15 0 ≠ 0xA5C3 then s
  else match bitsOf v 31 30 with
    | 1 => s.askReset (.warmReg req)
    | 2 => s.askReset (.coldReg req)
    | _ => s

/-- FUSE_BURN_DONE (R523). bad: the row, as fuse load reads it, fails its check. -/
def execFuseBurnDone (verified bad : Bool) (s : State) : Host.Outcome State Fault Refusal :=
  .next (s.burnDone verified bad).runHeld

/-- LIFECYCLE_COMMIT_DONE (R525). -/
def execLifecycleCommitDone (s : State) : Host.Outcome State Fault Refusal := .next s.commitDone.runHeld

/-! Fuse load (R518, R519) -/

/-- The bits of a register of domain Fuse that a fuse row gives (R32, R301, R302, R400, R576). -/
def Reg.fuseMask : Reg → Word
  | .GLB_ID => 0xF
  | .NOC_NODE => 0xF01F0700
  | .FUSE_BOOT => 0xFF37
  | .FUSE_LN_REP => 0xFFFFFFFF
  | .FUSE_SRAM_REP => 0xFFFFFEFF
  | _ => 0

/-- Whether a register is loaded from fuse rows. -/
def Reg.fused (r : Reg) : Bool := r.fuseMask != 0

/-- The value that a fuse row gives its register: fused bits, and every other bit as unfused. -/
def fusedWord (k : RKey) (v : Word) : Word := (v &&& k.r.fuseMask) ||| (RKey.reset k &&& ~~~k.r.fuseMask)

/-- The registers of domain Fuse loaded from the fuse rows (R9, R518): a register without a row reads its unfused value.
FUSE_SRAM_NUM holds the number of valid repairs (R302). -/
def State.loadFuses (s : State) : State :=
  let s := ({ s with regs := s.regs.filter (fun e => !e.1.r.fused) } : State).each
    (s.chip.fuses.filter (fun e => e.1.r.fused && decide (e.1.i < e.1.r.row.count) && e.1.j == 0))
    (fun s e => s.wr e.1 (fusedWord e.1 e.2))
  s.wr ⟨.FUSE_SRAM_NUM, 0, 0⟩
    (wordOf ((List.range 512).filter (fun k => bitOf (s.rd ⟨.FUSE_SRAM_REP, k, 0⟩) 31)).length)

/-- The cause for which the contents of the fuse rows fail fuse load, 0 for none (R33, R518): a reserved TJ_RANGE; and, since R400
and R303 say that the device never reports them, a reserved DIE of NOC_NODE and a reserved ARRAY of a valid repair (DESIGN CHOICE:
the causes of the last two). -/
def fuseCause (l : List (RKey × Word)) : Nat :=
  if l.any (fun e => e.1.r == .GLB_ID && decide (2 ≤ bitsOf e.2 3 0)) then 2
  else if l.any (fun e => e.1.r == .FUSE_SRAM_REP && bitOf e.2 31 && decide (5 ≤ bitsOf e.2 30 27)) then 1
  else if l.any (fun e => e.1.r == .NOC_NODE && decide (11 ≤ bitsOf e.2 31 28) && bitsOf e.2 31 28 != 15) then 4
  else 0

/-- LN_STS.MAP and LOGICAL of a lane instance, by the repair of its octet (R253, R272). -/
def State.laneMap (s : State) (n : Nat) : Nat × Nat :=
  let d := n / 72
  let o := octetOfLane n
  let l := 8 * o + s.repairPos o
  if n % 72 < 64 then
    if s.repaired o ∧ n % 72 = l % 64 then (3, 0x3FF) else (0, 64 * d + n % 72)
  else if s.repaired o then (2, l) else (1, 0x3FF)

/-- The lane repairs put into effect (R253). -/
def State.showRepairs (s : State) : State :=
  s.each (List.range 576) (fun s n =>
    (s.setFld LN_STS.MAP (s.laneMap n).1 n).setFld LN_STS.LOGICAL (s.laneMap n).2 n)

/-- Fuse load stops the device in boot (R518). -/
def State.fuseFail (s : State) (cause row : Nat) : State :=
  let s := ((s.setFld FUSE_STS.FAIL 1).setFld FUSE_STS.ROW row).setFld FUSE_STS.CAUSE cause
  { s with chip := { s.chip with dead := true } }

/-- FUSE_LOAD: the fuse rows are read. keyBad names the operator key slots, fwBad and userBad the minimum versions whose rows fail
their check; cause and row name a row that stops the device in boot; fusePwr is whether VDD_FUSE is present. A failed load leaves
every register of domain Fuse but FUSE_STS as it was (DESIGN CHOICE). A good one lets the NoC bridges train (R385). -/
def execFuseLoad (cause : Fin 5) (row : Fin 256) (keyBad : List (Fin 4))
    (fwBad userBad fusePwr : Bool) (s : State) : Host.Outcome State Fault Refusal :=
  if s.flag FUSE_STS.DONE ∨ s.flag FUSE_STS.FAIL then .next s
  else
    let s := s.setFld GLB_PWR_STS.FUSE_PWR (bit fusePwr)
    let s := s.each keyBad (fun s k => s.rowBad 1 k.val)
    let s := if fwBad then s.rowBad 3 0 else s
    let s := if userBad then s.rowBad 4 0 else s
    let why := if cause.val ≠ 0 then cause.val else fuseCause s.chip.fuses
    if why ≠ 0 then .next (s.fuseFail why row.val)
    else
      let s := s.loadFuses.setFld GLB_LIFECYCLE.CODE s.chip.life.code
      let s := (s.setFld FUSE_STS.DONE 1).debugReset.showRepairs
      .next (s.each (List.range 18) (fun s b => s.setFld NOC_BR_STS.UP 1 b))

/-- PLL_LOCK_TIMEOUT (R511): a core die's PLL stops the boot; a port island's sets PLL_FAIL. -/
def execPllLockTimeout (island : Option (Fin 64)) (s : State) : Host.Outcome State Fault Refusal :=
  match island with
  | none =>
    .next (s.fuseFail 5 (s.fld FUSE_STS.ROW))
  | some o =>
    let s := s.setFld GLB_CLK_STS.PLL_FAIL 1
    .next { s with chip := { s.chip with pllFail := if s.chip.pllFail.contains o.val then s.chip.pllFail
                                                    else s.chip.pllFail ++ [o.val] } }

/-! References and supplies (R510, R537) -/

/-- A lane loses its lock where it has it (R263, R266). -/
def State.loseLock (s : State) (n : Nat) : State :=
  match execLolAssert (Fin.ofNat 576 n) s with
  | .next t => t
  | _ => s

/-- A lane of each started CXL or PCIe port that has lost its lock takes the port's link down (R266). -/
def State.pcieDown (s : State) (f : Nat → Bool) : State :=
  s.each ((List.range 256).filter (fun p => f p && s.flag PRT_STS.LUP p)) (fun s p => s.portDown p 2)

/-- REFCLK_LOSS (R510): of a reference, by its number. -/
def execRefclkLoss (ref : Fin 8) (s : State) : Host.Outcome State Fault Refusal :=
  let d := ref.val
  let ok := s.fld GLB_CLK_STS.REF_OK
  let has := fun (k : Nat) => ok.testBit k
  let s := s.setFld GLB_CLK_STS.REF_LOST (s.fld GLB_CLK_STS.REF_LOST ||| 2 ^ d)
  let s := if has d then s.setFld GLB_CLK_STS.REF_OK (ok - 2 ^ d) else s
  let s := if d = 0 ∧ has 4 then s.setFld GLB_CLK_STS.CORE0_ALT 1
    else if d = 4 ∧ has 0 then s.setFld GLB_CLK_STS.CORE1_ALT 1 else s
  let s := s.each ((List.range 72).map (fun k => 72 * d + k)) (fun s n => s.loseLock n)
  .next (s.pcieDown (fun p => p / 32 == d))

/-- REFCLK_GOOD (R510, R512). -/
def execRefclkGood (ref : Fin 8) (s : State) : Host.Outcome State Fault Refusal :=
  .next (s.setFld GLB_CLK_STS.REF_OK (s.fld GLB_CLK_STS.REF_OK ||| 2 ^ ref.val))

/-- HKCLK_LOSS (R510). -/
def execHkclkLoss (s : State) : Host.Outcome State Fault Refusal := .next (s.setFld GLB_CLK_STS.HK_LOST 1)

/-- RAIL_OUT_OF_TOLERANCE (R537): VDDA_LANE or VDDH_LANE; the lanes lose lock and their links go down. -/
def execRailOutOfTolerance (s : State) : Host.Outcome State Fault Refusal :=
  .next ((s.each (List.range 576) (fun s n => s.loseLock n)).pcieDown (fun _ => true))

/-! Thermal sensing (R541 to R547) -/

/-- The codes at which WARN sets and below which it clears (R541), in quarters of a degree above −40 °C. -/
def State.warnLimits (s : State) : Nat × Nat := if s.fld GLB_ID.TJ_RANGE = 0 then (540, 528) else (580, 568)

/-- The hottest reading of GLB_TEMP with its die; the lowest die where several are equal. -/
def State.hottest (s : State) : Nat × Nat :=
  (List.range 11).foldl (fun a i =>
    let t := s.fld GLB_TEMP.TEMP i
    if a.1 < t then (t, i) else a) (0, 0)

/-- THERMAL_SAMPLE (R542, R546): the dies' hottest sensors. -/
def execThermalSample (readings : List (Fin 1024)) (s : State) : Host.Outcome State Fault Refusal :=
  let s := s.each ((readings.take 11).zipIdx) (fun s r =>
    (s.setFld GLB_TEMP.TEMP r.1.val r.2).setFld GLB_TEMP.VLD 1 r.2)
  let (t, die) := s.hottest
  let (on, off) := s.warnLimits
  let old := s.flag GLB_THERM_STS.WARN
  let warn := if on ≤ t then true else if t < off then false else old
  let s := (s.setFld GLB_THERM_STS.WARN (bit warn)).setFld GLB_THERM_STS.HOT die
  let s := if warn ∧ !old then s.setFld GLB_THERM_STS.WARN_STK 1 else s
  .next (if s.fld GLB_THERM_STS.PEAK < t then s.setFld GLB_THERM_STS.PEAK t else s)

/-- THERMTRIP (R543). -/
def execThermtrip (s : State) : Host.Outcome State Fault Refusal := .next (s.setFld GLB_THERM_STS.TRIP 1)

/-- A write of GLB_THERM_STS (R546): clearing WARN_STK sets PEAK to the present hottest reading. -/
def writeThermSts (s : State) (v : Word) : State :=
  if bitOf v 30 then (s.setFld GLB_THERM_STS.WARN_STK 0).setFld GLB_THERM_STS.PEAK s.hottest.1 else s

/-! The boot ROM (R520, R521) -/

/-- The ROM enters firmware (R520): seat 0 is Ready at ENTRY. -/
def State.enterFirmware (s : State) (source entry : Nat) : State :=
  let s := (s.setFld GLB_BOOT_STS.DONE 1).setFld GLB_BOOT_STS.SOURCE source
  let s := { s with chip := { s.chip with boot := .firmware, entry := entry } }
  (s.modSeat 0 (fun q => { q with pc := entry })).setSeatState 0 seatReady

/-- An image copied to scratchpad offset 0 and loaded into the privileged region: RESULT with the state. The digest of a
verified load is kept. -/
def State.romLoad (s : State) (image : List Byte) : Nat × State :=
  let s := writeLoadCtl (s.storeBytes 0 image) 0x80000000
  let (r, s) := s.finishLoad (s.loadStart 0 0 0) false
  (r, if r = 0 then { s with chip := { s.chip with digest := some s.regionDigest } } else s)

/-- A slot of the flash tried: RES_A or RES_B is written. -/
def State.trySlot (s : State) (f : Fld) (image : List Byte) : Nat × State :=
  let (r, s) := s.romLoad image
  (r, s.setFld f r)

/-- The ROM turns to the host port of FUSE_BOOT (R520, R576): FEID 0xFFE is mapped to it and it starts as host port with MGR 1. -/
def State.bootHost (s : State) : State :=
  let w := s.fld FUSE_BOOT.WIDTH
  let p := s.fld FUSE_BOOT.HPORT / widthSlots w * widthSlots w
  let rate := if 6 ≤ s.fld FUSE_BOOT.RATE then 5 else s.fld FUSE_BOOT.RATE
  let s := ((s.setFld CORE_FEID_MAP.VLD 1 0xFFE).setFld CORE_FEID_MAP.SWID s.swid 0xFFE).setFld CORE_FEID_MAP.PORT p 0xFFE
  let s := ((s.setFld PRT_CTL.ROLE 1 p).setFld PRT_CTL.WIDTH w p).setFld PRT_CTL.MAXRATE rate p
  let s := s.setFld HSF_CTL.MGR 1 p
  { s.portGo p with chip := { s.chip with boot := .hostWait } }

/-- The ROM halts seat 0 (R520). -/
def State.bootHalt (s : State) : State :=
  ({ s with chip := { s.chip with boot := .halted } }).setSeatState 0 seatHalted

/-- BOOT_SEQUENCE (R520): BOOT_SEL as it was sampled, and the images in slots a and b of the flash, header first. -/
def execBootSequence (sel : Fin 4) (slotA slotB : List Byte) (s : State) : Host.Outcome State Fault Refusal :=
  if s.chip.dead ∨ s.chip.boot ≠ .rom ∨ !s.flag FUSE_STS.DONE then .next s
  else if 3 ≤ s.fld GLB_RST_STS.LAST ∧ s.chip.digest = some s.regionDigest then .next (s.enterFirmware 3 s.chip.entry)
  else
    let sel := if sel.val = 3 then 0 else sel.val
    let host := fun (s : State) => if sel = 0 then s.bootHalt else s.bootHost
    if 2 ≤ sel then .next (host s)
    else
      let (ra, s) := s.trySlot GLB_BOOT_STS.RES_A slotA
      if ra = 0 then .next (s.enterFirmware 0 (s.hdr 0 16 4))
      else
        let (rb, s) := s.trySlot GLB_BOOT_STS.RES_B slotB
        if rb = 0 then .next (s.enterFirmware 1 (s.hdr 0 16 4)) else .next (host s)

/-- The ROM, waiting for GLB_BOOT_HOST.GO, takes the host's image (R520): none where the DMA engine did not get it. -/
def State.bootGo (s : State) (image : Option (List Byte)) : State :=
  if s.chip.boot ≠ .hostWait ∨ !s.flag GLB_BOOT_HOST.GO then s
  else match image with
    | none => s.setFld GLB_BOOT_HOST.GO 0
    | some b =>
      let (r, s) := s.trySlot GLB_BOOT_STS.RES_H (b.take (1024 * s.fld GLB_BOOT_HOST.HLEN))
      let s := s.setFld GLB_BOOT_HOST.GO 0
      if r = 0 then s.enterFirmware 2 (s.hdr 0 16 4) else s

end Sys2Proof.Machine
end

