-- ==== Sys2Proof/Machine/RegRead.lean ====
section
/-! DEFINITION. Reads of the management space: what each register shows, registers that show state held elsewhere, instances that
read 0, the halves of 64-bit registers, the pop registers (R7, R10, R11, R570 to R572, R577). -/

namespace Sys2Proof.Machine

/-- Whether a half of an octet serves a fabric port (R570). -/
def State.halfUsed (s : State) (i : Nat) : Bool := s.role (portOfHalf i) == 4

/-- Whether an instance of a register reads 0 and ignores writes: a Lafoush half that no port uses, a shadow of a port that is
no host port (R570), a bay in lockout (R538), a lane repaired out (R253), a route beyond the nodes (R388). -/
def State.blank (s : State) (k : RKey) : Bool :=
  match k.r with
  | .LFL_CTL | .LFL_CRD_TMO | .LFL_CRD_INIT | .LFL_STS | .LFL_SEQ | .LFL_CW_CNT | .LFL_CORR_CNT | .LFL_UNC_CNT
  | .LFL_CRC_CNT | .LFL_RPL_CNT | .LFL_TRN_FAIL | .LFL_LDN_DISC | .LFL_BYP_DISC | .LFL_CORR_HIST | .LFL_HT_CTL
  | .LFL_HT_THR | .LFL_HT_STS | .LFL_HT_CNT | .LFL_HT_MARG => !s.halfUsed k.i
  | .LFL_SP_STS | .LFL_SP_CTL => !(s.halfUsed (2 * k.i) || s.halfUsed (2 * k.i + 1))
  | .HSF_CFG | .HSF_CMD | .HSF_STS | .HSF_ERR_LOG | .HSF_CTO_CNT => s.role k.i != 1
  | .BAY_CFG | .BAY_LIM | .BAY_VWIN | .BAY_MODEL | .BAY_FB | .BAY_STS | .BAY_MEAS | .BAY_HOLD | .BAY_IND
  | .BAY_TRIP_CNT | .BAY_NM_CNT | .BAY_AMB => !s.bayAlive
  | .LN_CTL | .LN_TXEQ | .LN_EQ_CFG | .LN_RXEQ | .LN_DFE0 | .LN_DFE1 | .LN_CDR | .LN_DET | .LN_LOS_CNT | .LN_LOL_CNT
  | .LN_LB | .LN_LB_SLIP | .LN_PAT_USR | .LN_PAT_ERR | .LN_PAT_BITS | .LN_SS_CTL | .LN_SS_EYE => !s.laneLive k.i
  | .NOC_RT => decide (0xEE ≤ k.i) || decide (0xEE ≤ k.j)
  | _ => false

/-- The valid entries of a directory slice, and those of them in coarse mode (R90). -/
def Slice.valid (q : Slice) : Nat := (q.entries.filter (fun e => e.2.v)).length
def Slice.coarse (q : Slice) : Nat := (q.entries.filter (fun e => e.2.v && e.2.shm)).length

/-- HSF_STS as it reads (R421). -/
def State.hsfStatus (s : State) (p : Nat) : Word :=
  let w := s.rd ⟨.HSF_STS, p, 0⟩
  let paused := (List.range 4).any (fun e => (s.dma e).paused == some p)
  putBits (putBits (putBits (putBits w 30 30 (bit (s.bme p))) 29 29 (bit (s.mse p))) 28 28 (bit (s.d3hot p))) 27 27 (bit paused)

/-- The token counts of a meter in whole bytes (R160). -/
def State.meterTokens (s : State) (m : Nat) : Word :=
  let q := metersOf s m
  wordOf (2 ^ 32 * (q.tp / 2 ^ 24) + q.tc / 2 ^ 24 % 2 ^ 32)

/-- The bucket counts of a queue in whole bytes, signed (R170). -/
def State.queueTokens (s : State) (q : Nat) : Word :=
  let x := s.queue q
  wordOf (2 ^ 32 * (intField 32 (x.sp / 2 ^ 24)) + intField 32 (x.sc / 2 ^ 24))

/-- What a register shows, with no effect on the device. -/
def State.shown (s : State) (k : RKey) : Word :=
  if s.blank k then 0
  else match k.r with
  | .FLT_GSTS => s.gsts
  | .FLT_SRC_STS => s.srcStatus k.i
  | .FLT_FQ_POP => headRecord s.flt.faultQ
  | .FLT_SQ_POP => headRecord s.flt.safeQ
  | .ICF_FN_QRES => s.fnQres
  | .PRT_CTL => if s.covered k.i then putBits (s.rd k) 31 29 0 else s.rd k
  | .PRT_STS => if s.covered k.i then 0 else if s.fld PRT_CTL.ROLE k.i = 4 then s.rd k &&& 0xF0000000 else s.rd k
  | .LN_STS => if s.laneLive k.i then s.rd k else s.rd k &&& 0xC00FFC00
  | .LN_SS_EYE => if k.j ≠ 1 ∧ !s.pam4 k.i then 0 else s.rd k
  | .PRT_EPT_CNT => if (s.port k.i).trackerDown then 0 else wordOf (min 16 (s.port k.i).epochs.length)
  | .PRT_EPT_STS => putBits (s.rd k) 31 31 (bit (!(s.port k.i).trackerDown && decide (16 ≤ (s.port k.i).epochs.length)))
  | .LFL_SEQ => wordOf (2 ^ 20 * ((s.half k.i).next % 2 ^ 12) + 2 ^ 8 * ((s.half k.i).exp % 2 ^ 12))
  | .CORE_PL_STS => wordOf (s.plane k.i).free
  | .CRW_STS => putBits (s.rd k) 9 0 (min 1023 (s.nmem k.i))
  | .CRW_SKN_CNT => wordOf (s.skeinCount k.i)
  | .DIR_OCC => wordOf (2 ^ 16 * ((s.slice k.i).coarse % 2 ^ 16) + (s.slice k.i).valid % 2 ^ 16)
  | .DIR_RQ_STS => wordOf (2 ^ 16 * ((s.slice k.i).retry.length % 2 ^ 12) + (s.slice k.i).wip.length % 2 ^ 10)
  | .TM_MTR_TOK => s.meterTokens k.i
  | .TM_QTOK => s.queueTokens k.i
  | .TM_QSTS => wordOf (2 ^ 31 * (bit (s.queue k.i).redHead) + 2 ^ 16 * ((s.queue k.i).msgs.length % 2 ^ 13))
  | .BAY_IND => s.bayInd k.i
  | .HSF_CFG => wordOf (s.cfgRead k.i (4 * k.j))
  | .HSF_STS => s.hsfStatus k.i
  | .PMC_STS => putBits (s.rd k) 30 30 (bit (s.flag PMC_CTL.FRZ))
  | _ => s.rd k

/-- The bits of the adaptation registers that the loops of a lane move while they run and are not held (R262, R275, R276). -/
def State.adaptMask (s : State) (k : RKey) : Word :=
  if !s.flag LN_STS.RXON k.i ∨ !s.laneLive k.i ∨ s.flag LN_RXEQ.FRZ k.i then 0
  else match k.r with
    | .LN_RXEQ => if s.flag LN_RXEQ.OVR k.i then 0 else 0x1F0F00
    | .LN_DFE0 => 0x7F3F3F3F
    | .LN_DFE1 => 0x3F3F3F3F
    | _ => 0

/-- A read of a register: what it shows; a free value in the bits that adaptation moves. A locked pattern checker has counted on
until then (R270). -/
def State.readReg (s : State) (k : RKey) : Word × State :=
  let s := if (k.r = .LN_PAT_BITS ∨ k.r = .LN_PAT_ERR) ∧ s.laneLive k.i then s.patCount k.i else s
  let m := s.adaptMask k
  if m = 0 then (s.shown k, s)
  else
    let (n, s) := s.draw
    let which := if k.r = .LN_RXEQ then 0 else if k.r = .LN_DFE0 then 1 else 2
    ((s.shown k &&& ~~~m) ||| (Config.adapted k.i which n &&& m), s)

/-! Halves of 64-bit registers (R11) -/

/-- The latches of a requester at a register, of one kind, removed. -/
def State.dropLatch (s : State) (who : Requester) (addr : Nat) (low : Bool) : State :=
  { s with latches := s.latches.filter (fun l => !(l.who == who && l.addr == addr && l.low == low)) }

/-- The half held or latched for a requester. -/
def State.latch (s : State) (who : Requester) (addr : Nat) (low : Bool) : Option Word :=
  (s.latches.find? (fun l => l.who == who && l.addr == addr && l.low == low)).map (·.val)

/-- The state with a half held or latched. -/
def State.setLatch (s : State) (who : Requester) (addr : Nat) (low : Bool) (v : Word) : State :=
  { s.dropLatch who addr low with latches := (s.dropLatch who addr low).latches ++ [⟨who, addr, low, v⟩] }

/-- What a read returns, with its one effect beside the latch: a privileged seat's read of a pop register removes the record
(R480, R572). -/
def State.readPop (s : State) (who : Requester) (k : RKey) : Word × State :=
  if k.r = .FLT_FQ_POP ∧ s.isPriv who then s.popFault
  else if k.r = .FLT_SQ_POP ∧ s.isPriv who then s.popSafe
  else s.readReg k

/-- A 4-byte read (R7, R11, R572). -/
def State.read32 (s : State) (who : Requester) (a : Nat) : Word × State :=
  match regAt a with
  | none => (0, s)
  | some (k, off) =>
    if !k.r.row.wide then
      let (v, s) := s.readReg k
      (lowHalf v, s)
    else
      let s := s.dropLatch who k.addr true
      if off = 0 then
        let (v, s) := s.readPop who k
        (lowHalf v, s.setLatch who k.addr false (highHalf v))
      else match s.latch who k.addr false with
        | some h => (h, s.dropLatch who k.addr false)
        | none =>
          let (v, s) := s.readReg k
          (highHalf v, s)

/-- An 8-byte read (R10, R571). -/
def State.read64 (s : State) (who : Requester) (a : Nat) : Word × State :=
  match regAt a with
  | some (k, _) =>
    if k.r.row.wide then (s.dropLatch who k.addr true).readPop who k
    else
      let (l, s) := s.read32 who a
      let (h, s) := s.read32 who (a + 4)
      (joinHalves h l, s)
  | none =>
    let (h, s) := s.read32 who (a + 4)
    (joinHalves h 0, s)

/-- A read of the management space that reaches its target: the value, the state, and whether it met an uncorrectable word of the
scratchpad (R344, R360). -/
def State.readSpace (s : State) (who : Requester) (a : Nat) (wide : Bool) (o : SpadObs) : Word × State × Bool :=
  match windowOffset a with
  | some off =>
    let (n, s, ue) := s.spadRead off (if wide then 8 else 4) o
    (wordOf n, s, ue)
  | none =>
    let (v, s) := if wide then s.read64 who a else s.read32 who a
    (v, s, false)

/-- GET_PHYSICAL_PORT_STATE (R250): PRT_CTL and PRT_STS, as a read of them shows them. -/
def execGetPhysicalPortState (tag port : Fin 256) (s : State) : Host.Outcome State Fault Refusal :=
  .next (s.fm tag.val .success [(s.shown ⟨.PRT_CTL, port.val, 0⟩).toNat, (s.shown ⟨.PRT_STS, port.val, 0⟩).toNat])

end Sys2Proof.Machine
end

