-- ==== Sys2Proof/Machine/FOps.lean ====
section
/-! DEFINITION. What a seat waits in, once it begins: FRD and the F-format operations (spec/13 R344 to R352, R358). -/

namespace Sys2Proof.Machine

/-- All ones in the width of an access (R393). -/
def allOnesOf (wide : Bool) : Word := if wide then BitVec.allOnes 64 else 0xFFFFFFFF

/-- An FRD that begins: the value read, all ones where there is no route, or none where its packet is lost or its response is
late, though the register has been read (R344, R387, R393). An uncorrectable word behind the window sets STATUS.UE. -/
def State.beginRead (s : State) (n a : Nat) (wide : Bool) (o : SpadObs) (r : NocObs) : Option Word × State :=
  let (e, s) := s.nocTry (.seat n) a wide false r
  match e with
  | .ok =>
    let (v, s, ue) := s.readSpace (.seat n) a wide o
    (some v, if ue then s.modSeat n (fun q => { q with ue := true }) else s)
  | .noEntry => (some (allOnesOf wide), s)
  | .late => (none, (s.readSpace (.seat n) a wide .ok).2.1.nocWait (.seat n) a wide false true)
  | _ => (none, s.nocWait (.seat n) a wide false)

/-- EPOCH that begins (R57, R347). -/
def State.beginEpoch (s : State) (n rd p : Nat) : Option Word × State :=
  if !s.mayAct n 0 p then (some 7, s)
  else if s.role p ≠ 1 ∧ s.role p ≠ 4 then (some 6, s)
  else (none, s.modPort p (fun q => { q with epochs := q.epochs ++ [{ seat := some n, rd := rd }] }))

/-- FENCE that begins (R348). -/
def State.beginFence (s : State) (c : Nat) : Option Word × State :=
  let st := s.crewState c
  if st = 0 then (some 2, s)
  else (some (if st = 1 ∨ st = 2 then 0 else 1), s.takeFence { cause := 6, unit := slotEngine, crews := .one c })

/-- SCAN that begins (R349, R350): one at a time, in dispatch order. -/
def State.beginScan (s : State) (n rd : Nat) (flush : Bool) (c : Nat) (skein : Option Nat) : Option Word × State :=
  if !s.mayAct n 1 c then (some 5, s)
  else
    let q : Scan := { seat := some n, rd := rd, flush := flush, crew := c, skein := skein }
    if s.eng.scans.isEmpty then
      match s.scanRefused q with
      | some code => (some (scanWord 0 code), s)
      | none => (none, { s with eng := { s.eng with scans := [q] } })
    else (none, { s with eng := { s.eng with scans := s.eng.scans ++ [q] } })

/-- HEAT that begins (R351). -/
def State.beginHeat (s : State) (n p mask : Nat) (abort : Bool) : Option Word × State :=
  let i := halfOf p
  if !s.mayAct n 0 p then (some 5, s)
  else if !(s.started p && s.fld PRT_CTL.ROLE p == 4) then (some 1, s)
  else if s.lfl i ≠ lflActive then (some 2, s)
  else if (s.half i).heat.isSome ≠ abort then (some 3, s)
  else if abort then (some 0, s.abortHeat i)
  else (some 0, (s.setFld LFL_HT_CTL.LMASK mask i).startHeat i)

/-- What an operation does as it begins: its result where it ends at once. -/
def State.beginOp (s : State) (n rd : Nat) (op : FOp) : Option Word × State :=
  match op with
  | .frd a wide o r => s.beginRead n a wide o r
  | .stopf fid => s.stopf n rd fid
  | .startf fid tie =>
    let (v, s) := s.startf n fid tie
    (some v, s)
  | .epoch p => s.beginEpoch n rd p
  | .fence c => s.beginFence c
  | .scan flush c skein => s.beginScan n rd flush c skein
  | .heat p mask abort => s.beginHeat n p mask abort
  | .bay k cmd arg clean =>
    let (v, s) := s.bayCmd k cmd arg clean
    (some (wordOf v), s)
  | .waitev _ _ => (none, s)
  | .fsync => (some 0, s)

/-- A Waiting seat's operation begins, and ends where it has its result. -/
def State.runOp (s : State) (n rd : Nat) (op : FOp) : State :=
  let s := s.modSeat n (fun q => { q with wait := some { op := op, rd := rd, begun := true } })
  let (r, s) := s.beginOp n rd op
  match r with
  | some v => s.finishWait n rd v
  | none => s

/-- Whether an operation of a seat may begin: its earlier FWR have completed, and the NI injects the request of an FRD (R322, R345,
R394). -/
def State.opReady (s : State) (n : Nat) (op : FOp) : Bool :=
  (s.seat n).posted.isEmpty && (match op with
    | .frd a _ _ _ => !s.nocHeld (Requester.seat n).node (targetOf a)
    | _ => true)

/-- A seat goes Waiting in an operation, which begins once nothing holds it. -/
def State.startOp (s : State) (n rd : Nat) (op : FOp) : State :=
  let s := s.setSeatState n seatWaiting
  if s.opReady n op then s.runOp n rd op
  else s.modSeat n (fun q => { q with wait := some { op := op, rd := rd, begun := false } })

/-- The last of a seat's earlier FWR has completed: what waited for it begins (R345). -/
def State.unblock (s : State) (n : Nat) : State :=
  if s.seatState n = seatWaiting then
    match (s.seat n).wait with
    | some w => if w.begun ∨ !s.opReady n w.op then s else s.runOp n w.rd w.op
    | none => s
  else s

/-- What becomes of an FWR that the NI injects: posted, lost with its packet, or complete at once where there is no route (R345,
R387, R393). -/
def State.injectWrite (s : State) (n a : Nat) (wide : Bool) (v : Word) (o : NocObs) : State :=
  let (e, s) := s.nocTry (.seat n) a wide true o
  let post := fun (s : State) (lost : Bool) =>
    s.modSeat n (fun q => { q with posted := q.posted ++ [⟨a, wide, v, lost, o, false⟩] })
  match e with
  | .ok => post s false
  | .late => post s false
  | .noEntry => s.event islandEngine 0x07
  | _ => (post s true).nocWait (.seat n) a wide true

/-- The posted writes of a seat that its NI has held are injected where nothing holds them any more, and what waited for them
begins (R394). -/
def State.releaseWrites (s : State) (n : Nat) : State :=
  let ws := (s.seat n).posted
  let s := s.modSeat n (fun q => { q with posted := [] })
  (s.each ws (fun s w =>
    if w.held && !s.nocHeld (Requester.seat n).node (targetOf w.addr) then s.injectWrite n w.addr w.wide w.val w.resp
    else s.modSeat n (fun q => { q with posted := q.posted ++ [w] }))).unblock n

/-- What the NI of the engine has held goes on where it may. -/
def State.releaseNi (s : State) : State := s.each (List.range 16) (fun s n => s.releaseWrites n)

end Sys2Proof.Machine
end

