-- ==== Sys2Proof/Machine/RegWrite.lean ====
section
/-! DEFINITION. Writes of the management space: who may write (R574), halves of 64-bit registers (R11), the access codes (R6), and
what each register does with a write; the completion of a posted FWR (R345). -/

namespace Sys2Proof.Machine

/-! Who may write (R574) -/

/-- Whether a register stands in a range of the map. -/
def Reg.within (r : Reg) (lo hi : Nat) : Bool := decide (lo ≤ r.row.base) && decide (r.row.base < hi)

/-- The registers that only privileged seats write: the ICF, FUSE, NOC and BAY blocks and GLB_LIFECYCLE. -/
def Reg.privOnly (r : Reg) : Bool :=
  r.within 0x200000 0x400000 || r.within 0x2C00000 0x2D00000 || r.within 0x2A00000 0x2B00000 ||
    r.within 0x2800000 0x2900000 || r == .GLB_LIFECYCLE

/-- The registers that only privileged seats and BAR0 write. -/
def Reg.privOrBar (r : Reg) : Bool :=
  r.within 0x2900000 0x2A00000 || r == .SLC_CMD || r == .GLB_RST_CTL || r == .GLB_BOOT_HOST || r == .FLT_SRC_STS ||
    r == .FLT_SRC_TOT || r == .FLT_REFUSE_CNT || r == .FLT_SAFE_LOG

/-- Whether a requester's write of a register is taken (R574). -/
def State.mayWrite (s : State) (who : Requester) (k : RKey) : Bool :=
  s.isPriv who ||
    (if k.r.privOnly then false
    else if (k.r == .PMC_GSEL || k.r == .PMC_GCNT) && decide (8 ≤ k.i) then
      match who with
      | .seat _ => true
      | .bar0 _ => true
      | _ => false
    else if k.r.privOrBar then
      match who with
      | .bar0 _ => true
      | _ => false
    else !k.r.within 0x100000 0x200000)

/-! What registers do with a write -/

/-- A write under the access codes alone (R6, R573). -/
def State.plainWrite (s : State) (k : RKey) (v : Word) : State :=
  let r := k.r.row
  let m := wordOf r.rw
  if r.anyWriteClears then s.wr k 0
  else s.wr k (((s.rd k &&& ~~~m) ||| (v &&& m) ||| (v &&& wordOf r.w1s)) &&& ~~~(v &&& wordOf r.w1c))

/-- A write of a FIFO's status register: OVR by W1C, and a write of 0 to bits [15:0] clears both counters (R376). -/
def writeFifoStatus (s : State) (k : RKey) (v : Word) : State :=
  let s := s.plainWrite k v
  if bitsOf v 15 0 = 0 then s.wr k (putBits (s.rd k) 15 0 0) else s

/-- Whether a port function is Stopped. -/
def State.portStopped (s : State) (p : Nat) : Bool := (s.fn (fidPort p)).run == .stopped

/-- A write of PRT_CTL (R234). -/
def writePortCtl (s : State) (p : Nat) (v : Word) : State :=
  if s.portStopped p ∧ !s.covered p then s.plainWrite ⟨.PRT_CTL, p, 0⟩ v else s

/-- A write of a setting of a port that is written only while its function is Stopped (R47, R154, R247): values out of their
range are ignored. -/
def writePortSetting (s : State) (k : RKey) (v : Word) : State :=
  let bad : Bool := match k.r with
    | .PRT_DCR => decide (0x40000 < bitsOf v 18 0)
    | .PRT_TM => decide (59 < bitsOf v 5 0)
    | _ => false
  if !s.portStopped k.i ∨ bad then s else s.plainWrite k v

/-- A write of PRT_REXT W0: a write of VLD 0 also clears FENCED (R184). -/
def writeRext (s : State) (k : RKey) (v : Word) : State :=
  let s := s.plainWrite k v
  if bitOf v 63 then s else s.setFld PRT_REXT_W0.FENCED 0 k.i k.j

/-- A write of CORE_CTL: a stripe timeout out of its range leaves that field (R146); stripes that its EAGER closes are closed
(R129). -/
def writeCoreCtl (s : State) (v : Word) : State :=
  let old := s.fld CORE_CTL.STRIPE_TMO
  let s := s.plainWrite ⟨.CORE_CTL, 0, 0⟩ v
  (if 4 ≤ bitsOf v 8 0 ∧ bitsOf v 8 0 ≤ 0x100 then s else s.setFld CORE_CTL.STRIPE_TMO old).closeEager

/-- A write of CORE_FAB_ID (R175, R178). -/
def writeFabId (s : State) (v : Word) : State :=
  let fabric := (List.range 256).any (fun p => s.started p && s.fld PRT_CTL.ROLE p == 4)
  let host := bitsOf v 9 0 ≠ s.swid && (List.range 256).any s.startedHost
  if fabric ∨ host then s else s.plainWrite ⟨.CORE_FAB_ID, 0, 0⟩ v

/-- Whether a word of CORE_FEID_MAP names a started host port of this switch. -/
def State.feidNames (s : State) (w : Word) : Bool :=
  bitOf w 31 && bitsOf w 25 16 == s.swid && s.startedHost (bitsOf w 7 0)

/-- A write of CORE_FEID_MAP (R177, R178). -/
def writeFeidMap (s : State) (f : Nat) (v : Word) : State :=
  let k : RKey := ⟨.CORE_FEID_MAP, f, 0⟩
  if f = 0xFFF ∨ s.feidNames (s.rd k) ∨ s.feidNames v then s else s.plainWrite k v

/-- A write of DIR_RCRED: only while the slice is Stopped (R107). -/
def writeRcred (s : State) (k : RKey) (v : Word) : State :=
  if (s.fn (fidSlice k.i)).run = .stopped then s.plainWrite k v else s

/-- A write of ICF_CTL (R324). -/
def writeIcfCtl (s : State) (v : Word) : State :=
  let u := bitsOf v 7 0
  let userBusy := (List.range 16).any (fun n => !s.priv n && s.seatState n != seatIdle)
  if u = 0 ∨ 0x80 < u ∨ userBusy then s else s.setFld ICF_CTL.USPLIT u

/-- A write of ICF_SEAT_CTL (R325). -/
def writeSeatCtl (s : State) (n : Nat) (v : Word) : State :=
  let s := s.setFld ICF_SEAT_CTL.EVGRANT (bitsOf v 23 17 * 2) n
  if n = 0 ∨ s.seatState n ≠ seatIdle then s else s.setFld ICF_SEAT_CTL.PRIV (bitsOf v 31 31) n

/-- A seat started at an address (R306, R313, R336): registers are 0 from Idle and kept from Halted and Trapped. -/
def State.seatStart (s : State) (n pc : Nat) : State :=
  let st := s.seatState n
  let s := if st = seatIdle then
      (s.modSeat n (fun q => { q with g := [], nm := false, yielded := false })).setFld ICF_SEAT_STS.CAUSE 0 n
    else s
  (s.modSeat n (fun q => { q with pc := pc, dz := false, ue := false, wait := none })).setSeatState n seatReady

/-- A seat stopped (R306): what it waits in finishes without it. -/
def State.seatStop (s : State) (n : Nat) : State :=
  ((s.abandonWait n).modSeat n (fun q => { q with g := [], yielded := false })).setSeatState n seatIdle

/-- A write of ICF_SEAT_CMD (R327, R489). -/
def writeSeatCmd (s : State) (who : Requester) (n : Nat) (v : Word) : State :=
  let st := s.seatState n
  if who = .seat n then s
  else match bitsOf v 31 30 with
    | 1 =>
      let ok := if n = 0 then st == seatHalted else st == seatIdle || st == seatHalted || st == seatTrapped
      if ok ∧ !s.safe then s.seatStart n (bitsOf v 18 3 * 8) else s
    | 2 => if n = 0 ∨ st = seatIdle then s else s.seatStop n
    | _ => s

/-- A write of ICF_UGRANT: a reserved KIND leaves KIND (R8, R328). -/
def writeGrant (s : State) (k : RKey) (v : Word) : State :=
  s.plainWrite k (if 6 < bitsOf v 31 28 then putBits v 31 28 (bitsOf (s.rd k) 31 28) else v)

/-- A write of ICF_LOAD_CTL; in the safe state GO is ignored (R330, R489). -/
def writeLoad (s : State) (v : Word) : State := writeLoadCtl s (if s.safe then putBits v 31 31 0 else v)

/-- A write of the pattern counters of a lane: of either, it clears both (R279). -/
def clearPattern (s : State) (n : Nat) : State := (s.wr ⟨.LN_PAT_ERR, n, 0⟩ 0).wr ⟨.LN_PAT_BITS, n, 0⟩ 0

/-- A write of NOC_BR_STS: of any value, it clears DOWNS and leaves UP (R401, R573). -/
def clearDowns (s : State) (b : Nat) : State := s.setFld NOC_BR_STS.DOWNS 0 b

/-- A write of NOC_RT: ignored whole where NHOP is 0 or above 8 (R388). A packet that its NI held for another route may go on
(R394). -/
def writeRoute (s : State) (k : RKey) (v : Word) : State :=
  if bitsOf v 35 32 = 0 ∨ 8 < bitsOf v 35 32 then s else (s.plainWrite k v).releaseNi

/-- A write of GLB_BOOT_HOST (R521). -/
def writeBootHost (s : State) (v : Word) (o : WriteObs) : State :=
  let s := s.plainWrite ⟨.GLB_BOOT_HOST, 0, 0⟩ v
  if bitOf v 63 then s.bootGo o.image else s

/-- Who GLB_RST_STS.REQ names (R516). -/
def Requester.resetReq : Requester → Nat
  | .seat n => n
  | _ => 0xF

/-- The effect of a write that is taken, by its register. -/
def State.applyReg (s : State) (who : Requester) (k : RKey) (v : Word) (o : WriteObs) : State :=
  if s.blank k then s
  else match k.r with
  | .GLB_LIFECYCLE => writeLifecycle s v o.verified
  | .GLB_RST_CTL => writeRstCtl s who.resetReq v
  | .GLB_BOOT_HOST => writeBootHost s v o
  | .GLB_THERM_STS => writeThermSts s v
  | .FLT_CTL => writeFltCtl s v
  | .FLT_SAFE_VEC => writeSafeVec s v
  | .FLT_FQ_STS | .FLT_SQ_STS | .ICF_EVQ_STS | .PRT_EPT_STS => writeFifoStatus s k v
  | .FLT_SRC_CFG => writeSrcCfg s k.i v
  | .FLT_SRC_STS => writeSrcStatus s k.i v
  | .ICF_CTL => writeIcfCtl s v
  | .ICF_SEAT_CTL => writeSeatCtl s k.i v
  | .ICF_SEAT_CMD => writeSeatCmd s who k.i v
  | .ICF_UGRANT => writeGrant s k v
  | .ICF_LOAD_CTL => writeLoad s v
  | .PRT_CTL => writePortCtl s k.i v
  | .PRT_MTMO | .PRT_DCR | .PRT_TM => writePortSetting s k v
  | .PRT_BIND => writeBind s k.i v
  | .PRT_DCE => writeDce s k.i v
  | .PRT_RDCE => writeRdce s k.i v
  | .PRT_SCRB_CTL => writeScrb s k.i v
  | .PRT_REXT_W0 => writeRext s k v
  | .LN_CTL => writeLnCtl s k.i v
  | .LN_TXEQ => writeLnTxeq s k.i v
  | .LN_EQ_CFG => writeLnEqCfg s k.i v
  | .LN_RXEQ => writeLnRxeq s k.i v
  | .LN_CDR => writeLnCdr s k.i v
  | .LN_DET => writeLnDet s k.i v
  | .LN_LB => writeLnLb s k.i v
  | .LN_PAT_ERR | .LN_PAT_BITS => clearPattern s k.i
  | .LN_SS_CTL => writeSsCtl s k.i v
  | .LFL_CTL => writeLflCtl s k.i v
  | .LFL_CRD_TMO => writeLflCrdTmo s k.i v
  | .LFL_CRD_INIT => writeLflCrdInit s k.i k.j v
  | .LFL_SP_CTL => writeSpCtl s k.i v
  | .LFL_HT_CTL => writeHtCtl s k.i v
  | .CORE_CTL => writeCoreCtl s v
  | .CORE_OQ_LIM => writeOqLim s v
  | .CORE_FAB_ID => writeFabId s v
  | .CORE_FEID_MAP => writeFeidMap s k.i v
  | .SKN_W0 => writeSkeinW0 s k.i v
  | .SKN_W1 => writeSkeinW1 s k.i v
  | .SKN_W2 | .SKN_W3 => writeSkeinOwners s k v
  | .CRW_CTL => writeCrewCtl s k.i v
  | .CRW_CMD => writeCrewCmd s k.i v
  | .CRW_MEM => writeCrewMem s k.i k.j v
  | .DIR_EIDX => writeDirEidx s k.i v
  | .DIR_RCRED => writeRcred s k v
  | .DIR_TD_CTL => writeTdCtl s k.i v
  | .TM_CTL => writeTmCtl s v
  | .TM_MTR_RATE => writeMeterRate s k.i v
  | .TM_QRATE => writeQueueRate s k.i v
  | .SLC_CTL | .SLC_MTR | .SLC_TM => writeSlcSetting s k v
  | .SLC_CMD => writeSlcCmd s k.i v
  | .SLC_MB_DONE => writeMbDone s k.i v
  | .PMC_CTL => writePmcCtl s v
  | .PMC_GSEL | .PMC_PSEL | .PMC_SSEL => writeSel s k v
  | .PMC_GCNT | .PMC_PCNT | .PMC_SCNT => s.pmcClear (cntKey k)
  | .NOC_BR_STS => clearDowns s k.i
  | .NOC_RT => writeRoute s k v
  | .HSF_CTL => writeHsfCtl s k.i v
  | .HSF_SUBSYS => writeHsfSubsys s k.i v
  | .HSF_CMD => writeHsfCmd s k.i v
  | .FUSE_PGM => writeFusePgm s v
  | _ => s.plainWrite k v

/-! Accesses (R7, R10, R11, R571) -/

/-- A 4-byte write. The low half of a 64-bit register is held until its high half is written; a high half alone leaves the low
half as it stands (R11). -/
def State.write32 (s : State) (who : Requester) (a : Nat) (v : Word) (o : WriteObs) : State :=
  match regAt a with
  | none => s
  | some (k, off) =>
    if !s.mayWrite who k then s
    else if !k.r.row.wide then s.applyReg who k (lowHalf v) o
    else if off = 0 then s.setLatch who k.addr true (lowHalf v)
    else
      let low := (s.latch who k.addr true).getD (s.rd k)
      (s.dropLatch who k.addr true).applyReg who k (joinHalves v low) o

/-- An 8-byte write: a 64-bit register whole, or two words, the lower first. -/
def State.write64 (s : State) (who : Requester) (a : Nat) (v : Word) (o : WriteObs) : State :=
  match regAt a with
  | some (k, _) =>
    if k.r.row.wide then
      if s.mayWrite who k then (s.dropLatch who k.addr true).applyReg who k v o else s
    else (s.write32 who a (lowHalf v) o).write32 who (a + 4) (highHalf v) o
  | none => s.write32 who (a + 4) (highHalf v) o

/-- A write of the management space that reaches its target (R360, R569). -/
def State.writeSpace (s : State) (who : Requester) (a : Nat) (wide : Bool) (v : Word) (o : WriteObs) : State :=
  match windowOffset a with
  | some off => (s.spadWrite off (bytesOf v (if wide then 8 else 4)) o.spad).1
  | none => if wide then s.write64 who a v o else s.write32 who a v o

/-! Posted writes (R345, R394) -/

/-- Whether an earlier posted write of a seat to the same block has still to be applied, or the write is still in its NI (R345,
R394). -/
def heldBack (a : Nat) (wide : Bool) (v : Word) : List PostedWrite → Bool
  | [] => false
  | w :: ws =>
    if w.addr = a ∧ w.wide = wide ∧ w.val = v ∧ !w.lost then w.held
    else (decide (targetOf w.addr = targetOf a) && !w.lost && ws.any (fun x => x.addr == a && x.wide == wide && x.val == v && !x.lost))
      || heldBack a wide v ws

/-- A posted write that has been applied leaves its seat's list; one whose response is late stays until its timeout, which counts
it as lost (R393). -/
def State.dropPosted (s : State) (n a : Nat) (wide : Bool) (v : Word) : State :=
  match takeFirst (fun w => w.addr == a && w.wide == wide && w.val == v && !w.lost) (s.seat n).posted with
  | some (w, rest) =>
    if w.resp = .late then
      (s.modSeat n (fun q => { q with posted := rest ++ [{ w with lost := true }] })).nocWait (.seat n) a wide true true
    else s.modSeat n (fun q => { q with posted := rest })
  | none => s

/-- A write of a requester is applied by the block that owns its address; a seat's posted FWR then completes, and what waited
for it begins. The writes of one seat to one block apply in issue order. -/
def State.writeReg (s : State) (who : Requester) (a : Nat) (wide : Bool) (v : Word) (o : WriteObs) : State :=
  match who with
  | .seat n =>
    if heldBack a wide v (s.seat n).posted then s
    else (((s.dropPosted n a wide v).writeSpace who a wide v o).unblock n)
  | _ => s.writeSpace who a wide v o

/-- A write of one register named by its key, whole where it is 64 bits wide. -/
def State.writeKey (s : State) (who : Requester) (k : RKey) (v : Word) (o : WriteObs := {}) : State :=
  s.writeReg who k.addr k.r.row.wide v o

end Sys2Proof.Machine
end

