-- ==== Sys2Proof/Machine/Engine.lean ====
section
/-! DEFINITION. The Icfeade engine: the cox, traps, and the dispatch of an instruction (spec/12 R304 to R318, spec/13 R331 to R336,
R584). A command names the instruction that the cox dispatches, with its fields: it takes effect where the instruction store holds
that word at the seat's pc, and traps where the store holds a word that is no instruction (R331, R332). -/

namespace Sys2Proof.Machine

/-! The cox (R305) -/

/-- Whether a seat is Ready for the cox: in Ready, its issue cost over, fewer than 16 FWR not completed (R305, R345). -/
def State.seatReadyAt (s : State) (n now : Nat) : Bool :=
  s.seatState n == seatReady && decide ((s.seat n).busy ≤ now) && decide ((s.seat n).posted.length < 16)

/-- The seats in the order P, P + 1, …, P − 1 (R305). -/
def coxOrder (p : Nat) : List Nat := (List.range 16).map (fun k => (p + k) % 16)

/-- Whether a seat that has issued YIELD is still to be passed over at a dispatch dt cycles after the last one: a cycle without a
dispatch on which it was Ready has passed over it (R305, R358). -/
def State.yields (s : State) (n dt : Nat) : Bool :=
  (s.seat n).yielded && !(decide (2 ≤ dt) && s.seatReadyAt n (s.eng.cycle + dt - 1))

/-- The seat that the cox takes dt cycles after the last dispatch: the first one Ready, none that yields still. -/
def State.coxPick (s : State) (dt : Nat) : Option Nat :=
  (coxOrder s.eng.ptr).find? (fun n => s.seatReadyAt n (s.eng.cycle + dt) && !s.yields n dt)

/-- The seats that the cox has passed over once seat n is taken: they have yielded. -/
def State.passOver (s : State) (n dt : Nat) : State :=
  s.each (List.range 16) (fun t m =>
    if !s.yields m dt ∨ (((coxOrder s.eng.ptr).takeWhile (· != n)).contains m ∧ s.seatReadyAt m (s.eng.cycle + dt)) then
      t.modSeat m (fun q => { q with yielded := false })
    else t)

/-- Whether the command's seat is the one that the cox takes at its cycle. -/
def State.dispatches (s : State) (d : Disp) : Bool :=
  decide (1 ≤ d.dt) && !s.chip.dead && s.coxPick d.dt == some d.seat.val

/-! Traps (R306, R313, R314) -/

/-- A trap of a seat at an instruction address. -/
def State.trapAt (s : State) (n cause pc : Nat) : State :=
  let old := s.flag ICF_SEAT_STS.INTRAP n
  let s := (s.setFld ICF_SEAT_STS.CAUSE cause n).setFld ICF_SEAT_STS.EPC pc n
  if n ≠ 0 then (s.setSeatState n seatTrapped).post 0x01 n cause
  else if old then (s.setSeatState 0 seatHalted).report slotEngine
  else (s.setFld ICF_SEAT_STS.INTRAP 1 0).modSeat 0 (fun q => { q with pc := (s.rd ⟨.ICF_TVEC, 0, 0⟩).toNat })

/-- Whether a seat may fetch at an address: inside the store and inside its region (R307, R310). -/
def State.fetchOk (s : State) (n pc : Nat) : Bool :=
  decide (pc + 8 ≤ 8 * storeWords) && (if s.priv n then decide (pc < s.userBase) else decide (s.userBase ≤ pc))

/-! The instruction word (R331, R332) -/

/-- The formats. -/
inductive Format where
  | a | i | m | b | f
  deriving DecidableEq, Repr

def Format.code : Format → Nat
  | .a => 1
  | .i => 2
  | .m => 3
  | .b => 4
  | .f => 5

/-- The format that FMT names: none where the code is reserved, 0x0 and 0x6 to 0xF. -/
def readFormat (fmt : Nat) : Option Format :=
  match fmt with
  | 1 => some .a
  | 2 => some .i
  | 3 => some .m
  | 4 => some .b
  | 5 => some .f
  | _ => none

/-- The OP codes of each format (R337, R339, R340, R342, R344, R346). -/
def Format.ops : Format → List Nat
  | .a => [0x00, 0x01, 0x02, 0x03, 0x04, 0x05, 0x06, 0x07, 0x08, 0x09, 0x0A, 0x10, 0x11, 0x13, 0x14, 0x15, 0x18, 0x19, 0x1A, 0x1B,
      0x20, 0x21, 0x22, 0x30, 0x31]
  | .i => [0x00, 0x02, 0x03, 0x04, 0x06, 0x07, 0x08, 0x09, 0x0A, 0x40, 0x41]
  | .b => [0x00, 0x01, 0x02, 0x03, 0x04, 0x05, 0x06, 0x07, 0x10, 0x11]
  | .m => [0x00, 0x01, 0x02, 0x03, 0x08, 0x09, 0x0A, 0x0B, 0x0C, 0x0D, 0x10, 0x11, 0x20, 0x21, 0x28, 0x29]
  | .f => [0x00, 0x01, 0x02, 0x03, 0x04, 0x05, 0x06, 0x07, 0x10, 0x11, 0x18, 0x19, 0x1A, 0x1B]

/-- Whether a word names no instruction: its FMT, or its OP in that format, is reserved (R332, R333). -/
def illegal (w : Word) : Bool :=
  match readFormat (bitsOf w 63 60) with
  | none => true
  | some f => !f.ops.contains (bitsOf w 59 52)

/-- The word of a format, an OP and the fields of a command (R331). -/
def Disp.word (d : Disp) (f : Format) (op : Nat) : Word :=
  wordOf (f.code * 2 ^ 60 + op * 2 ^ 52 + d.rd.val * 2 ^ 47 + d.rs1.val * 2 ^ 42 + d.rs2.val * 2 ^ 37 + d.rs3.val * 2 ^ 32 +
    d.imm.toNat)

/-- The word of the instruction store at the seat's pc. -/
def State.fetched (s : State) (d : Disp) : Word := s.instr ((s.seat d.seat.val).pc / 8)

/-! Dispatch -/

/-- What an instruction's own part finds: an effect on the state, or a trap with its cause. -/
inductive Ran where
  | done (s : State)
  | trap (cause : Nat) (s : State)

/-- The engine at the dispatch of an instruction: the cycle, the cox's pointer, the seats passed over, the event (R305, R498). -/
def State.atDispatch (s : State) (d : Disp) : State :=
  let now := s.eng.cycle + d.dt
  let n := d.seat.val
  let s := s.passOver n d.dt
  let s := { s with eng := { s.eng with cycle := now % 2 ^ 64, ptr := (n + 1) % 16 } }
  (s.modSeat n (fun q => { q with yielded := false })).event islandEngine 0x02

/-- The issue cost of an instruction (R334). -/
def State.cost (s : State) (n c : Nat) : State := s.modSeat n (fun q => { q with busy := s.eng.cycle + c })

/-- The state after an instruction that goes on at the next word. -/
def State.advancePc (s : State) (n : Nat) : State := s.modSeat n (fun q => { q with pc := q.pc + 8 })

/-- The dispatch of an instruction (R584): a trap of the fetch, one of the encoding, or what the instruction itself does, at a cost
of c cycles. A trapping instruction has no other effect. -/
def State.dispatch (s : State) (d : Disp) (c : Nat) (fieldsOk : Bool) (run : State → Ran) : State :=
  if !s.dispatches d then s
  else
    let n := d.seat.val
    let pc := (s.seat n).pc
    let s := (s.atDispatch d).cost n c
    if !s.fetchOk n pc then s.trapAt n 3 pc
    else if d.fetchUe then s.trapAt n 4 pc
    else if !fieldsOk then s.trapAt n 1 pc
    else match run s with
      | .done t => t
      | .trap cause t => t.trapAt n cause pc

/-- An instruction of a format and an OP as the seat fetches it (R332, R584): a fetch that fails traps whatever the store holds,
and a word that is no instruction traps with cause 0x1, both at a cost of 1 cycle, DESIGN CHOICE (log entry 13); and where the
store holds another instruction, the command is not what the seat dispatches. -/
def fetching (d : Disp) (f : Format) (op : Nat) (run : State → State) (s : State) : State :=
  if d.fetchUe ∨ !s.fetchOk d.seat.val (s.seat d.seat.val).pc ∨ illegal (s.fetched d) then s.dispatch d 1 false .done
  else if s.fetched d = d.word f op then run s
  else s

/-- The dispatch of an instruction that writes one result to RD and goes on. -/
def State.compute (s : State) (d : Disp) (c : Nat) (fieldsOk : Bool) (f : State → Word) : State :=
  s.dispatch d c fieldsOk (fun s => .done ((s.setGreg d.seat.val d.rd.val (f s)).advancePc d.seat.val))

/-- The values of RS1, RS2 and RS3, and of RD as a source. -/
def State.src1 (s : State) (d : Disp) : Word := s.greg d.seat.val d.rs1.val
def State.src2 (s : State) (d : Disp) : Word := s.greg d.seat.val d.rs2.val
def State.src3 (s : State) (d : Disp) : Word := s.greg d.seat.val d.rs3.val
def State.srcD (s : State) (d : Disp) : Word := s.greg d.seat.val d.rd.val

/-- The immediate, sign-extended and zero-extended. -/
def Disp.simm (d : Disp) : Word := d.imm.signExtend 64
def Disp.zimm (d : Disp) : Word := d.imm.zeroExtend 64

/-- Bits of the immediate. -/
def Disp.immBits (d : Disp) (hi lo : Nat) : Nat := d.imm.toNat / 2 ^ lo % 2 ^ (hi + 1 - lo)

/-! Events handed to seats (R315 to R318) -/

/-- The effective mask of a WAITEV (R317). -/
def State.effMask (s : State) (n mask : Nat) : Nat := if s.priv n then mask else mask &&& s.fld ICF_SEAT_CTL.EVGRANT n

/-- The effective mask of a seat that waits in a WAITEV that has begun. -/
def State.waitMask (s : State) (n : Nat) : Option Nat :=
  if s.seatState n ≠ seatWaiting then none
  else match (s.seat n).wait with
    | some ⟨.waitev mask _, _, true⟩ => some (s.effMask n mask)
    | _ => none

/-- The records of the event queue in read order: priority, then arrival (R317, R372). -/
def readOrder (q : List Word) : List Word := (List.range 8).reverse.flatMap (fun l => q.filter (fun w => recLevel w == l))

/-- Whether a mask names a record's group. -/
def maskTakes (mask : Nat) (w : Word) : Bool := mask.testBit (eventGroup (bitsOf w 63 56))

/-- A record given to a waiting seat and taken out of the queue. nm: on its timeout cycle (R317, R336). -/
def State.giveRecord (s : State) (n : Nat) (w : Word) (nm : Bool) : State :=
  let q := s.eng.evq.erase w
  let s := ({ s with eng := { s.eng with evq := q } }).fifoRegs ICF_EVQ_CNT.COUNT ICF_EVQ_STS.FULL 1024 q.length
  let rd := ((s.seat n).wait.map (·.rd)).getD 0
  let s := (s.modSeat n (fun q => { q with nm := nm })).finishWait n rd w
  if nm then s.nearMiss islandEngine else s

/-- The seat that takes a record: the first waiting one in cox order whose mask names its group. -/
def State.takerOf (s : State) (w : Word) : Option Nat :=
  (coxOrder s.eng.ptr).find? (fun n => (s.waitMask n).any (fun m => maskTakes m w))

/-- The record that the engine hands out, with its taker (R317). -/
def State.handOff (s : State) : Option (Word × Nat) :=
  (readOrder s.eng.evq).findSome? (fun w => (s.takerOf w).map (fun n => (w, n)))

/-- EVENT_HANDOFF (R317, R373). ue: the record that the engine reads is uncorrectable, and the next one is looked for in its place;
ce: it was corrected. -/
def execEventHandoff (ce ue : Bool) (s : State) : Host.Outcome State Fault Refusal :=
  match s.handOff with
  | none => .next s
  | some (w, n) =>
    if ue then
      let q := s.eng.evq.erase w
      let s := ({ s with eng := { s.eng with evq := q } }).fifoRegs ICF_EVQ_CNT.COUNT ICF_EVQ_STS.FULL 1024 q.length
      .next ((s.count ICF_EVQ_STS.UE_PMM).report slotEngine)
    else .next ((if ce then s.count ICF_EVQ_STS.CE else s).giveRecord n w false)

/-- WAITEV_TIMEOUT (R317): the seat receives the record of code 0x00. A record that becomes visible on that cycle, which is the one
that the engine then hands to this seat, is taken instead. -/
def execWaitevTimeout (seat : Fin 16) (tie : Bool) (s : State) : Host.Outcome State Fault Refusal :=
  let n := seat.val
  if s.seatState n ≠ seatWaiting then .next s
  else match (s.seat n).wait with
    | some ⟨.waitev _ timeout, rd, begun⟩ =>
      if timeout = 0 then .next s
      else match s.handOff with
        | some (w, m) =>
          if tie ∧ begun ∧ m = n then .next (s.giveRecord n w true)
          else .next ((s.modSeat n (fun q => { q with nm := false })).finishWait n rd 0)
        | none => .next ((s.modSeat n (fun q => { q with nm := false })).finishWait n rd 0)
    | _ => .next s

end Sys2Proof.Machine
end

