-- ==== Sys2Proof/Machine/Arith.lean ====
section
/-! DEFINITION. The A-format and I-format instructions (spec/13 R335 to R339). -/

namespace Sys2Proof.Machine

/-! Which fields must be 0 (R333) -/

/-- RS3 and IMM are 0. -/
def Disp.threeReg (d : Disp) : Bool := d.rs3 == 0 && d.imm == 0
/-- RS2, RS3 and IMM are 0. -/
def Disp.twoReg (d : Disp) : Bool := d.rs2 == 0 && d.rs3 == 0 && d.imm == 0
/-- RS2 and RS3 are 0. -/
def Disp.regImm (d : Disp) : Bool := d.rs2 == 0 && d.rs3 == 0
/-- RS2 and RS3 are 0 and IMM is at most 63. -/
def Disp.regShift (d : Disp) : Bool := d.regImm && decide (d.imm.toNat < 64)
/-- RS1, RS2 and RS3 are 0. -/
def Disp.immOnly (d : Disp) : Bool := d.rs1 == 0 && d.rs2 == 0 && d.rs3 == 0

/-- An instruction of three registers. -/
def arith3 (d : Disp) (c : Nat) (f : Word → Word → Word) (s : State) : State :=
  s.compute d c d.threeReg (fun s => f (s.src1 d) (s.src2 d))

/-- An instruction of two registers. -/
def arith2 (d : Disp) (f : Word → Word) (s : State) : State := s.compute d 1 d.twoReg (fun s => f (s.src1 d))

/-- An instruction of a register and an immediate. -/
def arithImm (d : Disp) (f : Word → Word) (s : State) : State := s.compute d 1 d.regImm (fun s => f (s.src1 d))

/-- A shift by an immediate. -/
def arithShift (d : Disp) (f : Word → Nat → Word) (s : State) : State :=
  s.compute d 1 d.regShift (fun s => f (s.src1 d) d.imm.toNat)

/-- A division: with a zero divisor it also sets STATUS.DZ (R338). -/
def divide (d : Disp) (f : Word → Word → Word) (s : State) : State :=
  let n := d.seat.val
  s.dispatch d 34 d.threeReg (fun s =>
    let z := s.src2 d
    let t := (s.setGreg n d.rd.val (f (s.src1 d) z)).advancePc n
    .done (if z = 0 then t.modSeat n (fun q => { q with dz := true }) else t))

/-- 1 for true and 0 for false, as a word. -/
def boolWord (b : Bool) : Word := if b then 1 else 0

/-- Leading zero bits. -/
def clz64 (w : Word) : Word := wordOf (if w = 0 then 64 else 63 - Nat.log2 w.toNat)

/-- Trailing zero bits. -/
def ctz64 (w : Word) : Word := wordOf (((List.range 64).find? (fun k => bitOf w k)).getD 64)

/-- Bits set. -/
def popc64 (w : Word) : Word := wordOf ((List.range 64).filter (fun k => bitOf w k)).length

/-- The byte order reversed. -/
def bswap64 (w : Word) : Word := wordOf (natOfBytes (bytesOf w 8).reverse)

/-- High 64 bits of the signed product (R337). -/
def mulHigh (x y : Word) : Word := BitVec.ofInt 64 (x.toInt * y.toInt / 2 ^ 64)

/-- The signed quotient, rounded toward zero; all ones for a zero divisor (R338). -/
def quot (x y : Word) : Word := if y = 0 then BitVec.allOnes 64 else BitVec.ofInt 64 (x.toInt.tdiv y.toInt)

/-- The unsigned quotient; all ones for a zero divisor. -/
def quotU (x y : Word) : Word := if y = 0 then BitVec.allOnes 64 else wordOf (x.toNat / y.toNat)

/-- The signed remainder, with the sign of the dividend; the dividend for a zero divisor. -/
def remS (x y : Word) : Word := if y = 0 then x else BitVec.ofInt 64 (x.toInt.tmod y.toInt)

/-! A format (R337, R338) -/

def execAdd (d : Disp) (s : State) : Host.Outcome State Fault Refusal := .next (fetching d .a 0x00 (arith3 d 1 (· + ·)) s)
def execSub (d : Disp) (s : State) : Host.Outcome State Fault Refusal := .next (fetching d .a 0x01 (arith3 d 1 (· - ·)) s)
def execAnd (d : Disp) (s : State) : Host.Outcome State Fault Refusal := .next (fetching d .a 0x02 (arith3 d 1 (· &&& ·)) s)
def execOr (d : Disp) (s : State) : Host.Outcome State Fault Refusal := .next (fetching d .a 0x03 (arith3 d 1 (· ||| ·)) s)
def execXor (d : Disp) (s : State) : Host.Outcome State Fault Refusal := .next (fetching d .a 0x04 (arith3 d 1 (· ^^^ ·)) s)
def execAndn (d : Disp) (s : State) : Host.Outcome State Fault Refusal :=
  .next (fetching d .a 0x05 (arith3 d 1 (fun x y => x &&& ~~~y)) s)
def execSll (d : Disp) (s : State) : Host.Outcome State Fault Refusal :=
  .next (fetching d .a 0x06 (arith3 d 1 (fun x y => x <<< (y.toNat % 64))) s)
def execSrl (d : Disp) (s : State) : Host.Outcome State Fault Refusal :=
  .next (fetching d .a 0x07 (arith3 d 1 (fun x y => x >>> (y.toNat % 64))) s)
def execSra (d : Disp) (s : State) : Host.Outcome State Fault Refusal :=
  .next (fetching d .a 0x08 (arith3 d 1 (fun x y => x.sshiftRight (y.toNat % 64))) s)
def execSlt (d : Disp) (s : State) : Host.Outcome State Fault Refusal :=
  .next (fetching d .a 0x09 (arith3 d 1 (fun x y => boolWord (decide (x.toInt < y.toInt)))) s)
def execSltu (d : Disp) (s : State) : Host.Outcome State Fault Refusal :=
  .next (fetching d .a 0x0A (arith3 d 1 (fun x y => boolWord (decide (x.toNat < y.toNat)))) s)
def execMul (d : Disp) (s : State) : Host.Outcome State Fault Refusal := .next (fetching d .a 0x10 (arith3 d 3 (· * ·)) s)
def execMulh (d : Disp) (s : State) : Host.Outcome State Fault Refusal := .next (fetching d .a 0x11 (arith3 d 3 mulHigh) s)
def execDiv (d : Disp) (s : State) : Host.Outcome State Fault Refusal := .next (fetching d .a 0x13 (divide d quot) s)
def execDivu (d : Disp) (s : State) : Host.Outcome State Fault Refusal := .next (fetching d .a 0x14 (divide d quotU) s)
def execRem (d : Disp) (s : State) : Host.Outcome State Fault Refusal := .next (fetching d .a 0x15 (divide d remS) s)
def execClz (d : Disp) (s : State) : Host.Outcome State Fault Refusal := .next (fetching d .a 0x18 (arith2 d clz64) s)
def execCtz (d : Disp) (s : State) : Host.Outcome State Fault Refusal := .next (fetching d .a 0x19 (arith2 d ctz64) s)
def execPopc (d : Disp) (s : State) : Host.Outcome State Fault Refusal := .next (fetching d .a 0x1A (arith2 d popc64) s)
def execBswap (d : Disp) (s : State) : Host.Outcome State Fault Refusal := .next (fetching d .a 0x1B (arith2 d bswap64) s)

/-- The position and the length of a field instruction (R337). -/
def Disp.pos (d : Disp) : Nat := d.immBits 11 6
def Disp.len (d : Disp) : Nat := d.immBits 5 0 + 1

/-- Whether the fields of EXT, EXTS and INS are in form. -/
def Disp.fieldOk (d : Disp) : Bool := d.regImm && decide (d.imm.toNat < 4096) && decide (d.pos + d.len ≤ 64)

/-- rs1[pos+len−1:pos], zero-extended. -/
def extField (w : Word) (pos len : Nat) : Word := wordOf (w.toNat / 2 ^ pos % 2 ^ len)

def execExt (d : Disp) (s : State) : Host.Outcome State Fault Refusal :=
  .next (fetching d .a 0x20 (fun s => s.compute d 1 d.fieldOk (fun s => extField (s.src1 d) d.pos d.len)) s)
def execExts (d : Disp) (s : State) : Host.Outcome State Fault Refusal :=
  .next (fetching d .a 0x21 (fun s => s.compute d 1 d.fieldOk (fun s =>
    BitVec.ofInt 64 (signedOf d.len (extField (s.src1 d) d.pos d.len).toNat))) s)
def execIns (d : Disp) (s : State) : Host.Outcome State Fault Refusal :=
  .next (fetching d .a 0x22 (fun s => s.compute d 1 d.fieldOk (fun s =>
    putBits (s.srcD d) (d.pos + d.len - 1) d.pos (s.src1 d).toNat)) s)

/-! Special registers (R335, R336) -/

/-- STATUS of a seat (R336). -/
def State.status (s : State) (n : Nat) : Word :=
  let q := s.seat n
  wordOf (2 ^ 8 * (bit (s.priv n)) + 2 ^ 4 * (bit q.nm) + bit q.dz * 2 + bit q.ue)

/-- A special register as MFSR reads it. -/
def State.special (s : State) (n k : Nat) : Word :=
  match k with
  | 0 => wordOf (s.seat n).pc
  | 1 => s.status n
  | 2 => wordOf n
  | _ => wordOf s.eng.cycle

def execMfsr (d : Disp) (s : State) : Host.Outcome State Fault Refusal :=
  .next (fetching d .a 0x30 (fun s => s.compute d 2 (d.immOnly && decide (d.imm.toNat < 4)) (fun s =>
    s.special d.seat.val d.imm.toNat)) s)
def execMtsr (d : Disp) (s : State) : Host.Outcome State Fault Refusal :=
  let n := d.seat.val
  .next (fetching d .a 0x31 (fun s => s.dispatch d 2 (d.rd == 0 && d.regImm && d.imm == 1) (fun s =>
    let v := s.src1 d
    .done ((s.modSeat n (fun q => { q with dz := q.dz && !bitOf v 1, ue := q.ue && !bitOf v 0 })).advancePc n))) s)

/-! I format (R339) -/

def execAddi (d : Disp) (s : State) : Host.Outcome State Fault Refusal := .next (fetching d .i 0x00 (arithImm d (· + d.simm)) s)
def execAndi (d : Disp) (s : State) : Host.Outcome State Fault Refusal := .next (fetching d .i 0x02 (arithImm d (· &&& d.zimm)) s)
def execOri (d : Disp) (s : State) : Host.Outcome State Fault Refusal := .next (fetching d .i 0x03 (arithImm d (· ||| d.zimm)) s)
def execXori (d : Disp) (s : State) : Host.Outcome State Fault Refusal := .next (fetching d .i 0x04 (arithImm d (· ^^^ d.zimm)) s)
def execSlli (d : Disp) (s : State) : Host.Outcome State Fault Refusal :=
  .next (fetching d .i 0x06 (arithShift d (fun x k => x <<< k)) s)
def execSrli (d : Disp) (s : State) : Host.Outcome State Fault Refusal :=
  .next (fetching d .i 0x07 (arithShift d (fun x k => x >>> k)) s)
def execSrai (d : Disp) (s : State) : Host.Outcome State Fault Refusal :=
  .next (fetching d .i 0x08 (arithShift d (fun x k => x.sshiftRight k)) s)
def execSlti (d : Disp) (s : State) : Host.Outcome State Fault Refusal :=
  .next (fetching d .i 0x09 (arithImm d (fun x => boolWord (decide (x.toInt < d.simm.toInt)))) s)
def execSltiu (d : Disp) (s : State) : Host.Outcome State Fault Refusal :=
  .next (fetching d .i 0x0A (arithImm d (fun x => boolWord (decide (x.toNat < d.zimm.toNat)))) s)
def execLi (d : Disp) (s : State) : Host.Outcome State Fault Refusal :=
  .next (fetching d .i 0x40 (fun s => s.compute d 1 d.immOnly (fun _ => d.zimm)) s)
def execLih (d : Disp) (s : State) : Host.Outcome State Fault Refusal :=
  .next (fetching d .i 0x41 (fun s => s.compute d 1 d.immOnly (fun s => joinHalves d.zimm (s.srcD d))) s)

end Sys2Proof.Machine
end

