-- ==== Sys2Proof/Machine/Branch.lean ====
section
/-! DEFINITION. The B-format instructions (spec/13 R340). -/

namespace Sys2Proof.Machine

/-- Bits [2:0] of the immediate are 0. -/
def Disp.immAligned (d : Disp) : Bool := d.imm.toNat % 8 == 0

/-- The target of a branch other than JALR: pc plus the sign-extended IMM. A target outside the address width wraps; the seat
then fetches outside its region. -/
def Disp.target (d : Disp) (pc : Nat) : Nat := (wordOf pc + d.simm).toNat

/-- A conditional branch, at 1 cycle not taken and 2 taken. -/
def condBranch (d : Disp) (fieldsOk : Bool) (taken : State → Bool) (s : State) : State :=
  let n := d.seat.val
  s.dispatch d 1 (fieldsOk && d.immAligned) (fun s =>
    if taken s then .done ((s.cost n 2).modSeat n (fun q => { q with pc := d.target q.pc }))
    else .done (s.advancePc n))

/-- A branch that compares RS1 with RS2. -/
def compareBranch (d : Disp) (f : Word → Word → Bool) (s : State) : State :=
  condBranch d (d.rd == 0 && d.rs3 == 0) (fun s => f (s.src1 d) (s.src2 d)) s

/-- The bit number of BBS and BBC, in bits [41:36] of the word: RS2 and the top bit of RS3. -/
def Disp.bitNumber (d : Disp) : Nat := 2 * d.rs2.val + d.rs3.val / 16

/-- A branch on a bit of RS1. -/
def bitBranch (d : Disp) (want : Bool) (s : State) : State :=
  condBranch d (d.rd == 0 && d.rs3.val % 16 == 0) (fun s => bitOf (s.src1 d) d.bitNumber == want) s

def execBeq (d : Disp) (s : State) : Host.Outcome State Fault Refusal :=
  .next (fetching d .b 0x00 (compareBranch d (fun x y => x == y)) s)
def execBne (d : Disp) (s : State) : Host.Outcome State Fault Refusal :=
  .next (fetching d .b 0x01 (compareBranch d (fun x y => x != y)) s)
def execBlt (d : Disp) (s : State) : Host.Outcome State Fault Refusal :=
  .next (fetching d .b 0x02 (compareBranch d (fun x y => decide (x.toInt < y.toInt))) s)
def execBge (d : Disp) (s : State) : Host.Outcome State Fault Refusal :=
  .next (fetching d .b 0x03 (compareBranch d (fun x y => decide (y.toInt ≤ x.toInt))) s)
def execBltu (d : Disp) (s : State) : Host.Outcome State Fault Refusal :=
  .next (fetching d .b 0x04 (compareBranch d (fun x y => decide (x.toNat < y.toNat))) s)
def execBgeu (d : Disp) (s : State) : Host.Outcome State Fault Refusal :=
  .next (fetching d .b 0x05 (compareBranch d (fun x y => decide (y.toNat ≤ x.toNat))) s)
def execBbs (d : Disp) (s : State) : Host.Outcome State Fault Refusal := .next (fetching d .b 0x06 (bitBranch d true) s)
def execBbc (d : Disp) (s : State) : Host.Outcome State Fault Refusal := .next (fetching d .b 0x07 (bitBranch d false) s)

/-- JAL: rd = pc + 8, and a jump to pc + IMM. -/
def execJal (d : Disp) (s : State) : Host.Outcome State Fault Refusal :=
  let n := d.seat.val
  .next (fetching d .b 0x10 (fun s => s.dispatch d 2 (d.immOnly && d.immAligned) (fun s =>
    let pc := (s.seat n).pc
    .done ((s.setGreg n d.rd.val (wordOf (pc + 8))).modSeat n (fun q => { q with pc := d.target pc })))) s)

/-- JALR: rd = pc + 8, and a jump to rs1 + IMM, which must be aligned. -/
def execJalr (d : Disp) (s : State) : Host.Outcome State Fault Refusal :=
  let n := d.seat.val
  .next (fetching d .b 0x11 (fun s => s.dispatch d 2 d.regImm (fun s =>
    let pc := (s.seat n).pc
    let t := (s.src1 d + d.simm).toNat
    if t % 8 ≠ 0 then .trap 1 s
    else .done ((s.setGreg n d.rd.val (wordOf (pc + 8))).modSeat n (fun q => { q with pc := t })))) s)

end Sys2Proof.Machine
end

