-- ==== Sys2Proof/Machine/Scratch.lean ====
section
/-! DEFINITION. Loads, stores and atomics of the scratchpad (spec/13 R341 to R343). -/

namespace Sys2Proof.Machine

/-- The scratchpad offset of an access: rs1 + sign-extended IMM. -/
def State.address (s : State) (d : Disp) : Nat := (s.src1 d + d.simm).toNat

/-- Whether an access of n bytes at a crosses a 16-byte line. -/
def crosses (a n : Nat) : Bool := decide (a / 16 ≠ (a + n - 1) / 16)

/-- An access of n bytes of a seat: a trap where it leaves the scratchpad or is not aligned, or is refused; else its effect, at its
cost and one cycle more where it crosses a line (R341, R379, R584). -/
def spadAccess (d : Disp) (c n align : Nat) (acc : Acc) (fieldsOk : Bool) (run : State → Nat → State) (s : State) : State :=
  let k := d.seat.val
  if fieldsOk ∧ s.wipeBlocks (s.address d) n ∧ s.address d + n ≤ memSize ∧ s.address d % align = 0 then s
  else s.dispatch d c fieldsOk (fun s =>
    let a := s.address d
    if memSize < a + n ∨ a % align ≠ 0 then .trap 1 s
    else match s.refusal (.seat k) false acc a n with
      | some r => .trap 5 (s.violate (.seat k) false acc r)
      | none =>
        let s := if crosses a n then s.cost k (c + 1) else s
        .done ((run (s.event islandEngine 0x06 (if crosses a n || acc == .atomic then 2 else 1)) a).advancePc k))

/-- STATUS.UE set where a read met an uncorrectable word. -/
def State.markUe (s : State) (n : Nat) (ue : Bool) : State := if ue then s.modSeat n (fun q => { q with ue := true }) else s

/-- A load of n bytes, zero-extended. -/
def loadOp (d : Disp) (n : Nat) (s : State) : State :=
  spadAccess d 3 n 1 .read (d.rs2 == 0 && d.rs3 == 0) (fun s a =>
    let (v, s, ue) := s.spadRead a n d.spad
    (s.setGreg d.seat.val d.rd.val (wordOf v)).markUe d.seat.val ue) s

/-- A store of the low n bytes of RS2. -/
def storeOp (d : Disp) (n : Nat) (s : State) : State :=
  spadAccess d 1 n 1 .write (d.rd == 0 && d.rs3 == 0) (fun s a => (s.spadWrite a (bytesOf (s.src2 d) n) d.spad).1) s

def execLd8 (d : Disp) (s : State) : Host.Outcome State Fault Refusal := .next (fetching d .m 0x00 (loadOp d 1) s)
def execLd16 (d : Disp) (s : State) : Host.Outcome State Fault Refusal := .next (fetching d .m 0x01 (loadOp d 2) s)
def execLd32 (d : Disp) (s : State) : Host.Outcome State Fault Refusal := .next (fetching d .m 0x02 (loadOp d 4) s)
def execLd64 (d : Disp) (s : State) : Host.Outcome State Fault Refusal := .next (fetching d .m 0x03 (loadOp d 8) s)
def execSt8 (d : Disp) (s : State) : Host.Outcome State Fault Refusal := .next (fetching d .m 0x08 (storeOp d 1) s)
def execSt16 (d : Disp) (s : State) : Host.Outcome State Fault Refusal := .next (fetching d .m 0x09 (storeOp d 2) s)
def execSt32 (d : Disp) (s : State) : Host.Outcome State Fault Refusal := .next (fetching d .m 0x0A (storeOp d 4) s)
def execSt64 (d : Disp) (s : State) : Host.Outcome State Fault Refusal := .next (fetching d .m 0x0B (storeOp d 8) s)

/-- LDP: 16 aligned bytes into an even register pair, rd 2 to 30. -/
def execLdp (d : Disp) (s : State) : Host.Outcome State Fault Refusal :=
  let k := d.seat.val
  .next (fetching d .m 0x0C (spadAccess d 3 16 16 .read (d.rs2 == 0 && d.rs3 == 0 && d.rd.val % 2 == 0 && d.rd != 0) (fun s a =>
    let (v, s, ue) := s.spadRead a 16 d.spad
    ((s.setGreg k d.rd.val (wordOf v)).setGreg k (d.rd.val + 1) (wordOf (v / 2 ^ 64))).markUe k ue)) s)

/-- STP: an even register pair into 16 aligned bytes. -/
def execStp (d : Disp) (s : State) : Host.Outcome State Fault Refusal :=
  let k := d.seat.val
  .next (fetching d .m 0x0D (spadAccess d 1 16 16 .write (d.rd == 0 && d.rs3 == 0 && d.rs2.val % 2 == 0) (fun s a =>
    (s.spadWrite a (bytesOf (s.src2 d) 8 ++ bytesOf (s.greg k (d.rs2.val + 1)) 8) d.spad).1)) s)

/-- An atomic on an aligned word: the old value goes to RD, and a new one is stored where there is one and the word read was
good. -/
def atomicOp (d : Disp) (fieldsOk : Bool) (new : State → Word → Option Word) (s : State) : State :=
  let k := d.seat.val
  spadAccess d 4 8 8 .atomic fieldsOk (fun s a =>
    let put := new s
    let (v, s, ue) := s.spadRead a 8 d.spad
    let old := wordOf v
    let s := match put old with
      | some w => if ue then s else s.store a 8 w
      | none => s
    (s.setGreg k d.rd.val old).markUe k ue) s

/-- CAS: where the word equals RS3 it becomes RS2. -/
def execCas (d : Disp) (s : State) : Host.Outcome State Fault Refusal :=
  .next (fetching d .m 0x10 (atomicOp d true (fun s old => if old = s.src3 d then some (s.src2 d) else none)) s)

/-- FADD: RS2 is added to the word. -/
def execFadd (d : Disp) (s : State) : Host.Outcome State Fault Refusal :=
  .next (fetching d .m 0x11 (atomicOp d (d.rs3 == 0) (fun s old => some (old + s.src2 d))) s)

end Sys2Proof.Machine
end

