-- ==== Sys2Proof/Machine/Dma.lean ====
section
/-! DEFINITION. The DMA engines: how bytes move, requests of host memory, and how a transfer ends (spec/13 R353 to R356, spec/16
R412 to R417). A transfer that has no host memory as its source moves whole at the command that ends it: DESIGN CHOICE. -/

namespace Sys2Proof.Machine

/-! Splits and limits of host requests (R412) -/

/-- PASID Enable. -/
def State.pasidOn (s : State) (p : Nat) : Bool := s.cfgBit p 0x14C 16

/-- The bytes that a size code of Device Control names; the reserved codes act as the largest. -/
def sizeCode (c : Nat) : Nat := 128 * 2 ^ min 5 c

/-- Max_Read_Request_Size, and Max_Payload_Size, at most the 512 bytes supported (R405). -/
def State.readMax (s : State) (p : Nat) : Nat := sizeCode (s.cfg p 0x58 / 2 ^ 12 % 8)
def State.payloadMax (s : State) (p : Nat) : Nat := min 512 (sizeCode (s.cfg p 0x58 / 2 ^ 5 % 8))

/-- How many bytes of n at an address one request of at most max bytes takes: none crosses a 4 KiB boundary. -/
def splitOff (max a n : Nat) : Nat := min n (min max (4096 - a % 4096))

/-- The reads of an HSF that may be outstanding. -/
def State.readLimit (s : State) (p : Nat) : Nat := if s.cfgBit p 0x58 8 ∨ s.cfgBit p 0x78 12 then 256 else 32

/-- The reads of an HSF that are outstanding. -/
def State.readsOpen (s : State) (p : Nat) : Nat := (((s.enginesOf p).map (fun e => (s.dma e).reads.length))).sum

/-- The PASID that a descriptor's requests carry. -/
def Desc.pasidTag (d : Desc) : Option Nat := if d.pv then some d.pasid else none

/-- Whether the HSF ends a request because it needs a PASID while PASID Enable is 0. -/
def State.pasidBlocks (s : State) (d : Desc) : Bool := d.pv && !s.pasidOn d.hport

/-- Reads of host memory handed to transmit, as many as the limit lets (R412). -/
def State.pumpReads (s : State) (e : Nat) (d : Desc) : Nat → State
  | 0 => s
  | fuel + 1 =>
    let q := s.dma e
    if d.len ≤ q.next ∨ s.readLimit d.hport ≤ s.readsOpen d.hport then s
    else
      let n := splitOff (s.readMax d.hport) (d.saddr + q.next) (d.len - q.next)
      let s := s.setDma e { q with reads := q.reads ++ [(q.next, n)], next := q.next + n }
      (s.hsfHand d.hport (.read (d.saddr + q.next) n d.pasidTag)).pumpReads e d fuel

/-! Bytes in and out -/

/-- The n bytes of a number, least significant first. -/
def natBytes (x n : Nat) : List Byte := (List.range n).map (fun k => BitVec.ofNat 8 (x / 256 ^ k))

/-- What the error protection finds in n bytes at an address, of what it finds in the whole range at a base. -/
def chunkObs (base a n : Nat) (l : List SpadObs) : SpadObs :=
  (l.filterMap (fun o =>
    let found := fun (k : Nat) => if decide (a < obsWord base k + 4) && decide (obsWord base k < a + n)
      then some (obsWord base k / 4 - a / 4) else none
    match o with
    | .ok => none
    | .ce k => (found k).map .ce
    | .ue k => (found k).map .ue)).headD .ok

/-- When the NoC's response to an access of an address comes. -/
def DmaObs.nocAt (b : DmaObs) (a : Nat) : NocObs :=
  if b.lates.contains a then .late else if b.ties.contains a then .tie else .inTime

/-- Words of the management space read by an engine in ascending order: the bytes read, the state, and the status with which the
engine stops, 0 where it goes on. A read without an answer returns all ones (R393). -/
def State.dmaReadWords (s : State) (e a : Nat) (b : DmaObs) : Nat → List Byte × State × Nat
  | 0 => ([], s, 0)
  | k + 1 =>
    match s.refusal (.dma e) true .read a 4 with
    | some r => ([], s.violate (.dma e) true .read r, 2)
    | none =>
      let n := (Requester.dma e).node
      let (t, s) := s.nocTry (.dma e) a false false (b.nocAt a)
      let lost := s.nocTimedOut n (targetOf a)
      let (v, s, ue) : Word × State × Bool := match t with
        | .ok => s.readSpace (.dma e) a false .ok
        | .late => (0xFFFFFFFF, (lost.readSpace (.dma e) a false .ok).2.1.nocLate n, false)
        | .noEntry => (0xFFFFFFFF, s, false)
        | _ => (0xFFFFFFFF, lost, false)
      if ue then ([], s, 7)
      else
        let (bs, s, st) := s.dmaReadWords e (a + 4) b k
        (bytesOf v 4 ++ bs, s, st)

/-- At most 16 bytes read by an engine at an offset of its transfer. -/
def State.dmaFetch (s : State) (e : Nat) (d : Desc) (o n : Nat) (b : DmaObs) : List Byte × State × Nat :=
  let a := d.saddr + o
  match d.skind with
  | 0 =>
    match s.refusal (.dma e) false .read a n with
    | some r => ([], s.violate (.dma e) false .read r, 2)
    | none =>
      let (x, s, ue) := s.spadRead a n (chunkObs d.saddr a n b.reads)
      if ue then ([], s, 7) else (natBytes x n, s, 0)
  | 1 => s.dmaReadWords e a b (n / 4)
  | _ => ((List.range n).map (fun k => byteOf d.pattern ((o + k) % 8)), s, 0)

/-- Bytes read by an engine, 16 at a time, until an error. -/
def State.dmaGather (s : State) (e : Nat) (d : Desc) (b : DmaObs) : Nat → Nat → Nat → List Byte × State × Nat
  | 0, _, _ => ([], s, 0)
  | fuel + 1, o, n =>
    if n = 0 then ([], s, 0)
    else
      let (bs, s, st) := s.dmaFetch e d o (min 16 n) b
      if st ≠ 0 ∨ n ≤ 16 then (bs, s, st)
      else
        let (cs, s, st) := s.dmaGather e d b fuel (o + 16) (n - 16)
        (bs ++ cs, s, st)

/-- Whether the write of n bytes at an offset loses its slot (R362). -/
def DmaObs.loses (b : DmaObs) (o n : Nat) : Bool := b.lost.any (fun k => decide (o ≤ k) && decide (k < o + n))

/-- Words written to the management space by an engine in ascending order: the bytes written, the state, the status. A write
without an answer is lost, and the engine carries on (R393). -/
def State.dmaWriteWords (s : State) (e a : Nat) (b : DmaObs) (o : Nat) (bs : List Byte) : Nat → Nat × State × Nat
  | 0 => (0, s, 0)
  | k + 1 =>
    if bs.length < 4 then (0, s, 0)
    else match s.refusal (.dma e) true .write a 4 with
    | some r => (0, s.violate (.dma e) true .write r, 2)
    | none =>
      if (windowOffset a).isSome ∧ b.loses o 4 then (0, s.count SPD_LOST_CNT.CNT, 1)
      else
        let n := (Requester.dma e).node
        let (t, s) := s.nocTry (.dma e) a false true (b.nocAt a)
        let lost := s.nocTimedOut n (targetOf a)
        let s := match t with
          | .ok => s.writeReg (.dma e) a false (wordOf (natOfBytes (bs.take 4))) {}
          | .late => (lost.writeReg (.dma e) a false (wordOf (natOfBytes (bs.take 4))) {}).nocLate n
          | .noEntry => s
          | _ => lost
        let (w, s, st) := s.dmaWriteWords e (a + 4) b (o + 4) (bs.drop 4) k
        (4 + w, s, st)

/-- Bytes written by an engine at an offset of its transfer: how many, the state, and the status with which it stops. -/
def State.dmaPut (s : State) (e : Nat) (d : Desc) (o : Nat) (bs : List Byte) (b : DmaObs) : Nat × State × Nat :=
  let a := d.daddr + o
  let n := bs.length
  if n = 0 then (0, s, 0)
  else match d.dkind with
  | 0 =>
    match s.refusal (.dma e) false .write a n with
    | some r => (0, s.violate (.dma e) false .write r, 2)
    | none =>
      if b.loses o n then (0, s.count SPD_LOST_CNT.CNT, 1)
      else
        let (s, dropped) := s.spadWrite a bs (chunkObs d.daddr a n b.writes)
        if dropped then (0, s, 7) else (n, s, 0)
  | 1 => s.dmaWriteWords e a b o bs (n / 4)
  | _ =>
    if s.pasidBlocks d then (0, s.hsfLog d.hport 7 a, 4)
    else (n, s.hsfHand d.hport (.write a bs d.pasidTag), 0)

/-- The transfer of an engine from an offset up to another: the state and the status with which it stops. -/
def State.dmaMove (s : State) (e : Nat) (d : Desc) (b : DmaObs) (upto : Nat) : Nat → Nat → State × Nat
  | 0, _ => (s, 0)
  | fuel + 1, o =>
    if upto ≤ o then (s, 0)
    else
      let n := if d.dkind = 2 then splitOff (s.payloadMax d.hport) (d.daddr + o) (upto - o) else min 16 (upto - o)
      let (bs, s, st) := s.dmaGather e d b n o n
      let (w, s, st2) := s.dmaPut e d o bs b
      let s := s.setFld ICF_DMA_CNT.BYTES (o + w) e
      if st2 ≠ 0 then (s, st2) else if st ≠ 0 then (s, st) else s.dmaMove e d b upto fuel (o + n)

/-- Whether an access of a transfer waits for a wipe of the secure region (R366), or in its NI (R391, R394). -/
def State.dmaWaits (s : State) (e : Nat) (d : Desc) : Bool :=
  let reach := fun (k a : Nat) => match k with
    | 0 => s.wipeBlocks a d.len
    | 1 => (windowOffset (a + d.len - 1)).any (fun o => s.wipeBlocks o 1) ||
      (List.range (d.len / 4)).any (fun k => s.nocHeld (Requester.dma e).node (targetOf (a + 4 * k)))
    | _ => false
  reach d.skind d.saddr || reach d.dkind d.daddr

/-! Start and end -/

/-- The address of a descriptor in host memory. -/
def Desc.hostAddr (d : Desc) (o : Nat) : Nat := if d.skind = 2 then d.saddr + o else d.daddr + o

/-- An engine's descriptor ended by a loss of Bus Master Enable: the engine is paused (R415). -/
def State.dmaPause (s : State) (e p : Nat) : State :=
  let s := s.dmaEnd e 5
  (s.setDma e { s.dma e with paused := some p }).setFld ICF_DMA_STS.PAUSED 1 e

/-- A descriptor in progress: reads of host memory are handed to transmit at once. An HSF that sends no requests ends it at once,
as where both meet on one cycle (R417). -/
def State.dmaBegin (s : State) (e : Nat) (d : Desc) : State :=
  let s := s.setDma e { desc := some d }
  let s := (s.setFld ICF_DMA_STS.BUSY 1 e).setFld ICF_DMA_CNT.BYTES 0 e
  if d.skind ≠ 2 ∧ d.dkind ≠ 2 then s
  else if s.flr d.hport then s.dmaEnd e 6
  else if !s.hsfSends d.hport then s.dmaPause e d.hport
  else if d.skind ≠ 2 then s
  else if s.pasidBlocks d then (s.hsfLog d.hport 7 d.saddr).dmaEnd e 4
  else s.pumpReads e d 256

/-- DMA_DONE (R355): an engine has moved every byte, or stops at an error. A transfer from host memory is over once every read has
been answered. -/
def execDmaDone (engine : Fin 4) (obs : DmaObs) (s : State) : Host.Outcome State Fault Refusal :=
  let e := engine.val
  match (s.dma e).desc with
  | none => .next s
  | some d =>
    if d.skind = 2 then
      if (s.dma e).reads.isEmpty ∧ d.len ≤ (s.dma e).next then .next (s.dmaEnd e 0) else .next s
    else if s.dmaWaits e d then .next s
    else
      let (s, st) := s.dmaMove e d obs d.len d.len 0
      .next (s.dmaEnd e st)

/-- The open reads of an engine whose answers will now come late (R413). -/
def State.dmaLate (s : State) (e : Nat) (d : Desc) : State :=
  let l := (s.dma e).reads.map (fun r => d.saddr + r.1)
  s.modHsf d.hport (fun q => { q with late := q.late ++ l })

/-- Bytes of host memory delivered at an offset, 16 at a time. -/
def State.dmaDeliver (s : State) (e : Nat) (d : Desc) (b : DmaObs) : Nat → Nat → List Byte → State × Nat
  | 0, _, _ => (s, 0)
  | fuel + 1, o, bs =>
    if bs.isEmpty then (s, 0)
    else
      let (w, s, st) := s.dmaPut e d o (bs.take 16) b
      let s := s.setFld ICF_DMA_CNT.BYTES (o + w) e
      if st ≠ 0 then (s, st) else s.dmaDeliver e d b fuel (o + 16) (bs.drop 16)

/-- A completion for the oldest open read of an engine (R413, R418): its data delivered, or the descriptor ended. -/
def State.dmaComplete (s : State) (e : Nat) (d : Desc) (o n : Nat) (c : DmaCpl) (b : DmaObs) : State :=
  let a := d.saddr + o
  let rest := (s.dma e).reads.drop 1
  match c with
  | .error => (((s.setDma e { s.dma e with reads := rest }).hsfLog d.hport 4 a).dmaLate e d).dmaEnd e 4
  | .data bs poisoned =>
    if bs.isEmpty ∨ n < bs.length then s
    else
      let left := if bs.length = n then rest else (o + bs.length, n - bs.length) :: rest
      let s := s.setDma e { s.dma e with reads := left }
      if poisoned then (((s.hsfLog d.hport 5 a).aerAdvisory d.hport aerPoisoned).dmaLate e d).dmaEnd e 4
      else
        let (s, st) := s.dmaDeliver e d b bs.length o bs
        if st ≠ 0 then (s.dmaLate e d).dmaEnd e st else s.pumpReads e d 256

/-- DMA_READ_COMPLETION (R413). target: the engine whose oldest open read it answers, none where it answers a read that has run out
of time, which is late. tie: on the cycle on which the read's timer expires, as R15 gives. -/
def execDmaReadCompletion (port : Fin 256) (target : Option (Fin 4)) (c : DmaCpl) (tie : Bool) (obs : DmaObs) (s : State) :
    Host.Outcome State Fault Refusal :=
  let p := port.val
  match target with
  | none =>
    match (s.hsf p).late with
    | [] => .next s
    | a :: rest =>
      let s := s.modHsf p (fun q => { q with late := rest })
      .next (((s.hsfLog p 6 a).aerAdvisory p aerUnexpected).lateArrival (octetOf p))
  | some e =>
    match (s.dma e.val).desc, (s.dma e.val).reads with
    | some d, (o, n) :: _ =>
      if d.hport ≠ p ∨ d.skind ≠ 2 ∨ s.dmaWaits e.val d then .next s
      else
        let s := if tie then s.nearMiss (octetOf p) else s
        .next (s.dmaComplete e.val d o n c obs)
    | _, _ => .next s

/-- DMA_COMPLETION_TIMEOUT (R413). -/
def execDmaCompletionTimeout (engine : Fin 4) (s : State) : Host.Outcome State Fault Refusal :=
  let e := engine.val
  match (s.dma e).desc, (s.dma e).reads with
  | some d, (o, _) :: _ =>
    let s := ((s.hsfLog d.hport 3 (d.saddr + o)).aer d.hport aerTimeout).count HSF_CTO_CNT.CNT 1 d.hport
    .next ((s.dmaLate e d).dmaEnd e 3)
  | _, _ => .next s

/-! Stops of an HSF (R404, R414, R415) -/

/-- Reads that ran out of time are forgotten, and every engine whose descriptor names a host port stops, after the bytes that it
has moved before: paused, or ended by the FLR. -/
def State.hsfStop (s : State) (p : Nat) (moved : List Nat) (flr : Bool) : State :=
  let s := s.modHsf p (fun q => { q with late := [] })
  s.each (s.enginesOf p) (fun s e =>
    match (s.dma e).desc with
    | none => s
    | some d =>
      let upto := min (moved.getD e 0) (d.len - 1)
      let s := if d.skind = 2 ∨ s.dmaWaits e d then s else (s.dmaMove e d {} upto d.len 0).1
      if (s.dma e).desc.isNone then s
      else if flr then s.dmaEnd e 6
      else s.dmaPause e p)

/-- The start of an FLR (R414 steps 1 and 2): the TLPs handed to transmit before it stay to be sent. -/
def State.flrStart (s : State) (p : Nat) (moved : List Nat) : State :=
  let s := s.hsfStop p moved true
  (s.setFld HSF_STS.FLR 1 p).setFld HSF_STS.FLR_SEEN 1 p

/-- Bus Master Enable cleared (R415). -/
def State.bmeOff (s : State) (p : Nat) (moved : List Nat) : State :=
  ((s.hsfStop p moved false).hsfDrain p).setFld HSF_STS.BME_OFF 1 p

/-- Whether a host's Host Service Function takes configuration requests. -/
def State.hsfHere (s : State) (p : Nat) : Bool := s.startedHost p

/-- INITIATE_FLR (R414). moved: the bytes that each engine has moved until then. -/
def execInitiateFlr (port : Fin 256) (moved : List Nat) (s : State) : Host.Outcome State Fault Refusal :=
  let p := port.val
  if !s.hsfHere p ∨ s.flr p then .next s else .next (s.flrStart p moved)

/-- FLR_TX_CUTOFF (R414 step 3): of the TLPs still to send, the first are sent in time, and the others discarded. -/
def execFlrTxCutoff (port : Fin 256) (sent : Nat) (s : State) : Host.Outcome State Fault Refusal :=
  let p := port.val
  if !s.flr p then .next s
  else
    let t := (s.hsf p).tx
    let s := (s.modHsf p (fun q => { q with tx := t.take sent })).hsfDrain p
    .next s

/-- FLR_TIMEOUT (R414 step 5). tie: an acknowledgement is taken on the same cycle; it wins (R15). -/
def execFlrTimeout (port : Fin 256) (tie : Bool) (s : State) : Host.Outcome State Fault Refusal :=
  let p := port.val
  if !s.flr p then .next s
  else if tie then .next ((s.flrReset p).nearMiss (octetOf p))
  else .next ((s.flrReset p).setFld HSF_STS.FLR_TMO 1 p)

/-- BUS_MASTER_ENABLE_CLEAR (R415). moved: the bytes that each engine has moved until then. -/
def execBusMasterEnableClear (port : Fin 256) (moved : List Nat) (s : State) : Host.Outcome State Fault Refusal :=
  let p := port.val
  if !s.hsfHere p ∨ s.flr p ∨ !s.bme p then .next s
  else .next ((s.setCfg p 4 (s.cfg p 4 - 4)).bmeOff p moved)

/-- D3HOT_ENTRY (R404): DMA and MSI-X act as when Bus Master Enable is cleared. -/
def execD3hotEntry (port : Fin 256) (moved : List Nat) (s : State) : Host.Outcome State Fault Refusal :=
  let p := port.val
  if !s.hsfHere p ∨ s.flr p ∨ s.d3hot p then .next s
  else .next (((s.setCfg p 0x44 (s.cfg p 0x44 / 4 * 4 + 3)).hsfStop p moved false).hsfDrain p)

/-- A write of the HSF's configuration space, with what it sets off: the FLR, the loss of Bus Master Enable, D3hot. -/
def State.hsfConfig (s : State) (p off v : Nat) (enable : Fin 16) (moved : List Nat) : State :=
  if off = 0x58 ∧ enable.val.testBit 1 ∧ v.testBit 15 then s.flrStart p moved
  else if off = 0x44 ∧ enable.val.testBit 0 ∧ (v % 4 = 1 ∨ v % 4 = 2) then s
  else
    let t := s.cfgWrite p off v enable
    if s.bme p ∧ !t.bme p then t.bmeOff p moved
    else if !s.d3hot p ∧ t.d3hot p then (t.hsfStop p moved false).hsfDrain p
    else t

/-- HOST_CONFIGURATION_WRITE (R403, R241): of a word of the configuration space, by its byte enables. The device emulates the
Type 1 headers of the upstream switch port and the vPPBs; a write of them reaches no link. -/
def execHostConfigurationWrite (port : Fin 256) (target : CfgTarget) (word : Fin 1024) (value : BitVec 32) (enable : Fin 16)
    (moved : List Nat) (s : State) : Host.Outcome State Fault Refusal :=
  let p := port.val
  if !s.hsfHere p then .next s
  else match target with
  | .hsf =>
    if s.flr p then .next (s.emit (.bar p .retry))
    else .next ((s.hsfConfig p (4 * word.val) value.toNat enable moved).emit (.bar p .done))
  | .upstream => .next ((s.bridgeWrite p 0 (4 * word.val) value.toNat enable).emit (.bar p .done))
  | .vppb n => .next ((s.bridgeWrite p (1 + n.val) (4 * word.val) value.toNat enable).emit (.bar p .done))

end Sys2Proof.Machine
end

