-- ==== Sys2Proof/Machine/FabricInstr.lean ====
section
/-! DEFINITION. The F-format instructions and the accesses to the management space (spec/13 R344 to R358). -/

namespace Sys2Proof.Machine

/-! FRD and FWR (R344, R345) -/

/-- An access of the management space of n bytes: a trap where the address is out of range, misaligned or refused (R344, R584). -/
def mgmtAccess (d : Disp) (c : Nat) (wide : Bool) (acc : Acc) (fieldsOk : Bool) (run : State → Nat → State) (s : State) :
    State :=
  let k := d.seat.val
  let n := if wide then 8 else 4
  if fieldsOk ∧ s.address d % n = 0 ∧ (windowOffset (s.address d)).any (fun o => s.wipeBlocks o n) then s
  else s.dispatch d c fieldsOk (fun s =>
    let a := s.address d
    if 0x4000000 ≤ a ∨ a % n ≠ 0 then .trap 1 s
    else match s.refusal (.seat k) true acc a n with
      | some r => .trap 5 (s.violate (.seat k) true acc r)
      | none => .done (run s a))

/-- FRD: the seat waits until its earlier FWR have completed and the register has been read. -/
def frdOp (d : Disp) (wide : Bool) (s : State) : State :=
  let k := d.seat.val
  mgmtAccess d 1 wide .read (d.rs2 == 0 && d.rs3 == 0) (fun s a =>
    ((s.event islandEngine 0x05).advancePc k).startOp k d.rd.val (.frd a wide d.spad d.noc)) s

/-- FWR: the write is posted; its NI injects it, or holds it (R387, R393, R394). -/
def fwrOp (d : Disp) (wide : Bool) (s : State) : State :=
  let k := d.seat.val
  mgmtAccess d 2 wide .write (d.rd == 0 && d.rs3 == 0) (fun s a =>
    let v := if wide then s.src2 d else lowHalf (s.src2 d)
    let s := (s.event islandEngine 0x04).advancePc k
    if s.nocHeld (Requester.seat k).node (targetOf a) then
      s.modSeat k (fun q => { q with posted := q.posted ++ [⟨a, wide, v, false, d.noc, true⟩] })
    else s.injectWrite k a wide v d.noc) s

def execFrd32 (d : Disp) (s : State) : Host.Outcome State Fault Refusal := .next (fetching d .m 0x20 (frdOp d false) s)
def execFrd64 (d : Disp) (s : State) : Host.Outcome State Fault Refusal := .next (fetching d .m 0x21 (frdOp d true) s)
def execFwr32 (d : Disp) (s : State) : Host.Outcome State Fault Refusal := .next (fetching d .m 0x28 (fwrOp d false) s)
def execFwr64 (d : Disp) (s : State) : Host.Outcome State Fault Refusal := .next (fetching d .m 0x29 (fwrOp d true) s)

/-! Instructions that wait -/

/-- An instruction that waits in an operation of its operands; none is a trap of its operands with cause 0x1. -/
def waitInstr (d : Disp) (fieldsOk privileged : Bool) (op : State → Option FOp) (s : State) : State :=
  let k := d.seat.val
  s.dispatch d 1 fieldsOk (fun s =>
    if privileged ∧ !s.priv k then .trap 2 s
    else match op s with
      | none => .trap 1 s
      | some o => .done ((s.advancePc k).startOp k d.rd.val o))

/-- A register operand below a bound. -/
def below (w : Word) (n : Nat) : Option Nat := if w.toNat < n then some w.toNat else none

def execStopf (d : Disp) (s : State) : Host.Outcome State Fault Refusal :=
  .next (fetching d .f 0x00 (waitInstr d d.twoReg false (fun s => some (.stopf (s.src1 d).toNat))) s)

/-- STARTF. tie: a fence cause on its way for the crew reaches the fault collector on the cycle of the checks (R74). -/
def execStartf (d : Disp) (tie : Bool) (s : State) : Host.Outcome State Fault Refusal :=
  .next (fetching d .f 0x01 (waitInstr d d.twoReg false (fun s => some (.startf (s.src1 d).toNat tie))) s)

def execEpoch (d : Disp) (s : State) : Host.Outcome State Fault Refusal :=
  .next (fetching d .f 0x02 (waitInstr d d.twoReg false (fun s => (below (s.src1 d) 256).map (fun p => .epoch p))) s)

def execFence (d : Disp) (s : State) : Host.Outcome State Fault Refusal :=
  .next (fetching d .f 0x03 (waitInstr d d.twoReg true (fun s => (below (s.src1 d) 256).map (fun c => .fence c))) s)

/-- SCAN in a form: IMM[0] is the form and IMM[1] the scope. A word of the other form is that form's command. -/
def scanOp (d : Disp) (flush : Bool) (s : State) : State :=
  if d.imm.toNat < 4 ∧ d.imm.toNat % 2 ≠ bit flush then s
  else waitInstr d (d.rs3 == 0 && decide (d.imm.toNat < 4) && d.imm.toNat % 2 == bit flush) false (fun s =>
    match below (s.src1 d) 256 with
    | none => none
    | some c =>
      if d.imm.toNat < 2 then some (.scan flush c none)
      else (below (s.src2 d) 65536).map (fun n => .scan flush c (some n))) s

def execScanCount (d : Disp) (s : State) : Host.Outcome State Fault Refusal := .next (fetching d .f 0x04 (scanOp d false) s)
def execScanFlush (d : Disp) (s : State) : Host.Outcome State Fault Refusal := .next (fetching d .f 0x04 (scanOp d true) s)

/-- HEAT in a form: IMM[0]. -/
def heatOp (d : Disp) (abort : Bool) (s : State) : State :=
  if d.imm.toNat < 2 ∧ d.imm.toNat ≠ bit abort then s
  else waitInstr d (d.rs3 == 0 && d.imm.toNat == bit abort) false (fun s =>
    (below (s.src1 d) 256).map (fun p => .heat p (bitsOf (s.src2 d) 7 0) abort)) s

def execHeatStartCmd (d : Disp) (s : State) : Host.Outcome State Fault Refusal := .next (fetching d .f 0x05 (heatOp d false) s)
def execHeatAbortCmd (d : Disp) (s : State) : Host.Outcome State Fault Refusal := .next (fetching d .f 0x05 (heatOp d true) s)

/-- BAYCMD with a command in IMM[7:0] (R352). A code that is no command traps; one that is another command is that one's. -/
def bayOp (d : Disp) (cmd : Nat) (clean : Bool) (s : State) : State :=
  if 1 ≤ d.imm.toNat ∧ d.imm.toNat ≤ cmdAuxOn ∧ d.imm.toNat ≠ cmd then s
  else waitInstr d (d.rs3 == 0 && d.imm.toNat == cmd) true (fun s =>
    (below (s.src1 d) 32).map (fun k => .bay k cmd (s.src2 d).toNat clean)) s

def execBayEnable (d : Disp) (s : State) : Host.Outcome State Fault Refusal :=
  .next (fetching d .f 0x06 (bayOp d cmdEnable false) s)
def execBayOff (d : Disp) (s : State) : Host.Outcome State Fault Refusal := .next (fetching d .f 0x06 (bayOp d cmdOff false) s)

/-- BAYCMD CLEAR. clean: the trial of a Damaged bay finds no damage (R455). -/
def execBayClear (d : Disp) (clean : Bool) (s : State) : Host.Outcome State Fault Refusal :=
  .next (fetching d .f 0x06 (bayOp d cmdClear clean) s)
def execBayIndicate (d : Disp) (s : State) : Host.Outcome State Fault Refusal :=
  .next (fetching d .f 0x06 (bayOp d cmdIndicate false) s)
def execBayAuxOn (d : Disp) (s : State) : Host.Outcome State Fault Refusal :=
  .next (fetching d .f 0x06 (bayOp d cmdAuxOn false) s)

/-! DMA (R353, R354) -/

/-- The descriptor in 32 bytes. -/
def descOf (n : Nat) : Desc × Bool :=
  let w0 := wordOf n
  ({ skind := bitsOf w0 63 60, dkind := bitsOf w0 59 56, hport := bitsOf w0 55 48, pv := bitOf w0 47,
     pasid := bitsOf w0 43 24, len := bitsOf w0 23 0, saddr := n / 2 ^ 64 % 2 ^ 64, daddr := n / 2 ^ 128 % 2 ^ 64,
     pattern := wordOf (n / 2 ^ 192) }, bitsOf w0 46 44 == 0)

/-- Whether an address and a length keep the rules of a kind (R354). -/
def kindOk (kind a len : Nat) : Bool :=
  match kind with
  | 0 => decide (a + len ≤ memSize)
  | 1 => a % 4 == 0 && len % 4 == 0 && decide (a + len ≤ 0x4000000)
  | _ => true

/-- Whether a descriptor is valid (R354). -/
def State.descOk (s : State) (d : Desc) (reservedZero : Bool) : Bool :=
  reservedZero && decide (d.skind ≤ 3) && decide (d.dkind ≤ 2) && !(d.skind == 2 && d.dkind == 2) && d.len != 0 &&
    kindOk d.skind d.saddr d.len && kindOk d.dkind d.daddr d.len &&
    (!(d.skind == 2 || d.dkind == 2) || s.startedHost d.hport)

/-- The code that DMA writes, with the engine started where it is 0 (R353). -/
def State.dmaStart (s : State) (n e : Nat) (d : Desc) (ok : Bool) : Nat × State :=
  if s.flag ICF_DMA_STS.BUSY e then (1, s)
  else if !s.descOk d ok then (2, s)
  else if !s.priv n ∧ (d.skind = 2 ∨ d.dkind = 2) then (3, s)
  else if (s.dma e).paused.isSome then (4, s)
  else (0, s.dmaBegin e d)

/-- The fields of DMA. -/
def Disp.dmaForm (d : Disp) : Bool := d.rs2 == 0 && d.rs3 == 0 && decide (d.imm.toNat < 4)

def execDma (d : Disp) (s : State) : Host.Outcome State Fault Refusal :=
  let n := d.seat.val
  let e := d.imm.toNat % 4
  .next (fetching d .f 0x07 (fun s =>
    if s.wipeBlocks (s.src1 d).toNat 32 ∧ d.dmaForm ∧ (s.src1 d).toNat % 32 = 0 then s
    else s.dispatch d 4 d.dmaForm (fun s =>
      let a := (s.src1 d).toNat
      if e < 2 ∧ !s.priv n then .trap 2 s
      else if a % 32 ≠ 0 ∨ memSize < a + 32 then .trap 1 s
      else match s.refusal (.seat n) false .read a 32 with
        | some r => .trap 5 (s.violate (.seat n) false .read r)
        | none =>
          let (v, s, _) := s.spadRead a 32 d.spad
          let (x, ok) := descOf v
          let (code, s) := s.dmaStart n e x ok
          .done ((s.setGreg n d.rd.val (wordOf code)).advancePc n))) s)

/-! Events and control (R317, R318, R357, R358) -/

def execWaitev (d : Disp) (s : State) : Host.Outcome State Fault Refusal :=
  let n := d.seat.val
  .next (fetching d .f 0x10 (fun s => s.dispatch d 1 (d.regImm && decide (d.imm.toNat < 256)) (fun s =>
    if s.effMask n d.imm.toNat = 0 then .trap 6 s
    else .done ((s.advancePc n).startOp n d.rd.val (.waitev d.imm.toNat (s.src1 d).toNat)))) s)

def execPostev (d : Disp) (s : State) : Host.Outcome State Fault Refusal :=
  let n := d.seat.val
  let code := d.immBits 7 0
  .next (fetching d .f 0x11 (fun s => s.dispatch d 2
    (d.regImm && decide (d.imm.toNat < 2 ^ 11) && decide (0x70 ≤ code) && decide (code ≤ 0x7F)) (fun s =>
    let (s, taken) := s.postRecord (eventWord code (d.immBits 10 8) n (s.src1 d).toNat)
    .done ((s.setGreg n d.rd.val (boolWord (!taken))).advancePc n))) s)

/-- An instruction without fields. -/
def Disp.bare (d : Disp) : Bool := d.rd == 0 && d.immOnly && d.imm == 0

def execFsync (d : Disp) (s : State) : Host.Outcome State Fault Refusal :=
  .next (fetching d .f 0x18 (waitInstr d d.bare false (fun _ => some .fsync)) s)

def execYield (d : Disp) (s : State) : Host.Outcome State Fault Refusal :=
  let n := d.seat.val
  .next (fetching d .f 0x19 (fun s => s.dispatch d 1 d.bare (fun s =>
    .done ((s.advancePc n).modSeat n (fun q => { q with yielded := true })))) s)

def execHalt (d : Disp) (s : State) : Host.Outcome State Fault Refusal :=
  let n := d.seat.val
  .next (fetching d .f 0x1A (fun s => s.dispatch d 1 d.bare (fun s => .done ((s.advancePc n).setSeatState n seatHalted))) s)

def execTrap (d : Disp) (s : State) : Host.Outcome State Fault Refusal :=
  .next (fetching d .f 0x1B (fun s => s.dispatch d 1 d.bare (fun s => .trap 7 s)) s)

end Sys2Proof.Machine
end

