-- ==== Sys2Proof/Machine/HostAccess.lean ====
section
/-! DEFINITION. Requests from outside: BAR0 and BAR2 of the Host Service Function, the debug port, the manager's mailbox, and the
timeouts of NoC requests (spec/14 R362 to R367, spec/15 R393, spec/16 R407 to R409, spec/17 R433). -/

namespace Sys2Proof.Machine

/-! What every BAR request meets first (R404, R414, R418) -/

/-- Whether a request reads. -/
def BarOp.reads : BarOp → Bool
  | .read _ => true
  | .write _ => false

/-- The length of a request. -/
def BarOp.len : BarOp → Nat
  | .read n => n
  | .write bs => bs.length

/-- A read answered; a write is posted and has no completion. -/
def State.barAnswer (s : State) (p : Nat) (r : BarReq) (a : BarAnswer) : State := if r.op.reads then s.emit (.bar p a) else s

/-- The error of a BAR request (R418): of a read, which has a completion to carry it, an advisory one. -/
def State.barError (s : State) (p : Nat) (r : BarReq) (b : Nat) : State := if r.op.reads then s.aerAdvisory p b else s.aer p b

/-- A request of a length or alignment that is not performed (R408). -/
def State.barAbort (s : State) (p : Nat) (r : BarReq) : State :=
  ((s.hsfLog p 0 r.off).barError p r aerAbort).barAnswer p r .abort

/-- Whether a request is 4 bytes aligned to 4, or 8 bytes aligned to 8. -/
def BarReq.aligned (r : BarReq) : Bool := (r.op.len == 4 && r.off % 4 == 0) || (r.op.len == 8 && r.off % 8 == 0)

/-- The state after a BAR request that the HSF cannot take, or none where it goes on. -/
def State.barStopped (s : State) (p : Nat) (r : BarReq) : Option State :=
  if r.malformed then some (s.aer p aerMalformed)
  else if !s.mse p ∨ s.d3hot p ∨ s.flr p then
    some (((s.hsfLog p 8 r.off).barError p r aerUnsupported).barAnswer p r .unsupported)
  else if r.poison ∧ !r.op.reads then some ((s.hsfLog p 2 r.off).aer p aerPoisoned)
  else none

/-! BAR0 (R407, R408) -/

/-- Whether a BAR0 write of an HSF has not completed. -/
def State.barWriteOpen (s : State) (p : Nat) : Bool :=
  s.noc.outstanding.any (fun q => q.who == Requester.bar0 p && q.write)

/-- A BAR0 request that no unit has refused: one access of the management space over the NoC. lost: a write of the SPD window that
loses its slot (R362). -/
def State.barAccess (s : State) (p : Nat) (r : BarReq) (lost : Bool) (o : WriteObs) : State :=
  let who := Requester.bar0 p
  let a := r.off
  let wide := r.op.len == 8
  let (t, s) := s.nocTry who a wide (!r.op.reads) o.noc
  let write := fun (bs : List Byte) =>
    if (windowOffset a).isSome ∧ lost then (s.count SPD_LOST_CNT.CNT).event islandEngine 0x07
    else s.writeReg who a wide (wordOf (natOfBytes bs)) o
  match t with
  | .ok =>
    match r.op with
    | .read n =>
      let (v, s, _) := s.readSpace who a wide o.spad
      s.emit (.bar p (.data (bytesOf v n)))
    | .write bs => write bs
  | .late =>
    match r.op with
    | .read _ => (s.readSpace who a wide o.spad).2.1.nocWait who a wide false true
    | .write bs => (write bs).nocWait who a wide true true
  | .noEntry => ((s.hsfLog p 1 a).barError p r aerAbort).barAnswer p r .abort
  | _ => s.nocWait who a wide (!r.op.reads)

/-- BAR0_REQUEST (R408). A read waits for every earlier BAR0 write of its HSF, an access of the secure region for a wipe, and an
access for the NI of its port island (R391, R393, R394). -/
def execBar0Request (port : Fin 256) (r : BarReq) (lost : Bool) (obs : WriteObs) (s : State) :
    Host.Outcome State Fault Refusal :=
  let p := port.val
  if !s.hsfHere p then .next s
  else if !(s.hsf p).mgr then .next (s.barAnswer p r .unsupported)
  else match s.barStopped p r with
  | some t => .next t
  | none =>
    if !r.aligned ∨ 0x4000000 ≤ r.off then .next (s.barAbort p r)
    else if (r.op.reads ∧ s.barWriteOpen p) ∨ s.nocHeld (Requester.bar0 p).node (targetOf r.off) then .next s
    else if (windowOffset r.off).any (fun o => s.wipeBlocks o r.op.len) then .next s
    else
      let acc : Acc := if r.op.reads then .read else .write
      match (windowOffset r.off).bind (fun _ => s.refusal (.bar0 p) true acc r.off r.op.len) with
      | some x => .next ((s.violate (.bar0 p) true acc x).barAnswer p r (.data (List.replicate r.op.len 0)))
      | none => .next (s.barAccess p r lost obs)

/-! BAR2 (R409, R433) -/

/-- The created slice that page k of an HSF serves. -/
def State.pageSlice (s : State) (p page : Nat) : Option Nat :=
  (List.range 1024).find? (fun k => s.sliceMade k && s.fld SLC_CTL.HPORT k == p && s.fld SLC_CTL.PAGE k == page)

/-- Whether user access to a slice's counters is granted (R505). -/
def State.userCounters (s : State) (k : Nat) : Bool := bitOf (s.rd ⟨.PMC_SLC_UEN, k / 32, 0⟩) (k % 32)

/-- A 32-bit word of a mailbox page (R433). -/
def State.pageWord (s : State) (k off : Nat) : Word :=
  if off < 0x100 then s.rd ⟨.SLC_MB_CA, k, off / 4⟩
  else if off < 0x200 then s.rd ⟨.SLC_MB_RA, k, (off - 0x100) / 4⟩
  else if off = 0x208 then s.rd ⟨.SLC_MB_STS, k, 0⟩
  else if 0x400 ≤ off ∧ off < 0x420 ∧ s.userCounters k then
    let w := s.rd ⟨.PMC_SCNT, k, (off - 0x400) / 8⟩
    if off % 8 = 0 then lowHalf w else highHalf w
  else 0

/-- A read of a mailbox page of 4 or 8 bytes; a page without a slice reads 0. -/
def State.pageRead (s : State) (slice : Option Nat) (off len : Nat) : List Byte :=
  match slice with
  | none => List.replicate len 0
  | some k => (bytesOf (s.pageWord k off) 4 ++ bytesOf (s.pageWord k (off + 4)) 4).take len

/-- A write of a mailbox page: the command area, or a doorbell of 4 or 8 bytes. -/
def State.pageWrite (s : State) (slice : Option Nat) (off : Nat) (bs : List Byte) : State :=
  match slice with
  | none => s
  | some k =>
    if off < 0x100 then s.commandWrite k off bs
    else if off = 0x200 ∧ (bs.length = 4 ∨ bs.length = 8) then s.doorbell k (natOfBytes (bs.take 2))
    else s

/-- A word of the MSI-X table, or of the PBA (R410). -/
def State.msixWord (s : State) (p off : Nat) : Nat :=
  if off < 0x400400 then (s.hsf p).vec ((off - 0x400000) / 16) ((off - 0x400000) % 16 / 4)
  else if off = 0x401000 ∨ off = 0x401004 then
    ((s.hsf p).pba.map (fun v => if (off - 0x401000) / 4 = v / 32 then 2 ^ (v % 32) else 0)).sum
  else 0

/-- A write of a word of the MSI-X table; the PBA ignores writes. Of the last word of a vector only the mask bit is stored, and of
the first not its two low bits. -/
def State.msixWrite (s : State) (p off v : Nat) : State :=
  if off < 0x400400 then
    let k := (off - 0x400000) / 4
    let v := if k % 4 = 3 then v % 2 else if k % 4 = 0 then v / 4 * 4 else v
    s.modHsf p (fun q => { q with table := tabSet id (fun k => if k % 4 = 3 then 1 else 0) q.table k v })
  else s

/-- A BAR2 request that is performed. -/
def State.bar2Run (s : State) (p : Nat) (r : BarReq) : State :=
  let page := s.pageSlice p (r.off / 0x1000)
  match r.op with
  | .read n =>
    let bs := if r.off < 0x400000 then s.pageRead page (r.off % 0x1000) n
      else (bytesOf (wordOf (s.msixWord p r.off)) 4 ++ bytesOf (wordOf (s.msixWord p (r.off + 4))) 4).take n
    s.emit (.bar p (.data bs))
  | .write bs =>
    if r.off < 0x400000 then s.pageWrite page (r.off % 0x1000) bs
    else
      let s := s.msixWrite p r.off (natOfBytes (bs.take 4))
      if bs.length = 8 then s.msixWrite p (r.off + 4) (natOfBytes (bs.drop 4)) else s

/-- Whether the length and alignment of a BAR2 request are accepted (R409). -/
def BarReq.bar2Ok (r : BarReq) : Bool :=
  let n := r.op.len
  decide (r.off + n ≤ 0x800000) &&
    (r.aligned || (!r.op.reads && decide (r.off < 0x400000) && decide (1 ≤ n) && decide (r.off % 256 + n ≤ 256)))

/-- BAR2_REQUEST (R409). -/
def execBar2Request (port : Fin 256) (r : BarReq) (s : State) : Host.Outcome State Fault Refusal :=
  let p := port.val
  if !s.hsfHere p then .next s
  else match s.barStopped p r with
  | some t => .next t
  | none => if r.bar2Ok then .next (s.bar2Run p r) else .next (s.barAbort p r)

/-- MANAGER_MAILBOX_COMMAND (R309, R316). -/
def execManagerMailboxCommand (port : Fin 256) (s : State) : Host.Outcome State Fault Refusal :=
  let p := port.val
  if s.hsfHere p ∧ (s.hsf p).mgr then .next (s.post 0x51 p 0) else .next s

/-! The debug port (R362, R364, R367) -/

/-- Whether the debug port reaches the debug master (R367). -/
def State.debugReaches (s : State) : Bool := if s.lifecycle = lcProduction then s.flag SPD_DBG_CTL.EN else true

/-- A debug access that is permitted: its answer, and its effect. -/
def State.debugRun (s : State) (a : Nat) (wide : Bool) (write : Option Word) (lost : Bool) (o : WriteObs) : State :=
  let n := (Requester.debug).node
  let (t, s) := s.nocTry .debug a wide write.isSome o.noc
  let gone := s.nocTimedOut n (targetOf a)
  match write with
  | none =>
    match t with
    | .ok =>
      let (v, s, ue) := s.readSpace .debug a wide o.spad
      s.emit (.debug v ue false)
    | .noEntry => s.emit (.debug 0 true false)
    | .late => ((gone.readSpace .debug a wide o.spad).2.1.emit (.debug 0 true false)).nocLate n
    | _ => gone.emit (.debug 0 true false)
  | some v =>
    match t with
    | .ok =>
      if (windowOffset a).isSome ∧ lost then
        ((s.count SPD_LOST_CNT.CNT).event islandEngine 0x07).emit (.debug 0 false true)
      else
        let dropped := match windowOffset a, o.spad with
          | some off, .ue k => mergesWord off (if wide then 8 else 4) k
          | _, _ => false
        (s.writeReg .debug a wide v o).emit (.debug 0 dropped false)
    | .noEntry => s.emit (.debug 0 true false)
    | .late => ((gone.writeReg .debug a wide v o).emit (.debug 0 true false)).nocLate n
    | _ => gone.emit (.debug 0 true false)

/-- The address of FUSE_STS (R519). -/
def fuseStsAddr : Nat := RKey.addr ⟨.FUSE_STS, 0, 0⟩

/-- DEBUG_ACCESS (R367): a device that fuse load has stopped in boot answers a read of FUSE_STS, in every lifecycle, and nothing
else (R518). Otherwise a read, or a write of a value, from the debug port. lost: the write loses its slot. session: a session
holds the debug master afterwards (R370). -/
def execDebugAccess (addr : Fin 67108864) (wide : Bool) (write : Option Word) (lost session : Bool) (obs : WriteObs) (s : State) :
    Host.Outcome State Fault Refusal :=
  let a := addr.val
  let n := if wide then 8 else 4
  if s.chip.dead then
    .next (if a = fuseStsAddr ∧ write.isNone then
        let (v, s, _) := s.readSpace .debug a wide obs.spad
        s.emit (.debug v false false)
      else s)
  else if !s.debugReaches ∨ a % n ≠ 0 then .next s
  else if (windowOffset a).any (fun o => s.wipeBlocks o n) ∨ s.nocHeld (Requester.debug).node (targetOf a) then .next s
  else
    let s := s.setFld SPD_DBG_CTL.SESS (bit session)
    let acc : Acc := if write.isSome then .write else .read
    match s.refusal .debug true acc a n with
    | some x => .next ((s.violate .debug true acc x).emit (.debug 0 true false))
    | none => .next (s.debugRun a wide write lost obs)

/-! Timeouts of NoC requests (R393) -/

/-- A lost FWR counted, which completes for R345. -/
def State.dropLost (s : State) (n a : Nat) : State :=
  match takeFirst (fun w : PostedWrite => w.lost && w.addr == a) (s.seat n).posted with
  | some (_, rest) => ((s.modSeat n (fun q => { q with posted := rest })).event islandEngine 0x07).unblock n
  | none => s

/-- Whether a seat waits in a read of an address that has begun. -/
def State.readsNow (s : State) (n a : Nat) : Bool :=
  s.seatState n == seatWaiting &&
    (match (s.seat n).wait with
    | some ⟨.frd b _ _ _, _, true⟩ => b == a
    | _ => false)

/-- What its requester gets of a request that has run out of time. -/
def State.nocExpire (s : State) (q : NocReq) : State :=
  match q.who with
  | .seat n =>
    if q.write then s.dropLost n q.addr
    else if s.readsNow n q.addr then s.finishWait n (((s.seat n).wait.map (·.rd)).getD 0) (allOnesOf q.wide)
    else s
  | .bar0 p =>
    let s := s.hsfLog p 1 q.addr
    if q.write then (s.aer p aerAbort).event islandEngine 0x07 else (s.aerAdvisory p aerAbort).emit (.bar p .abort)
  | _ => s

/-- NOC_TIMEOUT (R393): a request that waits, by its place among them, runs out of time. A response that is late is discarded and
counted (R17). -/
def execNocTimeout (index : Nat) (s : State) : Host.Outcome State Fault Refusal :=
  match s.noc.outstanding[index]? with
  | none => .next s
  | some q =>
    let s := { s with noc := { s.noc with outstanding := s.noc.outstanding.eraseIdx index,
                                          relayed := s.noc.relayed - bit q.relayed } }
    let s := (s.nocTimedOut q.node q.target).nocExpire q
    .next (if q.late then s.nocLate q.node else s).releaseNi

end Sys2Proof.Machine
end

