-- ==== Sys2Proof/Machine/WriteCommands.lean ====
section
/-! DEFINITION. Writes and reads of registers as commands of their own. A row that names one register writes that register whole
for a requester, with the fields that the row fixes; REGISTER_WRITE writes any (spec/24 R569 to R574). -/

namespace Sys2Proof.Machine

/-- REGISTER_WRITE (R6, R569): a write of 4 or 8 bytes, aligned, reaches the block that owns its address. -/
def execRegisterWrite (who : Requester) (addr : Fin 67108864) (wide : Bool) (value : Word) (obs : WriteObs) (s : State) :
    Host.Outcome State Fault Refusal :=
  if addr.val % (if wide then 8 else 4) ≠ 0 then .next s
  else .next (s.writeReg who addr.val wide (if wide then value else lowHalf value) obs)

/-- COUNTER_CLEAR (R573): a write of a register that any write clears. -/
def execCounterClear (who : Requester) (addr : Fin 67108864) (value : Word) (s : State) : Host.Outcome State Fault Refusal :=
  match regAt addr.val with
  | some (k, 0) => if k.r.clears then .next (s.writeKey who k value) else .next s
  | _ => .next s

/-- A word of 32 bits with its field at a bit. -/
def fieldAt (lo n : Nat) : Word := wordOf (2 ^ lo * n)

/-- The register of word w of a skein (R39). -/
def skeinKey (n : Nat) (w : Fin 4) : RKey :=
  match w.val with
  | 0 => ⟨.SKN_W0, n, 0⟩
  | 1 => ⟨.SKN_W1, n, 0⟩
  | 2 => ⟨.SKN_W2, n, 0⟩
  | _ => ⟨.SKN_W3, n, 0⟩

/-- SKEIN_ENTRY_WRITE (R40). -/
def execSkeinEntryWrite (who : Requester) (skein : Fin 65536) (word : Fin 4) (value : Word) (s : State) :
    Host.Outcome State Fault Refusal :=
  .next (s.writeKey who (skeinKey skein.val word) value)

/-- DCE_ADD (R49). -/
def execDceAdd (who : Requester) (port : Fin 256) (skein : Fin 65536) (s : State) : Host.Outcome State Fault Refusal :=
  .next (s.writeKey who ⟨.PRT_DCE, port.val, 0⟩ (fieldAt 30 1 + fieldAt 0 skein.val))

/-- DCE_RELEASE_REQUEST (R49). -/
def execDceReleaseRequest (who : Requester) (port : Fin 256) (skein : Fin 65536) (s : State) : Host.Outcome State Fault Refusal :=
  .next (s.writeKey who ⟨.PRT_DCE, port.val, 0⟩ (fieldAt 30 2 + fieldAt 0 skein.val))

/-- DCE_FORCED_RELEASE (R49). -/
def execDceForcedRelease (who : Requester) (port : Fin 256) (skein : Fin 65536) (s : State) : Host.Outcome State Fault Refusal :=
  .next (s.writeKey who ⟨.PRT_DCE, port.val, 0⟩ (fieldAt 30 3 + fieldAt 0 skein.val))

/-- RDCE_ADD (R186). -/
def execRdceAdd (who : Requester) (port : Fin 256) (index : Fin 32) (s : State) : Host.Outcome State Fault Refusal :=
  .next (s.writeKey who ⟨.PRT_RDCE, port.val, 0⟩ (fieldAt 30 1 + fieldAt 0 index.val))

/-- RDCE_RELEASE_REQUEST (R186). -/
def execRdceReleaseRequest (who : Requester) (port : Fin 256) (index : Fin 32) (s : State) : Host.Outcome State Fault Refusal :=
  .next (s.writeKey who ⟨.PRT_RDCE, port.val, 0⟩ (fieldAt 30 2 + fieldAt 0 index.val))

/-- RDCE_FORCED_RELEASE (R186). -/
def execRdceForcedRelease (who : Requester) (port : Fin 256) (index : Fin 32) (s : State) : Host.Outcome State Fault Refusal :=
  .next (s.writeKey who ⟨.PRT_RDCE, port.val, 0⟩ (fieldAt 30 3 + fieldAt 0 index.val))

/-- SCRUB_GO (R61). -/
def execScrubGo (who : Requester) (port : Fin 256) (skein : Fin 65536) (s : State) : Host.Outcome State Fault Refusal :=
  .next (s.writeKey who ⟨.PRT_SCRB_CTL, port.val, 0⟩ (fieldAt 31 1 + fieldAt 0 skein.val))

/-- CREW_CREATE (R72). -/
def execCrewCreate (who : Requester) (crew : Fin 256) (s : State) : Host.Outcome State Fault Refusal :=
  .next (s.writeKey who ⟨.CRW_CMD, crew.val, 0⟩ 1)

/-- CREW_DELETE (R72). -/
def execCrewDelete (who : Requester) (crew : Fin 256) (s : State) : Host.Outcome State Fault Refusal :=
  .next (s.writeKey who ⟨.CRW_CMD, crew.val, 0⟩ 2)

/-- CRW_CTL_WRITE (R66). -/
def execCrwCtlWrite (who : Requester) (crew : Fin 256) (value : BitVec 32) (s : State) : Host.Outcome State Fault Refusal :=
  .next (s.writeKey who ⟨.CRW_CTL, crew.val, 0⟩ (value.zeroExtend 64))

/-- CRW_MEM_WRITE (R70). -/
def execCrwMemWrite (who : Requester) (crew : Fin 256) (word : Fin 128) (value : BitVec 32) (s : State) :
    Host.Outcome State Fault Refusal :=
  .next (s.writeKey who ⟨.CRW_MEM, crew.val, word.val⟩ (value.zeroExtend 64))

/-- HISTOGRAM_CLEAR_ALL (R171): TM_CTL written with CLR_ALL 1 and the other fields as value gives them. -/
def execHistogramClearAll (who : Requester) (value : BitVec 32) (s : State) : Host.Outcome State Fault Refusal :=
  .next (s.writeKey who ⟨.TM_CTL, 0, 0⟩ (putBits (value.zeroExtend 64) 31 31 1))

/-- HEAT_GO (R297). -/
def execHeatGo (who : Requester) (half : Fin 128) (lead : Fin 1024) (mask : Fin 256) (s : State) :
    Host.Outcome State Fault Refusal :=
  .next (s.writeKey who ⟨.LFL_HT_CTL, half.val, 0⟩ (fieldAt 31 1 + fieldAt 16 lead.val + fieldAt 8 mask.val))

/-- HEAT_ABORT (R292): LFL_HT_CTL written with ABORT 1, GO 0 and its settings. -/
def execHeatAbort (who : Requester) (half : Fin 128) (lead : Fin 1024) (mask : Fin 256) (s : State) :
    Host.Outcome State Fault Refusal :=
  .next (s.writeKey who ⟨.LFL_HT_CTL, half.val, 0⟩ (fieldAt 30 1 + fieldAt 16 lead.val + fieldAt 8 mask.val))

/-- CLEAR_RETIREMENT (R286): LFL_SP_CTL written with CLR_RET 1 and its OWN. -/
def execClearRetirement (who : Requester) (octet : Fin 64) (own : Fin 4) (s : State) : Host.Outcome State Fault Refusal :=
  .next (s.writeKey who ⟨.LFL_SP_CTL, octet.val, 0⟩ (fieldAt 31 1 + fieldAt 0 own.val))

/-- MARGIN_SCAN (R282). -/
def execMarginScan (who : Requester) (lane : Fin 576) (dwell : Fin 8) (s : State) : Host.Outcome State Fault Refusal :=
  .next (s.writeKey who ⟨.LN_SS_CTL, lane.val, 0⟩ (fieldAt 31 1 + fieldAt 0 dwell.val))

/-- SEAT_START (R327). -/
def execSeatStart (who : Requester) (seat : Fin 16) (pc : Fin 65536) (s : State) : Host.Outcome State Fault Refusal :=
  .next (s.writeKey who ⟨.ICF_SEAT_CMD, seat.val, 0⟩ (fieldAt 30 1 + fieldAt 3 pc.val))

/-- SEAT_STOP (R327). -/
def execSeatStop (who : Requester) (seat : Fin 16) (s : State) : Host.Outcome State Fault Refusal :=
  .next (s.writeKey who ⟨.ICF_SEAT_CMD, seat.val, 0⟩ (fieldAt 30 2))

/-- INTRAP_CLEAR (R314, R326): seat 0 writes 1 to its INTRAP. -/
def execIntrapClear (s : State) : Host.Outcome State Fault Refusal :=
  .next (s.writeKey (.seat 0) ⟨.ICF_SEAT_STS, 0, 0⟩ (fieldAt 28 1))

/-- IMAGE_LOAD (R312, R330): a GO of the loader, with the source line and the destination word of the load. -/
def execImageLoad (who : Requester) (user : Bool) (src : Fin 512) (dst : Fin 128) (s : State) : Host.Outcome State Fault Refusal :=
  .next (s.writeKey who ⟨.ICF_LOAD_CTL, 0, 0⟩ (fieldAt 31 1 + fieldAt 30 (bit user) + fieldAt 16 src.val + fieldAt 0 dst.val))

/-- SECURE_REGION_LOCK (R365). -/
def execSecureRegionLock (who : Requester) (s : State) : Host.Outcome State Fault Refusal :=
  .next (s.writeKey who ⟨.SPD_SEC_LOCK, 0, 0⟩ (fieldAt 31 1))

/-- FLR_ACK (R420). -/
def execFlrAck (who : Requester) (port : Fin 256) (s : State) : Host.Outcome State Fault Refusal :=
  .next (s.writeKey who ⟨.HSF_CMD, port.val, 0⟩ (fieldAt 31 1))

/-- DMA_RESUME (R416). -/
def execDmaResume (who : Requester) (port : Fin 256) (s : State) : Host.Outcome State Fault Refusal :=
  .next (s.writeKey who ⟨.HSF_CMD, port.val, 0⟩ (fieldAt 30 1))

/-- HSF_IRQ (R411). -/
def execHsfIrq (who : Requester) (port : Fin 256) (vec : Fin 64) (s : State) : Host.Outcome State Fault Refusal :=
  .next (s.writeKey who ⟨.HSF_CMD, port.val, 0⟩ (fieldAt 29 1 + fieldAt 0 vec.val))

/-- SLICE_CREATE (R429). -/
def execSliceCreate (who : Requester) (slice : Fin 1024) (s : State) : Host.Outcome State Fault Refusal :=
  .next (s.writeKey who ⟨.SLC_CMD, slice.val, 0⟩ 1)

/-- SLICE_DELETE (R432). -/
def execSliceDelete (who : Requester) (slice : Fin 1024) (s : State) : Host.Outcome State Fault Refusal :=
  .next (s.writeKey who ⟨.SLC_CMD, slice.val, 0⟩ 2)

/-- MAILBOX_DONE (R435). -/
def execMailboxDone (who : Requester) (slice : Fin 1024) (irq : Bool) (s : State) : Host.Outcome State Fault Refusal :=
  .next (s.writeKey who ⟨.SLC_MB_DONE, slice.val, 0⟩ (fieldAt 31 1 + fieldAt 30 (bit irq)))

/-- SOURCE_CLEAR (R479). -/
def execSourceClear (who : Requester) (slot : Fin 1536) (s : State) : Host.Outcome State Fault Refusal :=
  .next (s.writeKey who ⟨.FLT_SRC_STS, slot.val, 0⟩ (fieldAt 31 1))

/-- SAFE_REQUEST (R484). -/
def execSafeRequest (who : Requester) (s : State) : Host.Outcome State Fault Refusal :=
  .next (s.writeKey who ⟨.FLT_CTL, 0, 0⟩ (fieldAt 31 1))

/-- PMC_FREEZE (R502): PMC_CTL written with FRZ alone. -/
def execPmcFreeze (who : Requester) (freeze : Bool) (s : State) : Host.Outcome State Fault Refusal :=
  .next (s.writeKey who ⟨.PMC_CTL, 0, 0⟩ (fieldAt 31 (bit freeze)))

/-- PMC_FLUSH (R502): PMC_CTL written with FLUSH 1 and its FRZ. -/
def execPmcFlush (who : Requester) (frozen : Bool) (s : State) : Host.Outcome State Fault Refusal :=
  .next (s.writeKey who ⟨.PMC_CTL, 0, 0⟩ (fieldAt 31 (bit frozen) + fieldAt 30 1))

/-- PMC_CLEAR_ALL (R502): PMC_CTL written with CLR_ALL 1 and its FRZ. -/
def execPmcClearAll (who : Requester) (frozen : Bool) (s : State) : Host.Outcome State Fault Refusal :=
  .next (s.writeKey who ⟨.PMC_CTL, 0, 0⟩ (fieldAt 31 (bit frozen) + fieldAt 29 1))

/-- The count register of a counter of a bank: global, port, slice (R493). -/
def counterKey (bank : Fin 3) (i j : Nat) : RKey :=
  match bank.val with
  | 0 => ⟨.PMC_GCNT, i % 16, 0⟩
  | 1 => ⟨.PMC_PCNT, i % 256, j⟩
  | _ => ⟨.PMC_SCNT, i % 1024, j % 4⟩

/-- PMC_COUNTER_CLEAR (R501). -/
def execPmcCounterClear (who : Requester) (bank : Fin 3) (i : Fin 1024) (j : Fin 8) (value : Word) (s : State) :
    Host.Outcome State Fault Refusal :=
  .next (s.writeKey who (counterKey bank i.val j.val) value)

/-- TD_SNAP (R508): DIR_TD_CTL written with SNAP 1 and its EN. -/
def execTdSnap (who : Requester) (slice : Fin 64) (on : Bool) (s : State) : Host.Outcome State Fault Refusal :=
  .next (s.writeKey who ⟨.DIR_TD_CTL, slice.val, 0⟩ (fieldAt 31 1 + fieldAt 29 (bit on)))

/-- TD_CLEAR (R508): DIR_TD_CTL written with CLR 1 and its EN. -/
def execTdClear (who : Requester) (slice : Fin 64) (on : Bool) (s : State) : Host.Outcome State Fault Refusal :=
  .next (s.writeKey who ⟨.DIR_TD_CTL, slice.val, 0⟩ (fieldAt 30 1 + fieldAt 29 (bit on)))

/-- DIR_EIDX_READ (R89). -/
def execDirEidxRead (who : Requester) (slice : Fin 64) (set : Fin 2048) (way : Fin 16) (s : State) :
    Host.Outcome State Fault Refusal :=
  .next (s.writeKey who ⟨.DIR_EIDX, slice.val, 0⟩ (fieldAt 31 1 + fieldAt 11 way.val + fieldAt 0 set.val))

/-- GLB_COLD_RESET_REQUEST (R514). -/
def execGlbColdResetRequest (who : Requester) (s : State) : Host.Outcome State Fault Refusal :=
  .next (s.writeKey who ⟨.GLB_RST_CTL, 0, 0⟩ (fieldAt 30 2 + fieldAt 0 0xA5C3))

/-- GLB_WARM_RESET_REQUEST (R514). -/
def execGlbWarmResetRequest (who : Requester) (s : State) : Host.Outcome State Fault Refusal :=
  .next (s.writeKey who ⟨.GLB_RST_CTL, 0, 0⟩ (fieldAt 30 1 + fieldAt 0 0xA5C3))

/-- BOOT_HOST_GO (R521). image: what the boot ROM's DMA engine brings from the host, none where it fails. -/
def execBootHostGo (who : Requester) (haddr : BitVec 32) (hlen : Fin 1048576) (image : Option (List Byte)) (s : State) :
    Host.Outcome State Fault Refusal :=
  .next (s.writeKey who ⟨.GLB_BOOT_HOST, 0, 0⟩ (fieldAt 63 1 + fieldAt 20 haddr.toNat + fieldAt 0 hlen.val) { image := image })

/-- KEY_SLOT_PROGRAM (R523). -/
def execKeySlotProgram (who : Requester) (slot : Fin 4) (src : Fin 131072) (s : State) : Host.Outcome State Fault Refusal :=
  .next (s.writeKey who ⟨.FUSE_PGM, 0, 0⟩ (fieldAt 31 1 + fieldAt 27 1 + fieldAt 25 slot.val + fieldAt 4 src.val))

/-- KEY_SLOT_REVOKE (R523). -/
def execKeySlotRevoke (who : Requester) (slot : Fin 4) (s : State) : Host.Outcome State Fault Refusal :=
  .next (s.writeKey who ⟨.FUSE_PGM, 0, 0⟩ (fieldAt 31 1 + fieldAt 27 2 + fieldAt 25 slot.val))

/-- FW_MIN_VERSION_RAISE (R523). -/
def execFwMinVersionRaise (who : Requester) (s : State) : Host.Outcome State Fault Refusal :=
  .next (s.writeKey who ⟨.FUSE_PGM, 0, 0⟩ (fieldAt 31 1 + fieldAt 27 3))

/-- USER_MIN_VERSION_RAISE (R523). -/
def execUserMinVersionRaise (who : Requester) (s : State) : Host.Outcome State Fault Refusal :=
  .next (s.writeKey who ⟨.FUSE_PGM, 0, 0⟩ (fieldAt 31 1 + fieldAt 27 4))

/-- LIFECYCLE_TRANSITION (R525). verified: the burn of the bit reads back. -/
def execLifecycleTransition (who : Requester) (target : Fin 16) (verified : Bool) (s : State) : Host.Outcome State Fault Refusal :=
  .next (s.writeKey who ⟨.GLB_LIFECYCLE, 0, 0⟩ (fieldAt 31 1 + fieldAt 24 target.val) { verified := verified })

/-- A read of a pop register by a seat, whose result goes to its register rd. Only a privileged seat's removes the record; the read
of a user seat returns the head record and leaves it (R480, R572). -/
def popRead (k : RKey) (n rd : Nat) (s : State) : State :=
  if s.seatState n = seatIdle then s
  else
    let (v, s) := (s.dropLatch (.seat n) k.addr true).readPop (.seat n) k
    s.setGreg n rd v

/-- FAULT_QUEUE_POP (R480). -/
def execFaultQueuePop (seat : Fin 16) (rd : Fin 32) (s : State) : Host.Outcome State Fault Refusal :=
  .next (popRead ⟨.FLT_FQ_POP, 0, 0⟩ seat.val rd.val s)

/-- SAFE_QUEUE_POP (R480). -/
def execSafeQueuePop (seat : Fin 16) (rd : Fin 32) (s : State) : Host.Outcome State Fault Refusal :=
  .next (popRead ⟨.FLT_SQ_POP, 0, 0⟩ seat.val rd.val s)

end Sys2Proof.Machine
end

