-- ==== Sys2Proof/Machine/Dispatch.lean ====
section
/-! DEFINITION. The dispatch: one arm per command. -/

namespace Sys2Proof.Machine

def exec (i : Instr) (s : State) : Host.Outcome State Fault Refusal :=
  match i with
  | .registerWrite who addr wide value obs => Sys2Proof.Machine.execRegisterWrite who addr wide value obs s
  | .counterClear who addr value => Sys2Proof.Machine.execCounterClear who addr value s
  | .hostRequest port r => Sys2Proof.Machine.execHostRequest port r s
  | .skeinEntryWrite who skein word value => Sys2Proof.Machine.execSkeinEntryWrite who skein word value s
  | .addDcResponse port listed => Sys2Proof.Machine.execAddDcResponse port listed s
  | .releaseDynamicCapacity port remote index => Sys2Proof.Machine.execReleaseDynamicCapacity port remote index s
  | .dceAdd who port skein => Sys2Proof.Machine.execDceAdd who port skein s
  | .dceReleaseRequest who port skein => Sys2Proof.Machine.execDceReleaseRequest who port skein s
  | .dceForcedRelease who port skein => Sys2Proof.Machine.execDceForcedRelease who port skein s
  | .rdceAdd who port index => Sys2Proof.Machine.execRdceAdd who port index s
  | .rdceReleaseRequest who port index => Sys2Proof.Machine.execRdceReleaseRequest who port index s
  | .rdceForcedRelease who port index => Sys2Proof.Machine.execRdceForcedRelease who port index s
  | .identifyMemoryDevice port => Sys2Proof.Machine.execIdentifyMemoryDevice port s
  | .getSupportedLogs port => Sys2Proof.Machine.execGetSupportedLogs port s
  | .getLog port => Sys2Proof.Machine.execGetLog port s
  | .getEventRecords port log => Sys2Proof.Machine.execGetEventRecords port log s
  | .clearEventRecords port log count => Sys2Proof.Machine.execClearEventRecords port log count s
  | .getEventInterruptPolicy port => Sys2Proof.Machine.execGetEventInterruptPolicy port s
  | .setEventInterruptPolicy port policy => Sys2Proof.Machine.execSetEventInterruptPolicy port policy s
  | .getDcConfiguration port => Sys2Proof.Machine.execGetDcConfiguration port s
  | .getDcExtentList port => Sys2Proof.Machine.execGetDcExtentList port s
  | .getTimestamp port elapsed => Sys2Proof.Machine.execGetTimestamp port elapsed s
  | .setTimestamp port stamp => Sys2Proof.Machine.execSetTimestamp port stamp s
  | .unsupportedMailboxCommand port => Sys2Proof.Machine.execUnsupportedMailboxCommand port s
  | .epochActivate port => Sys2Proof.Machine.execEpochActivate port s
  | .epochComplete port => Sys2Proof.Machine.execEpochComplete port s
  | .scrubGo who port skein => Sys2Proof.Machine.execScrubGo who port skein s
  | .scrubComplete port => Sys2Proof.Machine.execScrubComplete port s
  | .crewCreate who crew => Sys2Proof.Machine.execCrewCreate who crew s
  | .crewDelete who crew => Sys2Proof.Machine.execCrewDelete who crew s
  | .crwCtlWrite who crew value => Sys2Proof.Machine.execCrwCtlWrite who crew value s
  | .crwMemWrite who crew word value => Sys2Proof.Machine.execCrwMemWrite who crew word value s
  | .coherentRequest slice pipe dt ecc => Sys2Proof.Machine.execCoherentRequest slice pipe dt ecc s
  | .evictionComplete slice set way => Sys2Proof.Machine.execEvictionComplete slice set way s
  | .writeback slice pipe dt => Sys2Proof.Machine.execWriteback slice pipe dt s
  | .snoopAnswer slice pipe dt => Sys2Proof.Machine.execSnoopAnswer slice pipe dt s
  | .completionNotice slice => Sys2Proof.Machine.execCompletionNotice slice s
  | .parkedReplay slice pipe dt ecc => Sys2Proof.Machine.execParkedReplay slice pipe dt ecc s
  | .nackReceived port => Sys2Proof.Machine.execNackReceived port s
  | .backoffExpiry port tag => Sys2Proof.Machine.execBackoffExpiry port tag s
  | .parkNoticeReceived port => Sys2Proof.Machine.execParkNoticeReceived port s
  | .backInvalidateDelivery port => Sys2Proof.Machine.execBackInvalidateDelivery port s
  | .hostSnoopAnswer port which a tie => Sys2Proof.Machine.execHostSnoopAnswer port which a tie s
  | .biconflict port which => Sys2Proof.Machine.execBiconflict port which s
  | .snoopTimeout port which => Sys2Proof.Machine.execSnoopTimeout port which s
  | .dataToRequester port => Sys2Proof.Machine.execDataToRequester port s
  | .fenceCause which other => Sys2Proof.Machine.execFenceCause which other s
  | .fenceNoticeAtPortAgent port => Sys2Proof.Machine.execFenceNoticeAtPortAgent port s
  | .fenceNoticeAtSlice slice => Sys2Proof.Machine.execFenceNoticeAtSlice slice s
  | .purgeSlot slice pipe dt ecc => Sys2Proof.Machine.execPurgeSlot slice pipe dt ecc s
  | .crewFenced crew => Sys2Proof.Machine.execCrewFenced crew s
  | .sliceStopTaken port slice => Sys2Proof.Machine.execSliceStopTaken port slice s
  | .scanSlot slice pipe dt ecc => Sys2Proof.Machine.execScanSlot slice pipe dt ecc s
  | .scanComplete => Sys2Proof.Machine.execScanComplete s
  | .coreMessagePlace input => Sys2Proof.Machine.execCoreMessagePlace input s
  | .stripeTimeout input which tie => Sys2Proof.Machine.execStripeTimeout input which tie s
  | .stripeStart input => Sys2Proof.Machine.execStripeStart input s
  | .planeItemTake plane input obs tie => Sys2Proof.Machine.execPlaneItemTake plane input obs tie s
  | .outputSelect output room => Sys2Proof.Machine.execOutputSelect output room s
  | .outputCellRead output plane obs => Sys2Proof.Machine.execOutputCellRead output plane obs s
  | .reassemblyTimeout output src cls => Sys2Proof.Machine.execReassemblyTimeout output src cls s
  | .tmRelease port dt blocked obs => Sys2Proof.Machine.execTmRelease port dt blocked obs s
  | .redAgeExpiry port queue => Sys2Proof.Machine.execRedAgeExpiry port queue s
  | .queueSample queue delay start => Sys2Proof.Machine.execQueueSample queue delay start s
  | .histogramClearAll who value => Sys2Proof.Machine.execHistogramClearAll who value s
  | .fabricPacketForward port => Sys2Proof.Machine.execFabricPacketForward port s
  | .fabricAdmission port tie => Sys2Proof.Machine.execFabricAdmission port tie s
  | .fabricToAgent port => Sys2Proof.Machine.execFabricToAgent port s
  | .fenceRequestReceived => Sys2Proof.Machine.execFenceRequestReceived s
  | .fenceBypassRelay port => Sys2Proof.Machine.execFenceBypassRelay port s
  | .remoteFenceNotice port => Sys2Proof.Machine.execRemoteFenceNotice port s
  | .linkLossNotice port => Sys2Proof.Machine.execLinkLossNotice port s
  | .flitReceived port lanes packets => Sys2Proof.Machine.execFlitReceived port lanes packets s
  | .flitTransmit port => Sys2Proof.Machine.execFlitTransmit port s
  | .replayStart port => Sys2Proof.Machine.execReplayStart port s
  | .replayTimeout port tie => Sys2Proof.Machine.execReplayTimeout port tie s
  | .creditTimeout port vc tie => Sys2Proof.Machine.execCreditTimeout port vc tie s
  | .ltbReceived lane block skewOk => Sys2Proof.Machine.execLtbReceived lane block skewOk s
  | .initReceived port m grants => Sys2Proof.Machine.execInitReceived port m grants s
  | .trainingTimeout port tie => Sys2Proof.Machine.execTrainingTimeout port tie s
  | .lflDownHoldExpiry port => Sys2Proof.Machine.execLflDownHoldExpiry port s
  | .linkDown port causes => Sys2Proof.Machine.execLinkDown port causes s
  | .steeringOut port => Sys2Proof.Machine.execSteeringOut port s
  | .steeringBack port => Sys2Proof.Machine.execSteeringBack port s
  | .steeringMeas port => Sys2Proof.Machine.execSteeringMeas port s
  | .steeringRetire port => Sys2Proof.Machine.execSteeringRetire port s
  | .steeringRefuse port => Sys2Proof.Machine.execSteeringRefuse port s
  | .heatGo who half lead mask => Sys2Proof.Machine.execHeatGo who half lead mask s
  | .heatAbort who half lead mask => Sys2Proof.Machine.execHeatAbort who half lead mask s
  | .heatStepDone port ok h w => Sys2Proof.Machine.execHeatStepDone port ok h w s
  | .mirrorReady port => Sys2Proof.Machine.execMirrorReady port s
  | .clearRetirement who octet own => Sys2Proof.Machine.execClearRetirement who octet own s
  | .marginScan who lane dwell => Sys2Proof.Machine.execMarginScan who lane dwell s
  | .marginScanDone lane h0 h1 h2 w0 w1 w2 => Sys2Proof.Machine.execMarginScanDone lane h0 h1 h2 w0 w1 w2 s
  | .laneMarginingCommand lane write => Sys2Proof.Machine.execLaneMarginingCommand lane write s
  | .losAssert lane => Sys2Proof.Machine.execLosAssert lane s
  | .losRelease lane => Sys2Proof.Machine.execLosRelease lane s
  | .lolAssert lane => Sys2Proof.Machine.execLolAssert lane s
  | .lockAssert lane => Sys2Proof.Machine.execLockAssert lane s
  | .eqCandidateEval lane area pre post => Sys2Proof.Machine.execEqCandidateEval lane area pre post s
  | .txEqTimeLimit lane => Sys2Proof.Machine.execTxEqTimeLimit lane s
  | .eqPhaseLimit lane => Sys2Proof.Machine.execEqPhaseLimit lane s
  | .checkerLock lane => Sys2Proof.Machine.execCheckerLock lane s
  | .checkerLockLoss lane bits errors => Sys2Proof.Machine.execCheckerLockLoss lane bits errors s
  | .farEndRecenter lane => Sys2Proof.Machine.execFarEndRecenter lane s
  | .l0Reached port rate width mem flit256 lopt flit68 rev lanes => Sys2Proof.Machine.execL0Reached port rate width mem flit256 lopt flit68 rev lanes s
  | .pcieTrainingLimit port tie => Sys2Proof.Machine.execPcieTrainingLimit port tie s
  | .portLinkDown port farReset => Sys2Proof.Machine.execPortLinkDown port farReset s
  | .portDownHoldExpiry port => Sys2Proof.Machine.execPortDownHoldExpiry port s
  | .enumResponse port r tie => Sys2Proof.Machine.execEnumResponse port r tie s
  | .enumTimeout port => Sys2Proof.Machine.execEnumTimeout port s
  | .memoryResponse port resp which tie => Sys2Proof.Machine.execMemoryResponse port resp which tie s
  | .memoryCompletionTimeout port which => Sys2Proof.Machine.execMemoryCompletionTimeout port which s
  | .viralFromHost port => Sys2Proof.Machine.execViralFromHost port s
  | .viralFromMemoryDevice port => Sys2Proof.Machine.execViralFromMemoryDevice port s
  | .pmeTurnOff port => Sys2Proof.Machine.execPmeTurnOff port s
  | .l0pRequest port width => Sys2Proof.Machine.execL0pRequest port width s
  | .vppbSecondaryBusReset hport vppb => Sys2Proof.Machine.execVppbSecondaryBusReset hport vppb s
  | .deviceTlp port posted payload => Sys2Proof.Machine.execDeviceTlp port posted payload s
  | .deviceConfigWrite port addr dvsecControl value => Sys2Proof.Machine.execDeviceConfigWrite port addr dvsecControl value s
  | .setEndpointId eid => Sys2Proof.Machine.execSetEndpointId eid s
  | .identifySwitchDevice tag => Sys2Proof.Machine.execIdentifySwitchDevice tag s
  | .getPhysicalPortState tag port => Sys2Proof.Machine.execGetPhysicalPortState tag port s
  | .physicalPortControl tag port => Sys2Proof.Machine.execPhysicalPortControl tag port s
  | .sendPpbCxlIoConfigRequest tag port addr write returned => Sys2Proof.Machine.execSendPpbCxlIoConfigRequest tag port addr write returned s
  | .getVirtualCxlSwitchInfo tag hport => Sys2Proof.Machine.execGetVirtualCxlSwitchInfo tag hport s
  | .bindVppb tag port hport vppb => Sys2Proof.Machine.execBindVppb tag port hport vppb s
  | .unbindVppb tag port => Sys2Proof.Machine.execUnbindVppb tag port s
  | .getDcdInfo tag => Sys2Proof.Machine.execGetDcdInfo tag s
  | .getHostDcRegionConfiguration tag hport => Sys2Proof.Machine.execGetHostDcRegionConfiguration tag hport s
  | .getDcRegionExtentLists tag hport => Sys2Proof.Machine.execGetDcRegionExtentLists tag hport s
  | .initiateDynamicCapacityAdd tag hport skein w0 w1 index base => Sys2Proof.Machine.execInitiateDynamicCapacityAdd tag hport skein w0 w1 index base s
  | .initiateDynamicCapacityRelease tag hport skein => Sys2Proof.Machine.execInitiateDynamicCapacityRelease tag hport skein s
  | .unsupportedFmCommand tag => Sys2Proof.Machine.execUnsupportedFmCommand tag s
  | .seatStart who seat pc => Sys2Proof.Machine.execSeatStart who seat pc s
  | .seatStop who seat => Sys2Proof.Machine.execSeatStop who seat s
  | .intrapClear => Sys2Proof.Machine.execIntrapClear s
  | .imageLoad who user src dst => Sys2Proof.Machine.execImageLoad who user src dst s
  | .imageLoadDone ue => Sys2Proof.Machine.execImageLoadDone ue s
  | .eventHandoff ce ue => Sys2Proof.Machine.execEventHandoff ce ue s
  | .waitevTimeout seat tie => Sys2Proof.Machine.execWaitevTimeout seat tie s
  | .stopfComplete fid npOpen => Sys2Proof.Machine.execStopfComplete fid npOpen s
  | .add d => Sys2Proof.Machine.execAdd d s
  | .sub d => Sys2Proof.Machine.execSub d s
  | .and_ d => Sys2Proof.Machine.execAnd d s
  | .or_ d => Sys2Proof.Machine.execOr d s
  | .xor_ d => Sys2Proof.Machine.execXor d s
  | .andn d => Sys2Proof.Machine.execAndn d s
  | .sll d => Sys2Proof.Machine.execSll d s
  | .srl d => Sys2Proof.Machine.execSrl d s
  | .sra d => Sys2Proof.Machine.execSra d s
  | .slt d => Sys2Proof.Machine.execSlt d s
  | .sltu d => Sys2Proof.Machine.execSltu d s
  | .mul d => Sys2Proof.Machine.execMul d s
  | .mulh d => Sys2Proof.Machine.execMulh d s
  | .div d => Sys2Proof.Machine.execDiv d s
  | .divu d => Sys2Proof.Machine.execDivu d s
  | .rem d => Sys2Proof.Machine.execRem d s
  | .clz d => Sys2Proof.Machine.execClz d s
  | .ctz d => Sys2Proof.Machine.execCtz d s
  | .popc d => Sys2Proof.Machine.execPopc d s
  | .bswap d => Sys2Proof.Machine.execBswap d s
  | .ext d => Sys2Proof.Machine.execExt d s
  | .exts d => Sys2Proof.Machine.execExts d s
  | .ins d => Sys2Proof.Machine.execIns d s
  | .mfsr d => Sys2Proof.Machine.execMfsr d s
  | .mtsr d => Sys2Proof.Machine.execMtsr d s
  | .addi d => Sys2Proof.Machine.execAddi d s
  | .andi d => Sys2Proof.Machine.execAndi d s
  | .ori d => Sys2Proof.Machine.execOri d s
  | .xori d => Sys2Proof.Machine.execXori d s
  | .slli d => Sys2Proof.Machine.execSlli d s
  | .srli d => Sys2Proof.Machine.execSrli d s
  | .srai d => Sys2Proof.Machine.execSrai d s
  | .slti d => Sys2Proof.Machine.execSlti d s
  | .sltiu d => Sys2Proof.Machine.execSltiu d s
  | .li d => Sys2Proof.Machine.execLi d s
  | .lih d => Sys2Proof.Machine.execLih d s
  | .beq d => Sys2Proof.Machine.execBeq d s
  | .bne d => Sys2Proof.Machine.execBne d s
  | .blt d => Sys2Proof.Machine.execBlt d s
  | .bge d => Sys2Proof.Machine.execBge d s
  | .bltu d => Sys2Proof.Machine.execBltu d s
  | .bgeu d => Sys2Proof.Machine.execBgeu d s
  | .bbs d => Sys2Proof.Machine.execBbs d s
  | .bbc d => Sys2Proof.Machine.execBbc d s
  | .jal d => Sys2Proof.Machine.execJal d s
  | .jalr d => Sys2Proof.Machine.execJalr d s
  | .ld8 d => Sys2Proof.Machine.execLd8 d s
  | .ld16 d => Sys2Proof.Machine.execLd16 d s
  | .ld32 d => Sys2Proof.Machine.execLd32 d s
  | .ld64 d => Sys2Proof.Machine.execLd64 d s
  | .st8 d => Sys2Proof.Machine.execSt8 d s
  | .st16 d => Sys2Proof.Machine.execSt16 d s
  | .st32 d => Sys2Proof.Machine.execSt32 d s
  | .st64 d => Sys2Proof.Machine.execSt64 d s
  | .ldp d => Sys2Proof.Machine.execLdp d s
  | .stp d => Sys2Proof.Machine.execStp d s
  | .cas d => Sys2Proof.Machine.execCas d s
  | .fadd d => Sys2Proof.Machine.execFadd d s
  | .frd32 d => Sys2Proof.Machine.execFrd32 d s
  | .frd64 d => Sys2Proof.Machine.execFrd64 d s
  | .fwr32 d => Sys2Proof.Machine.execFwr32 d s
  | .fwr64 d => Sys2Proof.Machine.execFwr64 d s
  | .stopf d => Sys2Proof.Machine.execStopf d s
  | .startf d tie => Sys2Proof.Machine.execStartf d tie s
  | .epoch d => Sys2Proof.Machine.execEpoch d s
  | .fence d => Sys2Proof.Machine.execFence d s
  | .scanCount d => Sys2Proof.Machine.execScanCount d s
  | .scanFlush d => Sys2Proof.Machine.execScanFlush d s
  | .heatStartCmd d => Sys2Proof.Machine.execHeatStartCmd d s
  | .heatAbortCmd d => Sys2Proof.Machine.execHeatAbortCmd d s
  | .bayEnable d => Sys2Proof.Machine.execBayEnable d s
  | .bayOff d => Sys2Proof.Machine.execBayOff d s
  | .bayClear d clean => Sys2Proof.Machine.execBayClear d clean s
  | .bayIndicate d => Sys2Proof.Machine.execBayIndicate d s
  | .bayAuxOn d => Sys2Proof.Machine.execBayAuxOn d s
  | .dma d => Sys2Proof.Machine.execDma d s
  | .dmaDone engine obs => Sys2Proof.Machine.execDmaDone engine obs s
  | .waitev d => Sys2Proof.Machine.execWaitev d s
  | .postev d => Sys2Proof.Machine.execPostev d s
  | .fsync d => Sys2Proof.Machine.execFsync d s
  | .yield d => Sys2Proof.Machine.execYield d s
  | .halt d => Sys2Proof.Machine.execHalt d s
  | .trap d => Sys2Proof.Machine.execTrap d s
  | .secureRegionLock who => Sys2Proof.Machine.execSecureRegionLock who s
  | .tamperAssert input => Sys2Proof.Machine.execTamperAssert input s
  | .wipeComplete released => Sys2Proof.Machine.execWipeComplete released s
  | .fifoPointerReset fifo => Sys2Proof.Machine.execFifoPointerReset fifo s
  | .drainTrackerRestart port => Sys2Proof.Machine.execDrainTrackerRestart port s
  | .debugAccess addr wide write lost session obs => Sys2Proof.Machine.execDebugAccess addr wide write lost session obs s
  | .nocTimeout index => Sys2Proof.Machine.execNocTimeout index s
  | .bridgeDown bridge => Sys2Proof.Machine.execBridgeDown bridge s
  | .bridgeUp bridge => Sys2Proof.Machine.execBridgeUp bridge s
  | .alertAtRoot => Sys2Proof.Machine.execAlertAtRoot s
  | .alertDelivery node => Sys2Proof.Machine.execAlertDelivery node s
  | .bar0Request port r lost obs => Sys2Proof.Machine.execBar0Request port r lost obs s
  | .bar2Request port r => Sys2Proof.Machine.execBar2Request port r s
  | .initiateFlr port moved => Sys2Proof.Machine.execInitiateFlr port moved s
  | .flrTxCutoff port sent => Sys2Proof.Machine.execFlrTxCutoff port sent s
  | .flrAck who port => Sys2Proof.Machine.execFlrAck who port s
  | .flrTimeout port tie => Sys2Proof.Machine.execFlrTimeout port tie s
  | .busMasterEnableClear port moved => Sys2Proof.Machine.execBusMasterEnableClear port moved s
  | .dmaResume who port => Sys2Proof.Machine.execDmaResume who port s
  | .hsfIrq who port vec => Sys2Proof.Machine.execHsfIrq who port vec s
  | .msixPendingSend port vec => Sys2Proof.Machine.execMsixPendingSend port vec s
  | .d3hotEntry port moved => Sys2Proof.Machine.execD3hotEntry port moved s
  | .dmaCompletionTimeout engine => Sys2Proof.Machine.execDmaCompletionTimeout engine s
  | .sliceCreate who slice => Sys2Proof.Machine.execSliceCreate who slice s
  | .sliceDelete who slice => Sys2Proof.Machine.execSliceDelete who slice s
  | .doorbell slice tag => Sys2Proof.Machine.execDoorbell slice tag s
  | .commandAreaWrite slice off bytes => Sys2Proof.Machine.execCommandAreaWrite slice off bytes s
  | .mailboxDone who slice irq => Sys2Proof.Machine.execMailboxDone who slice irq s
  | .comparatorTrip bay feed => Sys2Proof.Machine.execComparatorTrip bay feed s
  | .comparatorTripTaken bay tie => Sys2Proof.Machine.execComparatorTripTaken bay tie s
  | .faultTimerExpiry bay feedX tie o => Sys2Proof.Machine.execFaultTimerExpiry bay feedX tie o s
  | .overTemperatureTrip bay o tie => Sys2Proof.Machine.execOverTemperatureTrip bay o tie s
  | .fallbackLimitTrip bay o tie => Sys2Proof.Machine.execFallbackLimitTrip bay o tie s
  | .estimateSourceChange bay o => Sys2Proof.Machine.execEstimateSourceChange bay o s
  | .rampTimeout bay tie => Sys2Proof.Machine.execRampTimeout bay tie s
  | .rampHold bay o => Sys2Proof.Machine.execRampHold bay o s
  | .rampResume bay o => Sys2Proof.Machine.execRampResume bay o s
  | .powerGood bay vo timerStarts => Sys2Proof.Machine.execPowerGood bay vo timerStarts s
  | .holdOffExpiry bay => Sys2Proof.Machine.execHoldOffExpiry bay s
  | .rampBegin bay o => Sys2Proof.Machine.execRampBegin bay o s
  | .onRetryReset bay => Sys2Proof.Machine.execOnRetryReset bay s
  | .presenceQualified bay => Sys2Proof.Machine.execPresenceQualified bay s
  | .presenceLost bay tie => Sys2Proof.Machine.execPresenceLost bay tie s
  | .attnPress bay => Sys2Proof.Machine.execAttnPress bay s
  | .attnRelease bay => Sys2Proof.Machine.execAttnRelease bay s
  | .attnLongPress bay => Sys2Proof.Machine.execAttnLongPress bay s
  | .inputLoss bay feed tie => Sys2Proof.Machine.execInputLoss bay feed tie s
  | .inputReturn bay feed => Sys2Proof.Machine.execInputReturn bay feed s
  | .shareError bay => Sys2Proof.Machine.execShareError bay s
  | .shareClear bay => Sys2Proof.Machine.execShareClear bay s
  | .damageFound bay fet => Sys2Proof.Machine.execDamageFound bay fet s
  | .indicatorShift slow fast => Sys2Proof.Machine.execIndicatorShift slow fast s
  | .bayLockout => Sys2Proof.Machine.execBayLockout s
  | .bayLockoutRelease => Sys2Proof.Machine.execBayLockoutRelease s
  | .faultReport slot tie => Sys2Proof.Machine.execFaultReport slot tie s
  | .faultWindowClose slot => Sys2Proof.Machine.execFaultWindowClose slot s
  | .sourceClear who slot => Sys2Proof.Machine.execSourceClear who slot s
  | .safeRequest who => Sys2Proof.Machine.execSafeRequest who s
  | .parityError word => Sys2Proof.Machine.execParityError word s
  | .safeNoticePort island => Sys2Proof.Machine.execSafeNoticePort island s
  | .safeNoticeEngine => Sys2Proof.Machine.execSafeNoticeEngine s
  | .safeNoticeBay => Sys2Proof.Machine.execSafeNoticeBay s
  | .faultQueuePop seat rd => Sys2Proof.Machine.execFaultQueuePop seat rd s
  | .safeQueuePop seat rd => Sys2Proof.Machine.execSafeQueuePop seat rd s
  | .pmcFreeze who freeze => Sys2Proof.Machine.execPmcFreeze who freeze s
  | .pmcFlush who frozen => Sys2Proof.Machine.execPmcFlush who frozen s
  | .pmcClearAll who frozen => Sys2Proof.Machine.execPmcClearAll who frozen s
  | .accumulatorSend island stale obs => Sys2Proof.Machine.execAccumulatorSend island stale obs s
  | .pmcCounterClear who bank k j value => Sys2Proof.Machine.execPmcCounterClear who bank k j value s
  | .tdSnap who slice on => Sys2Proof.Machine.execTdSnap who slice on s
  | .tdClear who slice on => Sys2Proof.Machine.execTdClear who slice on s
  | .dirEidxRead who slice set way => Sys2Proof.Machine.execDirEidxRead who slice set way s
  | .dirEidxDone slice dt ecc => Sys2Proof.Machine.execDirEidxDone slice dt ecc s
  | .refclkLoss ref => Sys2Proof.Machine.execRefclkLoss ref s
  | .refclkGood ref => Sys2Proof.Machine.execRefclkGood ref s
  | .hkclkLoss => Sys2Proof.Machine.execHkclkLoss s
  | .powerOnReset byMonitor => Sys2Proof.Machine.execPowerOnReset byMonitor s
  | .coldReset => Sys2Proof.Machine.execColdReset s
  | .warmReset => Sys2Proof.Machine.execWarmReset s
  | .glbColdResetRequest who => Sys2Proof.Machine.execGlbColdResetRequest who s
  | .glbWarmResetRequest who => Sys2Proof.Machine.execGlbWarmResetRequest who s
  | .fuseLoad cause row keyBad fwBad userBad fusePwr => Sys2Proof.Machine.execFuseLoad cause row keyBad fwBad userBad fusePwr s
  | .pllLockTimeout island => Sys2Proof.Machine.execPllLockTimeout island s
  | .bootSequence sel slotA slotB => Sys2Proof.Machine.execBootSequence sel slotA slotB s
  | .bootHostGo who haddr hlen image => Sys2Proof.Machine.execBootHostGo who haddr hlen image s
  | .keySlotProgram who slot src => Sys2Proof.Machine.execKeySlotProgram who slot src s
  | .keySlotRevoke who slot => Sys2Proof.Machine.execKeySlotRevoke who slot s
  | .fwMinVersionRaise who => Sys2Proof.Machine.execFwMinVersionRaise who s
  | .userMinVersionRaise who => Sys2Proof.Machine.execUserMinVersionRaise who s
  | .fuseBurnDone verified bad => Sys2Proof.Machine.execFuseBurnDone verified bad s
  | .lifecycleTransition who target verified => Sys2Proof.Machine.execLifecycleTransition who target verified s
  | .lifecycleCommitDone => Sys2Proof.Machine.execLifecycleCommitDone s
  | .thermalSample readings => Sys2Proof.Machine.execThermalSample readings s
  | .thermtrip => Sys2Proof.Machine.execThermtrip s
  | .railOutOfTolerance => Sys2Proof.Machine.execRailOutOfTolerance s
  | .hostConfigurationWrite port target word value enable moved => Sys2Proof.Machine.execHostConfigurationWrite port target word value enable moved s
  | .dmaReadCompletion port target c tie obs => Sys2Proof.Machine.execDmaReadCompletion port target c tie obs s
  | .heatSpareLockTimeout port tie => Sys2Proof.Machine.execHeatSpareLockTimeout port tie s
  | .memoryActiveTimeout port => Sys2Proof.Machine.execMemoryActiveTimeout port s
  | .managerMailboxCommand port => Sys2Proof.Machine.execManagerMailboxCommand port s

end Sys2Proof.Machine
end

