-- ==== Sys2Proof/Safety.lean ====
section
/-! DEFINITION. What a safe step is, the canonical forms that every step keeps, and the words in which claims say when a command
takes effect and what it leaves alone. -/

namespace Sys2Proof

/-- The dispatch, the format and the OP code of an instruction of the engine; a command of another kind has none (R337 to R346). -/
def Instr.code : Instr → Option (Machine.Disp × Machine.Format × Nat)
  | .add d => some (d, .a, 0x00)
  | .sub d => some (d, .a, 0x01)
  | .and_ d => some (d, .a, 0x02)
  | .or_ d => some (d, .a, 0x03)
  | .xor_ d => some (d, .a, 0x04)
  | .andn d => some (d, .a, 0x05)
  | .sll d => some (d, .a, 0x06)
  | .srl d => some (d, .a, 0x07)
  | .sra d => some (d, .a, 0x08)
  | .slt d => some (d, .a, 0x09)
  | .sltu d => some (d, .a, 0x0A)
  | .mul d => some (d, .a, 0x10)
  | .mulh d => some (d, .a, 0x11)
  | .div d => some (d, .a, 0x13)
  | .divu d => some (d, .a, 0x14)
  | .rem d => some (d, .a, 0x15)
  | .clz d => some (d, .a, 0x18)
  | .ctz d => some (d, .a, 0x19)
  | .popc d => some (d, .a, 0x1A)
  | .bswap d => some (d, .a, 0x1B)
  | .ext d => some (d, .a, 0x20)
  | .exts d => some (d, .a, 0x21)
  | .ins d => some (d, .a, 0x22)
  | .mfsr d => some (d, .a, 0x30)
  | .mtsr d => some (d, .a, 0x31)
  | .addi d => some (d, .i, 0x00)
  | .andi d => some (d, .i, 0x02)
  | .ori d => some (d, .i, 0x03)
  | .xori d => some (d, .i, 0x04)
  | .slli d => some (d, .i, 0x06)
  | .srli d => some (d, .i, 0x07)
  | .srai d => some (d, .i, 0x08)
  | .slti d => some (d, .i, 0x09)
  | .sltiu d => some (d, .i, 0x0A)
  | .li d => some (d, .i, 0x40)
  | .lih d => some (d, .i, 0x41)
  | .beq d => some (d, .b, 0x00)
  | .bne d => some (d, .b, 0x01)
  | .blt d => some (d, .b, 0x02)
  | .bge d => some (d, .b, 0x03)
  | .bltu d => some (d, .b, 0x04)
  | .bgeu d => some (d, .b, 0x05)
  | .bbs d => some (d, .b, 0x06)
  | .bbc d => some (d, .b, 0x07)
  | .jal d => some (d, .b, 0x10)
  | .jalr d => some (d, .b, 0x11)
  | .ld8 d => some (d, .m, 0x00)
  | .ld16 d => some (d, .m, 0x01)
  | .ld32 d => some (d, .m, 0x02)
  | .ld64 d => some (d, .m, 0x03)
  | .st8 d => some (d, .m, 0x08)
  | .st16 d => some (d, .m, 0x09)
  | .st32 d => some (d, .m, 0x0A)
  | .st64 d => some (d, .m, 0x0B)
  | .ldp d => some (d, .m, 0x0C)
  | .stp d => some (d, .m, 0x0D)
  | .cas d => some (d, .m, 0x10)
  | .fadd d => some (d, .m, 0x11)
  | .frd32 d => some (d, .m, 0x20)
  | .frd64 d => some (d, .m, 0x21)
  | .fwr32 d => some (d, .m, 0x28)
  | .fwr64 d => some (d, .m, 0x29)
  | .stopf d => some (d, .f, 0x00)
  | .startf d _ => some (d, .f, 0x01)
  | .epoch d => some (d, .f, 0x02)
  | .fence d => some (d, .f, 0x03)
  | .scanCount d | .scanFlush d => some (d, .f, 0x04)
  | .heatStartCmd d | .heatAbortCmd d => some (d, .f, 0x05)
  | .bayEnable d | .bayOff d | .bayClear d _ | .bayIndicate d | .bayAuxOn d => some (d, .f, 0x06)
  | .dma d => some (d, .f, 0x07)
  | .waitev d => some (d, .f, 0x10)
  | .postev d => some (d, .f, 0x11)
  | .fsync d => some (d, .f, 0x18)
  | .yield d => some (d, .f, 0x19)
  | .halt d => some (d, .f, 0x1A)
  | .trap d => some (d, .f, 0x1B)
  | _ => none

end Sys2Proof

namespace Sys2Proof.Machine

/-- The canonical form of the scratchpad's bytes: addresses strictly rising, inside the scratchpad, no byte 0 listed. -/
def Memory.wf (m : List Host.Cell) : Bool := tabWf id (fun _ => 0) m && m.all (fun c => decide (c.1 < memSize))

/-- A step that neither faults nor is refused. -/
def Safe (o : Host.Outcome State Fault Refusal) : Prop := ∃ t, o = .next t

/-! Instructions of the engine -/

/-- The word of an instruction stands in the instruction store at its seat's pc (R331, R333). -/
def State.holds (s : State) (i : Instr) : Bool := i.code.any (fun (d, f, op) => s.fetched d == d.word f op)

/-- The cox takes the instruction's seat at its cycle, the fetch passes its checks and finds the instruction's word, and the fields
are in form: what is left to the instruction is its own effect (R305, R310, R331, R333, R584). -/
def State.Issues (s : State) (i : Instr) (d : Disp) (fieldsOk : Bool) : Prop :=
  s.dispatches d = true ∧ s.fetchOk d.seat.val (s.seat d.seat.val).pc = true ∧ d.fetchUe = false ∧ s.holds i = true ∧ fieldsOk = true

/-- From s to t nothing but the engine and the accumulated event counts has changed; of the engine nothing but its seats, its
cycle and the cox's pointer; and of every seat other than n nothing but its YIELD (R305, R498). -/
def SeatStep (s t : State) (n : Nat) : Prop :=
  ({ t with eng := s.eng, pmc := s.pmc } = s ∧ { t.pmc with acc := s.pmc.acc } = s.pmc) ∧
  { t.eng with seats := s.eng.seats, cycle := s.eng.cycle, ptr := s.eng.ptr } = s.eng ∧
  ∀ m, m ≠ n → { t.seat m with yielded := (s.seat m).yielded } = s.seat m

/-- From s to t seat n has changed in nothing but its general registers, its program counter, its issue cost and its YIELD. -/
def RegsOnly (s t : State) (n : Nat) : Prop :=
  { t.seat n with g := (s.seat n).g, pc := (s.seat n).pc, busy := (s.seat n).busy, yielded := (s.seat n).yielded } = s.seat n

/-- From s to t register rd of seat n has taken the value v, unless rd is g0, and every other register of the seat is as
before (R304, R333). -/
def WritesReg (s t : State) (n rd : Nat) (v : Word) : Prop :=
  ∀ r, t.greg n r = if r = rd ∧ rd ≠ 0 then v else s.greg n r

/-- The effect of an instruction that writes v to its RD and goes on at the next word, and has no other effect than its dispatch. -/
def Yields (s t : State) (d : Disp) (v : Word) : Prop :=
  WritesReg s t d.seat.val d.rd.val v ∧ (t.seat d.seat.val).pc = (s.seat d.seat.val).pc + 8 ∧
  SeatStep s t d.seat.val ∧ RegsOnly s t d.seat.val

/-- The engine cycle of the dispatch (R305). -/
def State.issueCycle (s : State) (d : Disp) : Nat := (s.eng.cycle + d.dt) % 2 ^ 64

/-- The instruction has trapped with a cause and had no effect of its own: the cause and the instruction's address are recorded, and
memory, the seat's registers and its posted writes are as before (R314). -/
def Traps (s t : State) (d : Disp) (cause : Nat) : Prop :=
  t.fld ICF_SEAT_STS.CAUSE d.seat.val = cause ∧ t.fld ICF_SEAT_STS.EPC d.seat.val = (s.seat d.seat.val).pc % 2 ^ 19 ∧
    t.mem = s.mem ∧ (∀ r, t.greg d.seat.val r = s.greg d.seat.val r) ∧
    (t.seat d.seat.val).posted = (s.seat d.seat.val).posted

/-- An access of n bytes of the scratchpad by the instruction's seat goes through: no wipe holds it, it stays inside the scratchpad,
its address is a multiple of align, and the seat's protection unit permits it (R341, R366, R379). -/
def State.SpadOpen (s : State) (d : Disp) (n align : Nat) (acc : Acc) : Prop :=
  s.wipeBlocks (s.address d) n = false ∧ s.address d + n ≤ memSize ∧ s.address d % align = 0 ∧
    s.refusal (.seat d.seat.val) false acc (s.address d) n = none

/-- An access of the management space by the instruction's seat goes through (R344, R366, R379). -/
def State.MgmtOpen (s : State) (d : Disp) (n : Nat) (acc : Acc) : Prop :=
  (windowOffset (s.address d)).any (fun o => s.wipeBlocks o n) = false ∧ s.address d < 0x4000000 ∧ s.address d % n = 0 ∧
    s.refusal (.seat d.seat.val) true acc (s.address d) n = none

/-- No earlier FWR of a seat is open, and it waits in nothing that such a write holds back (R345). -/
def State.Settled (s : State) (n : Nat) : Prop :=
  (s.seat n).posted = [] ∧ ∀ w, (s.seat n).wait = some w → w.begun = true

/-- The state in which a waiting instruction's operation begins: dispatched, its seat at the next word and Waiting in it (R306). -/
def State.begins (s : State) (d : Disp) (o : FOp) : State :=
  ((((s.atDispatch d).cost d.seat.val 1).advancePc d.seat.val).setSeatState d.seat.val seatWaiting).modSeat d.seat.val
    (fun q => { q with wait := some { op := o, rd := d.rd.val, begun := true } })

/-! The slices -/

/-- The state in which a lookup slot of a pipeline is taken, dt slice cycles after the slice's last command (R77, R104). -/
def State.takesSlot (s : State) (d pipe dt : Nat) : State :=
  (s.modSlice d (fun q => q.cycle dt)).modSlice d (fun q => q.useSlot pipe)

/-- Whether a pipeline's lookup slot is to be had, dt slice cycles after the slice's last command (R104). -/
def State.slotFree (s : State) (d pipe dt : Nat) : Prop := ((s.slice d).cycle dt).slotOpen pipe = true

/-- The input arbiter of a slice's pipeline, dt slice cycles after the slice's last command, finds its lookup slot open, no parked
request of the pipeline ready, and takes a coherent request of a port, leaving the others; no fence of its crew holds at the slice
(R104, R105, R116). -/
def State.Serves (s : State) (d pipe dt : Nat) (m : Msg) (rest : List Msg) (x : Intent) : Prop :=
  s.slotFree d pipe dt ∧ (s.slice d).retry.any (fun r => r.ready && r.pipe == pipe) = false ∧
    arbiter (s.slice d).reqIn pipe ((s.slice d).cycle dt).ptr = some (m, rest) ∧ m.body = .cohReq x ∧
    s.fencedAt d m.crew = false ∧ m.port < 256

/-- From s to t an endpoint has handed one message to the core (R93). -/
def Sends (s t : State) (e : Nat) (m : Msg) : Prop := (t.coreIn e).ready = (s.coreIn e).ready ++ [m]

/-- From s to t no entry of a slice has changed but that of one way (R78). -/
def EntriesBut (s t : State) (d set way : Nat) : Prop :=
  ∀ a b, 16 * a + b ≠ 16 * set + way → t.dirEntry d a b = s.dirEntry d a b

/-! Writes of registers -/

/-- A write of a register takes effect: its requester may write it, the instance is not one that reads 0 and ignores writes, and no
earlier write of its seat holds it back (R345, R570, R574). -/
def State.Writes (s : State) (who : Requester) (k : RKey) : Prop :=
  s.mayWrite who k = true ∧ s.blank k = false ∧ ∀ n, who = .seat n → s.Settled n

/-- From s to t no register but those that a test selects has changed. -/
def RegsBut (s t : State) (p : RKey → Prop) : Prop := ∀ k, ¬p k → t.rd k = s.rd k

end Sys2Proof.Machine
end

