-- ==== Sys2Proof/Certificates/Slice0/Obligations.lean ====
section
/-! DEFINITION. The statements for the provers, family by family of the commands. A statement of several parts is the conjunction of
the parts before it. -/

section

open Sys2Proof Sys2Proof.Machine

/-! The queue and the step -/

/-- A step with a command at the front of the queue is the command's effect on the state with the rest of the queue. -/
def Sys2Proof.Claims.StepRunsFrontCommand : Prop :=
  ∀ (c : Instr) (s : State), step { s with pending := c :: s.pending } = exec c s

/-- With nothing pending a step leaves the state as it is: the model's choice, DESIGN CHOICE of log entry 1. -/
def Sys2Proof.Claims.IdleStepChangesNothing : Prop :=
  ∀ s : State, s.pending = [] → step s = .next s

/-- The parts StepRunsFrontCommand and IdleStepChangesNothing together. -/
def Obligations.StepRunsFrontCommand : Prop :=
  Sys2Proof.Claims.StepRunsFrontCommand ∧ Sys2Proof.Claims.IdleStepChangesNothing

/-- No command stops the block: each one answers a next state in every state, whatever its operands. -/
def Sys2Proof.Claims.EveryCommandIsSafe : Prop :=
  ∀ (c : Instr) (s : State), Safe (exec c s)

/-- A command changes no command that waits behind it: the queue is first in, first out, and only step takes from it. -/
def Sys2Proof.Claims.CommandsLeaveTheQueue : Prop :=
  ∀ (c : Instr) (s t : State), exec c s = .next t → t.pending = s.pending

/-- The parts EveryCommandIsSafe and CommandsLeaveTheQueue together. -/
def Obligations.CommandsAreSafeAndLeaveTheQueue : Prop :=
  Sys2Proof.Claims.EveryCommandIsSafe ∧ Sys2Proof.Claims.CommandsLeaveTheQueue

/-- The scratchpad keeps its canonical form over every step: addresses strictly rising and inside the 2 MiB of R360, no byte 0
listed. -/
def Obligations.StepKeepsScratchpadForm : Prop :=
  ∀ s t : State, Memory.wf s.mem = true → step s = .next t → Memory.wf t.mem = true

/-- The scratchpad has that form at reset. -/
def Obligations.ResetScratchpadForm : Prop := Memory.wf State.reset.mem = true

/-! The Icfeade engine: arithmetic and branches (spec/13 R335 to R340) -/

/-- A-format instructions of three registers: RD takes the result, the seat goes on at the next word, and nothing else changes but
what every dispatch changes. -/
def Sys2Proof.Claims.ThreeRegisterResults : Prop :=
  ∀ x ∈ ([(Instr.add, fun x y => x + y), (Instr.sub, fun x y => x - y), (Instr.and_, fun x y => x &&& y),
      (Instr.or_, fun x y => x ||| y), (Instr.xor_, fun x y => x ^^^ y), (Instr.andn, fun x y => x &&& ~~~y),
      (Instr.sll, fun x y => x <<< (y.toNat % 64)), (Instr.srl, fun x y => x >>> (y.toNat % 64)),
      (Instr.sra, fun x y => x.sshiftRight (y.toNat % 64)),
      (Instr.slt, fun x y => if x.toInt < y.toInt then 1 else 0), (Instr.sltu, fun x y => if x.toNat < y.toNat then 1 else 0),
      (Instr.mul, fun x y => x * y), (Instr.mulh, fun x y => BitVec.ofInt 64 (x.toInt * y.toInt / 2 ^ 64))] :
      List ((Disp → Instr) × (Word → Word → Word))),
    ∀ (d : Disp) (s : State), s.Issues (x.1 d) d d.threeReg →
      ∃ t, exec (x.1 d) s = .next t ∧ Yields s t d (x.2 (s.src1 d) (s.src2 d))

/-- A-format instructions of one register, and of a field of a register (R337). -/
def Sys2Proof.Claims.OneOperandResults : Prop :=
  ∀ x ∈ ([(Instr.clz, Disp.twoReg, fun s d => clz64 (s.src1 d)), (Instr.ctz, Disp.twoReg, fun s d => ctz64 (s.src1 d)),
      (Instr.popc, Disp.twoReg, fun s d => popc64 (s.src1 d)), (Instr.bswap, Disp.twoReg, fun s d => bswap64 (s.src1 d)),
      (Instr.ext, Disp.fieldOk, fun s d => wordOf ((s.src1 d).toNat / 2 ^ d.pos % 2 ^ d.len)),
      (Instr.exts, Disp.fieldOk, fun s d => BitVec.ofInt 64 (signedOf d.len ((s.src1 d).toNat / 2 ^ d.pos % 2 ^ d.len))),
      (Instr.ins, Disp.fieldOk, fun s d => putBits (s.srcD d) (d.pos + d.len - 1) d.pos (s.src1 d).toNat)] :
      List ((Disp → Instr) × (Disp → Bool) × (State → Disp → Word))),
    ∀ (d : Disp) (s : State), s.Issues (x.1 d) d (x.2.1 d) →
      ∃ t, exec (x.1 d) s = .next t ∧ Yields s t d (x.2.2 s d) ∧
        (t.seat d.seat.val).busy = s.issueCycle d + 1

/-- The I-format instructions: RD takes the result, at a cost of 1 cycle, and nothing else changes but what every dispatch changes. A
field that is not used and is not 0, and a shift immediate above 63, traps with cause 0x1 (R339). -/
def Obligations.ImmediateInstructions : Prop :=
  ∀ x ∈ ([(Instr.addi, Disp.regImm, fun s d => s.src1 d + d.imm.signExtend 64),
      (Instr.andi, Disp.regImm, fun s d => s.src1 d &&& d.imm.zeroExtend 64),
      (Instr.ori, Disp.regImm, fun s d => s.src1 d ||| d.imm.zeroExtend 64),
      (Instr.xori, Disp.regImm, fun s d => s.src1 d ^^^ d.imm.zeroExtend 64),
      (Instr.slli, Disp.regShift, fun s d => s.src1 d <<< d.imm.toNat),
      (Instr.srli, Disp.regShift, fun s d => s.src1 d >>> d.imm.toNat),
      (Instr.srai, Disp.regShift, fun s d => (s.src1 d).sshiftRight d.imm.toNat),
      (Instr.slti, Disp.regImm, fun s d => if (s.src1 d).toInt < d.imm.toInt then 1 else 0),
      (Instr.sltiu, Disp.regImm, fun s d => if (s.src1 d).toNat < d.imm.toNat then 1 else 0),
      (Instr.li, Disp.immOnly, fun _ d => d.imm.zeroExtend 64),
      (Instr.lih, Disp.immOnly, fun s d => wordOf (2 ^ 32 * d.imm.toNat + (s.srcD d).toNat % 2 ^ 32))] :
      List ((Disp → Instr) × (Disp → Bool) × (State → Disp → Word))),
    ∀ (d : Disp) (s : State),
      (s.Issues (x.1 d) d (x.2.1 d) →
        ∃ t, exec (x.1 d) s = .next t ∧ Yields s t d (x.2.2 s d) ∧ (t.seat d.seat.val).busy = s.issueCycle d + 1) ∧
      (s.Issues (x.1 d) d (!x.2.1 d) → ∃ t, exec (x.1 d) s = .next t ∧ Traps s t d 1)

/-- The bit counts mean what the spec says: CLZ and CTZ are 64 for 0 and else name the highest and the lowest bit set, and BSWAP
reverses the order of the 8 bytes. -/
def Sys2Proof.Claims.BitCountsMeanWhatTheyName : Prop :=
  clz64 0 = 64 ∧ ctz64 0 = 64 ∧
  (∀ w : Word, w ≠ 0 → (clz64 w).toNat < 64 ∧ bitOf w (63 - (clz64 w).toNat) = true ∧
    ∀ k, 63 - (clz64 w).toNat < k → k < 64 → bitOf w k = false) ∧
  (∀ w : Word, w ≠ 0 → (ctz64 w).toNat < 64 ∧ bitOf w (ctz64 w).toNat = true ∧
    ∀ k, k < (ctz64 w).toNat → bitOf w k = false) ∧
  (∀ (w : Word) (k : Nat), k < 8 → byteOf (bswap64 w) k = byteOf w (7 - k))

/-- The parts ThreeRegisterResults, OneOperandResults and BitCountsMeanWhatTheyName together. -/
def Obligations.RegisterArithmetic : Prop :=
  Sys2Proof.Claims.ThreeRegisterResults ∧ Sys2Proof.Claims.OneOperandResults ∧ Sys2Proof.Claims.BitCountsMeanWhatTheyName

/-- MFSR: index 0 reads the address of the MFSR itself, 1 STATUS, 2 the seat's number, 3 the engine's cycle (R335, R336). -/
def Sys2Proof.Claims.SpecialRegisterReads : Prop :=
  ∀ (d : Disp) (s : State), s.Issues (.mfsr d) d (d.immOnly && decide (d.imm.toNat < 4)) →
    ∃ t, exec (.mfsr d) s = .next t ∧ Yields s t d
      (if d.imm.toNat = 0 then wordOf (s.seat d.seat.val).pc
       else if d.imm.toNat = 1 then s.status d.seat.val
       else if d.imm.toNat = 2 then wordOf d.seat.val
       else wordOf ((s.eng.cycle + d.dt) % 2 ^ 64))

/-- MTSR clears DZ and UE where the source's bits 1 and 0 are set, and writes no general register (R335, R336). -/
def Sys2Proof.Claims.StatusWriteClears : Prop :=
  ∀ (d : Disp) (s : State), s.Issues (.mtsr d) d (d.rd == 0 && d.regImm && d.imm == 1) →
    ∃ t, exec (.mtsr d) s = .next t ∧ SeatStep s t d.seat.val ∧
      (t.seat d.seat.val).dz = ((s.seat d.seat.val).dz && !bitOf (s.src1 d) 1) ∧
      (t.seat d.seat.val).ue = ((s.seat d.seat.val).ue && !bitOf (s.src1 d) 0) ∧
      (t.seat d.seat.val).pc = (s.seat d.seat.val).pc + 8 ∧ (∀ r, t.greg d.seat.val r = s.greg d.seat.val r) ∧
      (t.seat d.seat.val).nm = (s.seat d.seat.val).nm ∧ (t.seat d.seat.val).posted = (s.seat d.seat.val).posted

/-- MFSR of an index above 3, and MTSR of an index other than 1, traps with cause 0x1 (R335). -/
def Sys2Proof.Claims.SpecialRegisterTraps : Prop :=
  (∀ (d : Disp) (s : State), s.Issues (.mfsr d) d (decide (4 ≤ d.imm.toNat)) → ∃ t, exec (.mfsr d) s = .next t ∧ Traps s t d 1) ∧
  (∀ (d : Disp) (s : State), s.Issues (.mtsr d) d (d.imm != 1) → ∃ t, exec (.mtsr d) s = .next t ∧ Traps s t d 1)

/-- The parts SpecialRegisterReads, StatusWriteClears and SpecialRegisterTraps together. -/
def Obligations.SpecialRegisters : Prop :=
  Sys2Proof.Claims.SpecialRegisterReads ∧ Sys2Proof.Claims.StatusWriteClears ∧ Sys2Proof.Claims.SpecialRegisterTraps

/-- Divisions: the quotients round toward zero, the remainder has the dividend's sign, and a zero divisor gives all ones, or the
dividend for REM, and sets STATUS.DZ, which else keeps its value (R338). -/
def Sys2Proof.Claims.DivisionResults : Prop :=
  ∀ x ∈ ([(Instr.div, fun x y => if y = 0 then BitVec.allOnes 64 else BitVec.ofInt 64 (x.toInt.tdiv y.toInt)),
      (Instr.divu, fun x y => if y = 0 then BitVec.allOnes 64 else wordOf (x.toNat / y.toNat)),
      (Instr.rem, fun x y => if y = 0 then x else BitVec.ofInt 64 (x.toInt.tmod y.toInt))] :
      List ((Disp → Instr) × (Word → Word → Word))),
    ∀ (d : Disp) (s : State), s.Issues (x.1 d) d d.threeReg →
      ∃ t, exec (x.1 d) s = .next t ∧ WritesReg s t d.seat.val d.rd.val (x.2 (s.src1 d) (s.src2 d)) ∧
        (t.seat d.seat.val).dz = ((s.seat d.seat.val).dz || decide (s.src2 d = 0)) ∧
        (t.seat d.seat.val).pc = (s.seat d.seat.val).pc + 8 ∧ SeatStep s t d.seat.val ∧
        (t.seat d.seat.val).ue = (s.seat d.seat.val).ue ∧ (t.seat d.seat.val).nm = (s.seat d.seat.val).nm

/-- The smallest number divided by -1 is itself, with the remainder 0; sums, differences and products wrap modulo 2^64, and no
flag of the seat changes (R338). -/
def Sys2Proof.Claims.ArithmeticWraps : Prop :=
  (∀ x ∈ ([(Instr.div, 0x8000000000000000), (Instr.rem, 0)] : List ((Disp → Instr) × Word)), ∀ (d : Disp) (s : State),
    s.Issues (x.1 d) d d.threeReg → s.src1 d = 0x8000000000000000 → s.src2 d = BitVec.allOnes 64 →
    ∃ t, exec (x.1 d) s = .next t ∧ WritesReg s t d.seat.val d.rd.val x.2) ∧
  (∀ x ∈ ([(Instr.add, Disp.threeReg, fun s d => (s.src1 d).toNat + (s.src2 d).toNat),
      (Instr.sub, Disp.threeReg, fun s d => (s.src1 d).toNat + (2 ^ 64 - (s.src2 d).toNat)),
      (Instr.mul, Disp.threeReg, fun s d => (s.src1 d).toNat * (s.src2 d).toNat),
      (Instr.addi, Disp.regImm, fun s d => (s.src1 d).toNat + (d.imm.signExtend 64).toNat)] :
      List ((Disp → Instr) × (Disp → Bool) × (State → Disp → Nat))),
    ∀ (d : Disp) (s : State), s.Issues (x.1 d) d (x.2.1 d) →
      ∃ t v, exec (x.1 d) s = .next t ∧ WritesReg s t d.seat.val d.rd.val v ∧ v.toNat = x.2.2 s d % 2 ^ 64 ∧
        RegsOnly s t d.seat.val)

/-- The parts DivisionResults and ArithmeticWraps together. -/
def Obligations.ArithmeticNeverTraps : Prop :=
  Sys2Proof.Claims.DivisionResults ∧ Sys2Proof.Claims.ArithmeticWraps

/-- Conditional branches: the seat goes on at pc plus the sign-extended immediate where the condition holds, else at the next
word, and no register changes (R340). -/
def Sys2Proof.Claims.ConditionalBranches : Prop :=
  ∀ x ∈ ([(Instr.beq, fun d => d.rd == 0 && d.rs3 == 0, fun s d => s.src1 d == s.src2 d),
      (Instr.bne, fun d => d.rd == 0 && d.rs3 == 0, fun s d => s.src1 d != s.src2 d),
      (Instr.blt, fun d => d.rd == 0 && d.rs3 == 0, fun s d => decide ((s.src1 d).toInt < (s.src2 d).toInt)),
      (Instr.bge, fun d => d.rd == 0 && d.rs3 == 0, fun s d => decide ((s.src2 d).toInt ≤ (s.src1 d).toInt)),
      (Instr.bltu, fun d => d.rd == 0 && d.rs3 == 0, fun s d => decide ((s.src1 d).toNat < (s.src2 d).toNat)),
      (Instr.bgeu, fun d => d.rd == 0 && d.rs3 == 0, fun s d => decide ((s.src2 d).toNat ≤ (s.src1 d).toNat)),
      (Instr.bbs, fun d => d.rd == 0 && d.rs3.val % 16 == 0, fun s d => bitOf (s.src1 d) (2 * d.rs2.val + d.rs3.val / 16)),
      (Instr.bbc, fun d => d.rd == 0 && d.rs3.val % 16 == 0, fun s d => !bitOf (s.src1 d) (2 * d.rs2.val + d.rs3.val / 16))] :
      List ((Disp → Instr) × (Disp → Bool) × (State → Disp → Bool))),
    ∀ (d : Disp) (s : State), s.Issues (x.1 d) d (x.2.1 d && d.imm.toNat % 8 == 0) →
      ∃ t, exec (x.1 d) s = .next t ∧
        (t.seat d.seat.val).pc = (if x.2.2 s d then (wordOf (s.seat d.seat.val).pc + d.imm.signExtend 64).toNat
          else (s.seat d.seat.val).pc + 8) ∧
        (t.seat d.seat.val).busy = s.issueCycle d + (if x.2.2 s d then 2 else 1) ∧
        (∀ r, t.greg d.seat.val r = s.greg d.seat.val r) ∧ SeatStep s t d.seat.val ∧ RegsOnly s t d.seat.val

/-- JAL and JALR: RD takes the address of the next word, and the seat goes on at the target (R340). -/
def Sys2Proof.Claims.JumpsLink : Prop :=
  (∀ (d : Disp) (s : State), s.Issues (.jal d) d (d.immOnly && d.imm.toNat % 8 == 0) →
    ∃ t, exec (.jal d) s = .next t ∧
      WritesReg s t d.seat.val d.rd.val (wordOf ((s.seat d.seat.val).pc + 8)) ∧
      (t.seat d.seat.val).pc = (wordOf (s.seat d.seat.val).pc + d.imm.signExtend 64).toNat ∧ (t.seat d.seat.val).busy = s.issueCycle d + 2 ∧
      SeatStep s t d.seat.val ∧ RegsOnly s t d.seat.val) ∧
  (∀ (d : Disp) (s : State), s.Issues (.jalr d) d d.regImm → (s.src1 d + d.imm.signExtend 64).toNat % 8 = 0 →
    ∃ t, exec (.jalr d) s = .next t ∧
      WritesReg s t d.seat.val d.rd.val (wordOf ((s.seat d.seat.val).pc + 8)) ∧
      (t.seat d.seat.val).pc = (s.src1 d + d.imm.signExtend 64).toNat ∧ (t.seat d.seat.val).busy = s.issueCycle d + 2 ∧
      SeatStep s t d.seat.val ∧ RegsOnly s t d.seat.val)

/-- Where a branch traps: an IMM whose low three bits are not 0 with cause 0x1, taken or not, except that JALR is judged by its
target alone; and where the seat stands outside its region of the store, with cause 0x3 and its address in EPC (R340). -/
def Sys2Proof.Claims.BranchesTrap : Prop :=
  ∀ x ∈ [Instr.beq, Instr.bne, Instr.blt, Instr.bge, Instr.bltu, Instr.bgeu, Instr.bbs, Instr.bbc, Instr.jal],
    ∀ (d : Disp) (s : State),
      (s.Issues (x d) d (d.imm.toNat % 8 != 0) → ∃ t, exec (x d) s = .next t ∧ Traps s t d 1) ∧
      (s.Issues (.jalr d) d (d.regImm && (s.src1 d + d.imm.signExtend 64).toNat % 8 != 0) →
        ∃ t, exec (.jalr d) s = .next t ∧ Traps s t d 1) ∧
      ∀ y ∈ [x d, .jalr d], s.dispatches d = true → s.fetchOk d.seat.val (s.seat d.seat.val).pc = false →
        ∃ t, exec y s = .next t ∧ Traps s t d 3

/-- The parts ConditionalBranches, JumpsLink and BranchesTrap together. -/
def Obligations.BranchesAndJumps : Prop :=
  Sys2Proof.Claims.ConditionalBranches ∧ Sys2Proof.Claims.JumpsLink ∧ Sys2Proof.Claims.BranchesTrap

/-! The engine and the scratchpad (spec/13 R341 to R343, spec/14 R360 to R364) -/

/-- Loads: RD takes the n bytes at rs1 + IMM, little-endian and zero-extended; no byte of the scratchpad changes. A corrected word
counts; of an uncorrectable word the other bytes are as stored, its own are free, and STATUS.UE is set (R341, R342, R364). -/
def Sys2Proof.Claims.LoadsReadTheScratchpad : Prop :=
  ∀ x ∈ ([(Instr.ld8, 1), (Instr.ld16, 2), (Instr.ld32, 4), (Instr.ld64, 8)] : List ((Disp → Instr) × Nat)),
    ∀ (d : Disp) (s : State), s.Issues (x.1 d) d (d.rs2 == 0 && d.rs3 == 0) → s.SpadOpen d x.2 1 .read →
      ∃ t v, exec (x.1 d) s = .next t ∧ WritesReg s t d.seat.val d.rd.val v ∧ t.mem = s.mem ∧
        (t.seat d.seat.val).pc = (s.seat d.seat.val).pc + 8 ∧
        (d.spad = .ok → v = wordOf (s.load (s.address d) x.2) ∧ SeatStep s t d.seat.val ∧ RegsOnly s t d.seat.val) ∧
        (∀ w, d.spad = .ce w → v = wordOf (s.load (s.address d) x.2) ∧
          t.fld SPD_ECC.CE = min 0xFFFF (s.fld SPD_ECC.CE + 1)) ∧
        (∀ w, d.spad = .ue w → obsWord (s.address d) w < s.address d + x.2 →
          (t.seat d.seat.val).ue = true ∧ t.flt.reports = s.flt.reports ++ [slotSpad] ∧
          ∀ i, i < x.2 → (s.address d + i) / 4 * 4 ≠ obsWord (s.address d) w → byteOf v i = s.byte (s.address d + i))

/-- LDP: an even register pair takes 16 aligned bytes, the lower register the lower 8 (R342). -/
def Sys2Proof.Claims.LoadPairReadsSixteenBytes : Prop :=
  ∀ (d : Disp) (s : State), s.Issues (.ldp d) d (d.rs2 == 0 && d.rs3 == 0 && d.rd.val % 2 == 0 && d.rd != 0) →
    s.SpadOpen d 16 16 .read →
      ∃ t, exec (.ldp d) s = .next t ∧ t.mem = s.mem ∧
        ((∀ w, d.spad ≠ .ue w) → t.greg d.seat.val d.rd.val = wordOf (s.load (s.address d) 8) ∧
          t.greg d.seat.val (d.rd.val + 1) = wordOf (s.load (s.address d + 8) 8)) ∧
        (∀ w, d.spad = .ue w → obsWord (s.address d) w < s.address d + 16 → (t.seat d.seat.val).ue = true) ∧
        (∀ r, r ≠ d.rd.val → r ≠ d.rd.val + 1 → t.greg d.seat.val r = s.greg d.seat.val r) ∧
        (t.seat d.seat.val).pc = (s.seat d.seat.val).pc + 8 ∧
        (d.spad = .ok → SeatStep s t d.seat.val ∧ RegsOnly s t d.seat.val)

/-- The parts LoadsReadTheScratchpad and LoadPairReadsSixteenBytes together. -/
def Obligations.LoadsReadTheScratchpad : Prop :=
  Sys2Proof.Claims.LoadsReadTheScratchpad ∧ Sys2Proof.Claims.LoadPairReadsSixteenBytes

/-- Stores: the low n bytes of RS2, little-endian, at rs1 + IMM; no register changes, and no byte of the scratchpad outside those
n. A merge that meets an uncorrectable word drops the write (R342, R363, R364). -/
def Sys2Proof.Claims.StoresWriteTheirBytesAlone : Prop :=
  ∀ x ∈ ([(Instr.st8, 1), (Instr.st16, 2), (Instr.st32, 4), (Instr.st64, 8)] : List ((Disp → Instr) × Nat)),
    ∀ (d : Disp) (s : State), s.Issues (x.1 d) d (d.rd == 0 && d.rs3 == 0) → s.SpadOpen d x.2 1 .write →
      ∃ t, exec (x.1 d) s = .next t ∧ (t.seat d.seat.val).pc = (s.seat d.seat.val).pc + 8 ∧
        (∀ b, b < s.address d ∨ s.address d + x.2 ≤ b → t.byte b = s.byte b) ∧
        ((∀ w, d.spad = .ue w → mergesWord (s.address d) x.2 w = false) →
          ∀ i, i < x.2 → t.byte (s.address d + i) = byteOf (s.src2 d) i) ∧
        (d.spad = .ok → SeatStep s { t with mem := s.mem } d.seat.val ∧ RegsOnly s t d.seat.val) ∧
        (∀ r, t.greg d.seat.val r = s.greg d.seat.val r) ∧
        (∀ w, d.spad = .ue w → mergesWord (s.address d) x.2 w = true →
          t.mem = s.mem ∧ t.flt.reports = s.flt.reports ++ [slotSpad])

/-- STP: the registers of an even pair, the lower one at the lower address, into 16 aligned bytes (R342). -/
def Sys2Proof.Claims.StorePairWritesSixteenBytes : Prop :=
  ∀ (d : Disp) (s : State), s.Issues (.stp d) d (d.rd == 0 && d.rs3 == 0 && d.rs2.val % 2 == 0) → s.SpadOpen d 16 16 .write →
    ∃ t, exec (.stp d) s = .next t ∧ (t.seat d.seat.val).pc = (s.seat d.seat.val).pc + 8 ∧
      (∀ b, b < s.address d ∨ s.address d + 16 ≤ b → t.byte b = s.byte b) ∧
      ((∀ w, d.spad = .ue w → mergesWord (s.address d) 16 w = false) → ∀ i, i < 8 →
        t.byte (s.address d + i) = byteOf (s.greg d.seat.val d.rs2.val) i ∧
        t.byte (s.address d + 8 + i) = byteOf (s.greg d.seat.val (d.rs2.val + 1)) i) ∧
      (d.spad = .ok → SeatStep s { t with mem := s.mem } d.seat.val ∧ RegsOnly s t d.seat.val) ∧
      (∀ r, t.greg d.seat.val r = s.greg d.seat.val r)

/-- The parts StoresWriteTheirBytesAlone and StorePairWritesSixteenBytes together. -/
def Obligations.StoresWriteTheirBytesAlone : Prop :=
  Sys2Proof.Claims.StoresWriteTheirBytesAlone ∧ Sys2Proof.Claims.StorePairWritesSixteenBytes

/-- CAS and FADD: RD takes the old word; CAS stores RS2 where the word equals RS3 and else nothing, FADD stores the sum with RS2
(R343). -/
def Obligations.AtomicsReplaceOneWord : Prop :=
  ∀ x ∈ ([(Instr.cas, fun _ => true, fun s d old => if old = s.src3 d then s.src2 d else old),
      (Instr.fadd, fun d => d.rs3 == 0, fun s d old => old + s.src2 d)] :
      List ((Disp → Instr) × (Disp → Bool) × (State → Disp → Word → Word))),
    ∀ (d : Disp) (s : State), s.Issues (x.1 d) d (x.2.1 d) → s.SpadOpen d 8 8 .atomic →
      ∃ t, exec (x.1 d) s = .next t ∧
        ((∀ w, d.spad ≠ .ue w) → WritesReg s t d.seat.val d.rd.val (wordOf (s.load (s.address d) 8)) ∧
          wordOf (t.load (s.address d) 8) = x.2.2 s d (wordOf (s.load (s.address d) 8))) ∧
        (∀ w, d.spad = .ue w → obsWord (s.address d) w < s.address d + 8 → t.mem = s.mem ∧ (t.seat d.seat.val).ue = true) ∧
        (∀ b, b < s.address d ∨ s.address d + 8 ≤ b → t.byte b = s.byte b) ∧
        (∀ r, r ≠ d.rd.val → t.greg d.seat.val r = s.greg d.seat.val r) ∧
        (t.seat d.seat.val).pc = (s.seat d.seat.val).pc + 8 ∧
        (d.spad = .ok → SeatStep s { t with mem := s.mem } d.seat.val ∧ RegsOnly s t d.seat.val)

/-- A byte written is the byte read there, and every other byte of the scratchpad reads as before. -/
def Obligations.ScratchpadReadAfterWrite : Prop :=
  ∀ (s : State) (a b : Nat) (v : Byte), a < memSize →
    (s.setByte a v).byte b = if b = a then v else s.byte b

/-- Protection: an access that a unit refuses traps with cause 0x5, is counted and captured in that unit's registers, and touches
neither the scratchpad nor a general register (R314, R378, R381). -/
def Obligations.RefusedAccessTraps : Prop :=
  ∀ x ∈ ([(Instr.ld8, 1, Acc.read, fun d => d.rs2 == 0 && d.rs3 == 0), (Instr.ld64, 8, Acc.read, fun d => d.rs2 == 0 && d.rs3 == 0),
      (Instr.st8, 1, Acc.write, fun d => d.rd == 0 && d.rs3 == 0), (Instr.st64, 8, Acc.write, fun d => d.rd == 0 && d.rs3 == 0)] :
      List ((Disp → Instr) × Nat × Acc × (Disp → Bool))),
    ∀ (d : Disp) (s : State) (r : Nat × Nat), s.Issues (x.1 d) d (x.2.2.2 d) → s.wipeBlocks (s.address d) x.2.1 = false →
      s.address d + x.2.1 ≤ memSize → s.refusal (.seat d.seat.val) false x.2.2.1 (s.address d) x.2.1 = some r →
      ∃ t, exec (x.1 d) s = .next t ∧ t.mem = s.mem ∧ (∀ q, t.greg d.seat.val q = s.greg d.seat.val q) ∧
        t.fld ICF_SEAT_STS.CAUSE d.seat.val = 5 ∧
        t.fld ICF_SEAT_STS.EPC d.seat.val = (s.seat d.seat.val).pc % 2 ^ 19 ∧
        t.fld MPU_VCNT.CNT (s.unitOf (.seat d.seat.val)) =
          min 0xFFFFFFFF (s.fld MPU_VCNT.CNT (s.unitOf (.seat d.seat.val)) + 1)

/-! The engine and the device (spec/13 R344 to R358) -/

/-- A dispatch that cannot fetch traps whatever its command: outside its region of the store with cause 0x3, on an uncorrectable word with
cause 0x4, and on a word whose FMT or OP is reserved, as an all-zero word's is, with cause 0x1; each command of an instruction has
one code, and its word decodes to that code (R314, R331, R332). A command whose word is not the one that the store holds has no
effect: the model's choice, log entry 12. -/
def Sys2Proof.Claims.FetchesTrap : Prop :=
  illegal 0 = true ∧
  ∀ (i : Instr) (d : Disp) (f : Format) (op : Nat), i.code = some (d, f, op) →
    readFormat (bitsOf (d.word f op) 63 60) = some f ∧ bitsOf (d.word f op) 59 52 = op ∧ op ∈ f.ops ∧
    ∀ s : State, s.dispatches d = true →
      (s.fetchOk d.seat.val (s.seat d.seat.val).pc = false → ∃ t, exec i s = .next t ∧ Traps s t d 3) ∧
      (s.fetchOk d.seat.val (s.seat d.seat.val).pc = true → d.fetchUe = true → ∃ t, exec i s = .next t ∧ Traps s t d 4) ∧
      (s.fetchOk d.seat.val (s.seat d.seat.val).pc = true → d.fetchUe = false → illegal (s.fetched d) = true →
        ∃ t, exec i s = .next t ∧ Traps s t d 1) ∧
      (s.fetchOk d.seat.val (s.seat d.seat.val).pc = true → d.fetchUe = false → illegal (s.fetched d) = false →
        s.holds i = false → exec i s = .next s)

/-- TRAP traps with cause 0x7 (R314, R358): a seat other than 0 becomes Trapped and event 0x01 is posted; seat 0, if it has not
trapped before, goes on at the handler with INTRAP set. EPC holds the address of the instruction either way. -/
def Sys2Proof.Claims.TrapInstructionTraps : Prop :=
  ∀ (d : Disp) (s : State), s.Issues (.trap d) d d.bare →
    ∃ t, exec (.trap d) s = .next t ∧ t.fld ICF_SEAT_STS.CAUSE d.seat.val = 7 ∧
      t.fld ICF_SEAT_STS.EPC d.seat.val = (s.seat d.seat.val).pc % 2 ^ 19 ∧
      t.mem = s.mem ∧ (∀ r, t.greg d.seat.val r = s.greg d.seat.val r) ∧
      (d.seat.val ≠ 0 → t.seatState d.seat.val = seatTrapped ∧ (t.seat d.seat.val).pc = (s.seat d.seat.val).pc) ∧
      (d.seat.val = 0 → s.flag ICF_SEAT_STS.INTRAP 0 = false →
        t.seatState 0 = s.seatState 0 ∧ t.flag ICF_SEAT_STS.INTRAP 0 = true ∧ (t.seat 0).pc = (s.rd ⟨.ICF_TVEC, 0, 0⟩).toNat) ∧
      (d.seat.val = 0 → s.flag ICF_SEAT_STS.INTRAP 0 = true →
        t.seatState 0 = seatHalted ∧ t.flt.reports = s.flt.reports ++ [slotEngine])

/-- HALT, YIELD and FSYNC with nothing posted: the seat goes on at the next word, Halted, passed over next, or Ready with 0 in RD
(R345, R358). -/
def Sys2Proof.Claims.ControlInstructions : Prop :=
  (∀ (d : Disp) (s : State), s.Issues (.halt d) d d.bare →
    ∃ t, exec (.halt d) s = .next t ∧ t.seatState d.seat.val = seatHalted ∧
      (t.seat d.seat.val).pc = (s.seat d.seat.val).pc + 8 ∧ (∀ r, t.greg d.seat.val r = s.greg d.seat.val r) ∧
      t.mem = s.mem ∧ RegsBut s t (fun k => k.r = .ICF_SEAT_STS ∧ k.i = d.seat.val)) ∧
  (∀ (d : Disp) (s : State), s.Issues (.yield d) d d.bare →
    ∃ t, exec (.yield d) s = .next t ∧ (t.seat d.seat.val).yielded = true ∧
      (t.seat d.seat.val).pc = (s.seat d.seat.val).pc + 8 ∧ (∀ r, t.greg d.seat.val r = s.greg d.seat.val r) ∧
      SeatStep s t d.seat.val ∧ RegsOnly s t d.seat.val) ∧
  (∀ (d : Disp) (s : State), s.Issues (.fsync d) d d.bare → s.Settled d.seat.val →
    ∃ t, exec (.fsync d) s = .next t ∧ t.seatState d.seat.val = seatReady ∧
      (t.seat d.seat.val).pc = (s.seat d.seat.val).pc + 8 ∧ (∀ r, t.greg d.seat.val r = s.greg d.seat.val r) ∧
      t.mem = s.mem ∧ RegsBut s t (fun k => k.r = .ICF_SEAT_STS ∧ k.i = d.seat.val))

/-- The parts FetchesTrap, TrapInstructionTraps and ControlInstructions together. -/
def Obligations.TrapsAndControlInstructions : Prop :=
  Sys2Proof.Claims.FetchesTrap ∧ Sys2Proof.Claims.TrapInstructionTraps ∧ Sys2Proof.Claims.ControlInstructions

/-- An instruction that waits, while an earlier FWR of its seat is open: the seat goes on at the next word, Waiting in that
operation, which has not begun; no general register changes and nothing else of the device does (R306, R322, R345). -/
def Obligations.OpenWritesHoldWaitingInstructions : Prop :=
  ∀ x ∈ ([(Instr.fsync, Disp.bare, false, fun _ _ => some FOp.fsync),
      (Instr.stopf, Disp.twoReg, false, fun s d => some (.stopf (s.src1 d).toNat)),
      (fun d => Instr.startf d false, Disp.twoReg, false, fun s d => some (.startf (s.src1 d).toNat false)),
      (Instr.epoch, Disp.twoReg, false, fun s d => if (s.src1 d).toNat < 256 then some (.epoch (s.src1 d).toNat) else none),
      (Instr.fence, Disp.twoReg, true, fun s d => if (s.src1 d).toNat < 256 then some (.fence (s.src1 d).toNat) else none)] :
      List ((Disp → Instr) × (Disp → Bool) × Bool × (State → Disp → Option FOp))),
    ∀ (d : Disp) (s : State) (o : FOp), s.Issues (x.1 d) d (x.2.1 d) → (x.2.2.1 = true → s.priv d.seat.val = true) →
      x.2.2.2 s d = some o → (s.seat d.seat.val).posted ≠ [] →
      ∃ t, exec (x.1 d) s = .next t ∧ t.seatState d.seat.val = seatWaiting ∧
        (t.seat d.seat.val).wait = some { op := o, rd := d.rd.val, begun := false } ∧
        (t.seat d.seat.val).pc = (s.seat d.seat.val).pc + 8 ∧ (∀ r, t.greg d.seat.val r = s.greg d.seat.val r) ∧
        t.mem = s.mem ∧ t.fns = s.fns ∧ t.ports = s.ports ∧ t.out = s.out ∧
        RegsBut s t (fun k => k.r = .ICF_SEAT_STS ∧ k.i = d.seat.val)

/-- FRD: the seat's register takes what its read of the management space returns, in the state in which the read reaches its target,
which has the device's memory, functions and, but for the seat's own status, the NoC's counts and a near miss, registers as before;
where no route leads there, all ones at once; and where the request is lost or its response late, the seat waits (R344, R393). A
read that its network interface holds has not begun (R394). -/
def Sys2Proof.Claims.FabricReads : Prop :=
  ∀ x ∈ ([(Instr.frd32, false), (Instr.frd64, true)] : List ((Disp → Instr) × Bool)),
    ∀ (d : Disp) (s : State), s.Issues (x.1 d) d (d.rs2 == 0 && d.rs3 == 0) → s.MgmtOpen d (if x.2 then 8 else 4) .read →
      s.Settled d.seat.val →
      let way := s.nocWay (Requester.seat d.seat.val).node (targetOf (s.address d))
      let held := s.nocHeld (Requester.seat d.seat.val).node (targetOf (s.address d))
      ∃ t u, exec (x.1 d) s = .next t ∧ (t.seat d.seat.val).pc = (s.seat d.seat.val).pc + 8 ∧
        u.mem = s.mem ∧ u.fns = s.fns ∧ RegsBut s u (fun k => (k.r = .ICF_SEAT_STS ∧ k.i = d.seat.val) ∨
          k.r = .NOC_ST_REQ ∨ k.r = .NOC_ST_BYTES ∨ k.r = .NOC_ST_HIST ∨ k.r = .NOC_ERR_LOG ∨ k.r = .NOC_ERR_CNT ∨ k.r = .PMC_NM) ∧
        (held = true → t.seatState d.seat.val = seatWaiting ∧
          (t.seat d.seat.val).wait = some { op := .frd (s.address d) x.2 d.spad d.noc, rd := d.rd.val, begun := false }) ∧
        (held = false → way = .ok → d.noc ≠ .late → t.seatState d.seat.val = seatReady ∧
          t.greg d.seat.val d.rd.val = if d.rd.val = 0 then 0 else
            (u.readSpace (.seat d.seat.val) (s.address d) x.2 d.spad).1) ∧
        (held = false → way = .noEntry → t.seatState d.seat.val = seatReady ∧
          t.greg d.seat.val d.rd.val = if d.rd.val = 0 then 0 else (if x.2 then BitVec.allOnes 64 else 0xFFFFFFFF)) ∧
        (held = false → (way ≠ .ok ∧ way ≠ .noEntry ∨ way = .ok ∧ d.noc = .late) → t.seatState d.seat.val = seatWaiting)

/-- FWR: the write joins the seat's posted writes, and the seat goes on at the next word at once; no register of the device is
written yet but the NoC's counts and a near miss. One that its network interface holds joins them too, uninjected; one without a
route has completed (R345, R393, R394). -/
def Sys2Proof.Claims.FabricWritesArePosted : Prop :=
  ∀ x ∈ ([(Instr.fwr32, false), (Instr.fwr64, true)] : List ((Disp → Instr) × Bool)),
    ∀ (d : Disp) (s : State), s.Issues (x.1 d) d (d.rd == 0 && d.rs3 == 0) → s.MgmtOpen d (if x.2 then 8 else 4) .write →
      let way := s.nocWay (Requester.seat d.seat.val).node (targetOf (s.address d))
      let held := s.nocHeld (Requester.seat d.seat.val).node (targetOf (s.address d))
      let w : PostedWrite := { addr := s.address d, wide := x.2, val := if x.2 then s.src2 d else wordOf ((s.src2 d).toNat % 2 ^ 32), resp := d.noc }
      ∃ t, exec (x.1 d) s = .next t ∧ (t.seat d.seat.val).pc = (s.seat d.seat.val).pc + 8 ∧
        (held = true → (t.seat d.seat.val).posted = (s.seat d.seat.val).posted ++ [{ w with held := true }]) ∧
        (held = false → (way = .ok ∨ way = .late) → (t.seat d.seat.val).posted = (s.seat d.seat.val).posted ++ [w]) ∧
        (held = false → way = .noEntry → (t.seat d.seat.val).posted = (s.seat d.seat.val).posted) ∧
        (held = false → way ≠ .ok → way ≠ .noEntry → way ≠ .late →
          (t.seat d.seat.val).posted = (s.seat d.seat.val).posted ++ [{ w with lost := true }]) ∧
        (∀ r, t.greg d.seat.val r = s.greg d.seat.val r) ∧ t.mem = s.mem ∧
        RegsBut s t (fun k => k.r = .NOC_ST_REQ ∨ k.r = .NOC_ST_BYTES ∨ k.r = .NOC_ST_HIST ∨ k.r = .NOC_ERR_LOG ∨
          k.r = .NOC_ERR_CNT ∨ k.r = .PMC_NM)

/-- The parts FabricReads and FabricWritesArePosted together. -/
def Obligations.FabricAccesses : Prop :=
  Sys2Proof.Claims.FabricReads ∧ Sys2Proof.Claims.FabricWritesArePosted

/-- The state in which a waiting instruction's operation begins is as before its dispatch, but for the engine: the seat is Waiting,
at the next word, with its registers as they were (R306, R334). -/
def Sys2Proof.Claims.OperationsBeginWaiting : Prop :=
  ∀ (d : Disp) (s : State) (o : FOp),
    (s.begins d o).seatState d.seat.val = seatWaiting ∧
    ((s.begins d o).seat d.seat.val).wait = some { op := o, rd := d.rd.val, begun := true } ∧
    ((s.begins d o).seat d.seat.val).pc = (s.seat d.seat.val).pc + 8 ∧
    (∀ r, (s.begins d o).greg d.seat.val r = s.greg d.seat.val r) ∧
    (∀ m, m ≠ d.seat.val → { (s.begins d o).seat m with yielded := (s.seat m).yielded } = s.seat m) ∧
    { s.begins d o with regs := s.regs, eng := s.eng, pmc := s.pmc } = s ∧
    (s.begins d o).eng.evq = s.eng.evq ∧ (s.begins d o).eng.scans = s.eng.scans ∧ (s.begins d o).eng.dmas = s.eng.dmas ∧
    RegsBut s (s.begins d o) (fun k => k.r = .ICF_SEAT_STS ∧ k.i = d.seat.val)

/-- The end of a wait: the seat is Ready, its destination register holds the result, and nothing else has changed (R306). -/
def Sys2Proof.Claims.WaitsEndWithTheirResult : Prop :=
  ∀ (s : State) (n rd : Nat) (v : Word), n < 16 → rd < 32 → s.seatState n = seatWaiting →
    (s.finishWait n rd v).seatState n = seatReady ∧ ((s.finishWait n rd v).seat n).wait = none ∧
    WritesReg s (s.finishWait n rd v) n rd v ∧ ((s.finishWait n rd v).seat n).pc = (s.seat n).pc ∧
    (∀ m, m ≠ n → (s.finishWait n rd v).seat m = s.seat m) ∧
    { s.finishWait n rd v with regs := s.regs, eng := s.eng } = s ∧
    RegsBut s (s.finishWait n rd v) (fun k => k.r = .ICF_SEAT_STS ∧ k.i = n)

/-- The parts OperationsBeginWaiting and WaitsEndWithTheirResult together. -/
def Obligations.WaitingInstructions : Prop :=
  Sys2Proof.Claims.OperationsBeginWaiting ∧ Sys2Proof.Claims.WaitsEndWithTheirResult

/-- STOPF: a Running function in play becomes Stopping, owned by the seat, which waits for the drain; a Stopped one that nobody else
owns becomes the seat's at once, with 0 (R320, R321). -/
def Sys2Proof.Claims.StopfTakesTheFunction : Prop :=
  ∀ (d : Disp) (s : State), s.Issues (.stopf d) d d.twoReg → s.Settled d.seat.val → fidOk (s.src1 d).toNat = true →
    let v := (s.src1 d).toNat
    let u := s.begins d (.stopf v)
    u.mayAct d.seat.val (fidKind v) (fidIndex v) = true → u.outOfPlay v = none →
    ((s.fn v).run = .running → ∃ t, exec (.stopf d) s = .next t ∧ t.seatState d.seat.val = seatWaiting ∧
      t.fn v = { s.fn v with run := .stopping, owner := some d.seat.val, waiters := [(d.seat.val, d.rd.val)] }) ∧
    ((s.fn v).run = .stopped → ((s.fn v).owner = none ∨ (s.fn v).owner = some d.seat.val) →
      exec (.stopf d) s = .next ((u.setFn v { s.fn v with owner := some d.seat.val }).finishWait d.seat.val d.rd.val 0))

/-- Whether the checks of STARTF on a function pass, by its kind (R320, and the chapters of the kinds). -/
def Sys2Proof.Claims.startPasses (u : State) (v : Nat) : Prop :=
  match fidKind v with
  | 0 => u.portCheck (fidIndex v) = 0 ∧ u.fld PRT_CTL.ROLE (fidIndex v) ≠ 0
  | 1 => u.crewCheck (fidIndex v) = 0
  | 2 => ∃ w, (u.each (u.movedSkeins (fidIndex v)) (fun s n => s.mark n none)).placeAll (u.movedSkeins (fidIndex v)) = .ok w
  | 3 => u.credSum (fidIndex v) ≤ 2048
  | 4 => u.sliceCheck (fidIndex v) = 0
  | 5 => u.bayCheck (fidIndex v) = 0
  | _ => u.committed (fidIndex v) ≤ u.rawRate (fidIndex v)

/-- STARTF of a Stopped function whose checks pass: the seat takes 0 and the state that the start of that kind makes, in which a slice
of a tenant, a bay or a shaper group runs (R320, R321). -/
def Sys2Proof.Claims.StartfRunsTheFunction : Prop :=
  ∀ (d : Disp) (s : State), s.Issues (.startf d false) d d.twoReg → s.Settled d.seat.val → fidOk (s.src1 d).toNat = true →
    let v := (s.src1 d).toNat
    let u := s.begins d (.startf v false)
    u.mayAct d.seat.val (fidKind v) (fidIndex v) = true → (s.fn v).run = .stopped →
    (s.priv d.seat.val = true ∨ (s.fn v).owner = none ∨ (s.fn v).owner = some d.seat.val) →
    u.outOfPlay v = none → u.safe = false → Sys2Proof.Claims.startPasses u v →
    exec (.startf d false) s = .next ((u.startChecked v).2.finishWait d.seat.val d.rd.val 0) ∧
      (4 ≤ fidKind v → ((u.startChecked v).2.fn v).run = .running ∧ ((u.startChecked v).2.fn v).owner = none)

/-- The parts StopfTakesTheFunction and StartfRunsTheFunction together. -/
def Obligations.FunctionInstructions : Prop :=
  Sys2Proof.Claims.StopfTakesTheFunction ∧ Sys2Proof.Claims.StartfRunsTheFunction

/-- EPOCH of a host or fabric port: it joins the port's EPOCHs, and the seat waits (R54, R57, R347). -/
def Sys2Proof.Claims.EpochJoinsThePort : Prop :=
  ∀ (d : Disp) (s : State) (p : Nat), s.Issues (.epoch d) d d.twoReg → s.Settled d.seat.val → (s.src1 d).toNat = p → p < 256 →
    (s.begins d (.epoch p)).mayAct d.seat.val 0 p = true → (s.role p = 1 ∨ s.role p = 4) →
    exec (.epoch d) s = .next ((s.begins d (.epoch p)).modPort p (fun q => { q with
      epochs := q.epochs ++ [{ seat := some d.seat.val, rd := d.rd.val }] }))

/-- FENCE from a privileged seat: an existing crew's fence with cause 6 is taken, and the result is 0 where it was Active or Stopped
and 1 where it was Fencing or Fenced already (R348). -/
def Sys2Proof.Claims.FenceInstructionFences : Prop :=
  ∀ (d : Disp) (s : State) (c : Nat), s.Issues (.fence d) d d.twoReg → s.Settled d.seat.val → s.priv d.seat.val = true →
    (s.src1 d).toNat = c → c < 256 → s.crewState c ≠ 0 →
    exec (.fence d) s = .next (((s.begins d (.fence c)).takeFence { cause := 6, unit := slotEngine, crews := .one c }).finishWait d.seat.val d.rd.val
      (if s.crewState c = 1 ∨ s.crewState c = 2 then 0 else 1))

/-- SCAN in both forms: it joins the SCANs in dispatch order, and the seat waits; the first of them begins its walk unless it is
refused (R349, R350). -/
def Sys2Proof.Claims.ScansQueueInDispatchOrder : Prop :=
  ∀ x ∈ ([(Instr.scanCount, false), (Instr.scanFlush, true)] : List ((Disp → Instr) × Bool)),
    ∀ (d : Disp) (s : State) (c : Nat) (k : Option Nat), s.Issues (x.1 d) d (d.rs3 == 0) → s.Settled d.seat.val →
      d.imm.toNat = bit x.2 + (if k.isSome then 2 else 0) → (s.src1 d).toNat = c → c < 256 →
      (k = none ∨ (k = some (s.src2 d).toNat ∧ (s.src2 d).toNat < 65536)) →
      let u := s.begins d (.scan x.2 c k)
      let q : Scan := { seat := some d.seat.val, rd := d.rd.val, flush := x.2, crew := c, skein := k }
      u.mayAct d.seat.val 1 c = true → (s.eng.scans = [] → u.scanRefused q = none) →
      exec (x.1 d) s = .next { u with eng := { u.eng with scans := s.eng.scans ++ [q] } }

/-- The parts EpochJoinsThePort, FenceInstructionFences and ScansQueueInDispatchOrder together. -/
def Obligations.EpochFenceAndScanInstructions : Prop :=
  Sys2Proof.Claims.EpochJoinsThePort ∧ Sys2Proof.Claims.FenceInstructionFences ∧ Sys2Proof.Claims.ScansQueueInDispatchOrder

/-- HEAT in both forms on a started fabric port whose link is Active: a start takes the lane mask and begins the heat where none
runs, an abort ends the one that runs; both give 0 (R351). -/
def Sys2Proof.Claims.HeatInstructionsStartAndAbort : Prop :=
  ∀ (d : Disp) (s : State) (p : Nat), s.Settled d.seat.val → (s.src1 d).toNat = p → p < 256 →
    (∀ u : State, u = s.begins d (.heat p ((s.src2 d).toNat % 256) false) → s.Issues (.heatStartCmd d) d (d.rs3 == 0 && d.imm == 0) →
      u.mayAct d.seat.val 0 p = true → u.started p = true → u.fld PRT_CTL.ROLE p = 4 → u.lfl (halfOf p) = lflActive →
      (s.half (halfOf p)).heat = none →
      exec (.heatStartCmd d) s = .next (((u.setFld LFL_HT_CTL.LMASK ((s.src2 d).toNat % 256) (halfOf p)).startHeat
        (halfOf p)).finishWait d.seat.val d.rd.val 0)) ∧
    (∀ u : State, u = s.begins d (.heat p ((s.src2 d).toNat % 256) true) → s.Issues (.heatAbortCmd d) d (d.rs3 == 0 && d.imm == 1) →
      u.mayAct d.seat.val 0 p = true → u.started p = true → u.fld PRT_CTL.ROLE p = 4 → u.lfl (halfOf p) = lflActive →
      (s.half (halfOf p)).heat.isSome = true →
      exec (.heatAbortCmd d) s = .next ((u.abortHeat (halfOf p)).finishWait d.seat.val d.rd.val 0))

/-- BAYCMD of a running bay outside the safe state and the lockout, in the states of R455 in which each command takes effect, with the
result 0. clean is the outcome of the trial of CLEAR. -/
def Sys2Proof.Claims.BayCommandsTakeEffect : Prop :=
  ∀ x ∈ ([(fun d _ => Instr.bayEnable d, 1, fun st => st = bayPresent ∨ st = bayIsOff, fun u k _ => u.bayEnable k),
      (fun d _ => Instr.bayOff d, 2, fun st => st ≠ bayEmpty ∧ st ≠ bayDamaged, fun u k _ => u.bayOffCmd k),
      (fun d c => Instr.bayClear d c, 3, fun st => st = bayTripped, fun u k _ => u.setFld BAY_STS.RETRY 0 k),
      (fun d _ => Instr.bayClear d true, 3, fun st => st = bayDamaged, fun u k _ =>
        (((u.setFld BAY_STS.DMGA 0 k).setFld BAY_STS.DMGB 0 k).setFld BAY_STS.DMGX 0 k).bayTurnOff k 5),
      (fun d _ => Instr.bayIndicate d, 4, fun _ => True, fun u k a =>
        (u.setFld BAY_IND.ATTN (a % 4) k).setFld BAY_IND.LOCATE (a / 4 % 4) k),
      (fun d _ => Instr.bayAuxOn d, 5, fun st => st = bayPresent ∨ st = bayIsOff, fun u k _ => u.setGate k 2 true)] :
      List ((Disp → Bool → Instr) × Nat × (Nat → Prop) × (State → Nat → Nat → State))),
    ∀ (d : Disp) (s : State) (k : Nat) (clean : Bool), s.Issues (x.1 d clean) d (d.rs3 == 0 && d.imm.toNat == x.2.1) → s.Settled d.seat.val →
      s.priv d.seat.val = true → (s.src1 d).toNat = k → k < 32 →
      ∀ o, o = FOp.bay k x.2.1 (s.src2 d).toNat (x.2.1 == 3 && (match x.1 d clean with
        | .bayClear _ c => c
        | _ => false)) →
      s.bayAlive = true → (s.fn (fidBay k)).run = .running → s.baySafe = false → x.2.2.1 (s.bayState k) →
      (x.2.1 = 4 → (s.src2 d).toNat < 16) →
      exec (x.1 d clean) s = .next ((x.2.2.2 (s.begins d o) k (s.src2 d).toNat).finishWait d.seat.val d.rd.val 0)

/-- The parts HeatInstructionsStartAndAbort and BayCommandsTakeEffect together. -/
def Obligations.HeatAndBayInstructions : Prop :=
  Sys2Proof.Claims.HeatInstructionsStartAndAbort ∧ Sys2Proof.Claims.BayCommandsTakeEffect

/-- WAITEV waits with its mask and its timeout; POSTEV puts a record of its code and priority, the seat and the operand into the event
queue where there is room (R315, R317, R318, R372). -/
def Sys2Proof.Claims.EventInstructions : Prop :=
  (∀ (d : Disp) (s : State), s.Issues (.waitev d) d (d.regImm && decide (d.imm.toNat < 256)) → s.Settled d.seat.val →
    s.effMask d.seat.val d.imm.toNat ≠ 0 →
    exec (.waitev d) s = .next (s.begins d (.waitev d.imm.toNat (s.src1 d).toNat))) ∧
  (∀ (d : Disp) (s : State), s.Issues (.postev d) d (d.regImm && decide (d.imm.toNat < 2 ^ 11) && decide (0x70 ≤ d.imm.toNat % 256) &&
      decide (d.imm.toNat % 256 ≤ 0x7F)) →
    fifoRoom 1024 s.eng.evq.length (d.imm.toNat / 256) = true →
    ∃ t, exec (.postev d) s = .next t ∧
      t.eng.evq = s.eng.evq ++ [eventWord (d.imm.toNat % 256) (d.imm.toNat / 256) d.seat.val (s.src1 d).toNat] ∧
      t.fld ICF_EVQ_CNT.COUNT = s.eng.evq.length + 1 ∧
      WritesReg s t d.seat.val d.rd.val 0 ∧ (t.seat d.seat.val).pc = (s.seat d.seat.val).pc + 8 ∧ t.mem = s.mem ∧
      RegsBut s t (fun k => k.r = .ICF_EVQ_CNT ∨ k.r = .ICF_EVQ_STS))

/-- EVENT_HANDOFF gives the record to the seat that the engine picks, which leaves the queue; WAITEV_TIMEOUT of a seat to which nothing
is handed gives the record of code 0 (R317). -/
def Sys2Proof.Claims.EventsEndWaits : Prop :=
  (∀ (s : State) (w : Word) (n : Nat), s.handOff = some (w, n) →
    ∃ t, exec (.eventHandoff false false) s = .next t ∧ t.eng.evq = s.eng.evq.erase w ∧ t.seatState n = seatReady ∧
      (t.seat n).wait = none ∧ (∀ r, ((s.seat n).wait.map (·.rd)) = some r → t.greg n r = if r = 0 then 0 else w) ∧
      t.mem = s.mem) ∧
  (∀ (s : State) (n : Fin 16) (mask timeout rd : Nat) (b : Bool), s.seatState n.val = seatWaiting →
    (s.seat n.val).wait = some ⟨.waitev mask timeout, rd, b⟩ → timeout ≠ 0 → s.handOff = none →
    ∃ t, exec (.waitevTimeout n false) s = .next t ∧ t.seatState n.val = seatReady ∧ (t.seat n.val).wait = none ∧
      WritesReg s t n.val rd 0 ∧ t.eng.evq = s.eng.evq ∧ t.mem = s.mem)

/-- The parts EventInstructions and EventsEndWaits together. -/
def Obligations.EventInstructionsAndEvents : Prop :=
  Sys2Proof.Claims.EventInstructions ∧ Sys2Proof.Claims.EventsEndWaits

/-! Writes of registers and of the scratchpad's window (spec/00 R6, R11, spec/24 R569 to R574) -/

/-- REGISTER_WRITE of a whole register that its access codes alone govern: the bits with code RW take the value, the others keep theirs,
and no other register, no byte of the scratchpad and nothing in the queue of what leaves the device changes (R6). -/
def Sys2Proof.Claims.RegisterWritesFollowAccessCodes : Prop :=
  ∀ (who : Requester) (k : RKey) (a : Fin 67108864) (v : Word) (s : State),
    k.r ∈ [Reg.CORE_SW_RT, .CORE_RACL, .MPU_RGN, .PRT_EXT, .PRT_EXT_SLC, .PRT_REXT_W1, .PRT_SCRB_PAT, .TM_MTR_BKT, .TM_QBKT,
      .NOC_CTL, .LFL_HT_THR, .BAY_LIM, .ICF_TVEC] →
    k.i < k.r.row.count → k.j < k.r.row.inner → a.val = k.addr → s.Writes who k →
    ∃ t, exec (.registerWrite who a k.r.row.wide v {}) s = .next t ∧
      t.rd k = ((s.rd k &&& ~~~(wordOf k.r.row.rw)) ||| (v &&& wordOf k.r.row.rw)) ∧
      RegsBut s t (fun x => x = k) ∧ t.mem = s.mem ∧ t.out = s.out ∧ t.fns = s.fns ∧ t.ports = s.ports ∧ t.eng = s.eng

/-- REGISTER_WRITE in the scratchpad's window at 0x400000 writes the scratchpad: its 4 or 8 bytes and no other, and no register
(R360). -/
def Obligations.WindowWritesReachTheScratchpad : Prop :=
  ∀ (who : Requester) (a : Fin 67108864) (wide : Bool) (v : Word) (s : State), 0x400000 ≤ a.val → a.val < 0x600000 →
    a.val % (if wide then 8 else 4) = 0 → (∀ n, who = .seat n → s.Settled n) →
    ∃ t, exec (.registerWrite who a wide v {}) s = .next t ∧
      (∀ i, i < (if wide then 8 else 4) → t.byte (a.val - 0x400000 + i) = byteOf v i) ∧
      (∀ b, b < a.val - 0x400000 ∨ a.val - 0x400000 + (if wide then 8 else 4) ≤ b → t.byte b = s.byte b) ∧
      { t with mem := s.mem } = s

/-- COUNTER_CLEAR of a counter register outside the performance block: the whole register reads 0, and no other register changes, but
that the two pattern counters of a lane clear together (R279, R573). -/
def Sys2Proof.Claims.CounterClearZeroes : Prop :=
  ∀ (who : Requester) (k : RKey) (a : Fin 67108864) (v : Word) (s : State), k.r.row.anyWriteClears = true →
    k.r ≠ .PMC_GCNT → k.r ≠ .PMC_PCNT → k.r ≠ .PMC_SCNT →
    k.i < k.r.row.count → k.j < k.r.row.inner → a.val = k.addr → s.Writes who k →
    ∃ t, exec (.counterClear who a v) s = .next t ∧ t.rd k = 0 ∧
      RegsBut s t (fun x => x = k ∨ ((k.r = .LN_PAT_ERR ∨ k.r = .LN_PAT_BITS) ∧ (x.r = .LN_PAT_ERR ∨ x.r = .LN_PAT_BITS) ∧ x.i = k.i)) ∧
      t.mem = s.mem ∧ t.out = s.out

/-- The parts RegisterWritesFollowAccessCodes and CounterClearZeroes together. -/
def Obligations.RegisterWritesFollowAccessCodes : Prop :=
  Sys2Proof.Claims.RegisterWritesFollowAccessCodes ∧ Sys2Proof.Claims.CounterClearZeroes

/-! Skeins and capacity (spec/02) -/

/-- SKEIN_ENTRY_WRITE. W0 with a change of STATE that the guards let pass: STATE is the new one and the writable fields are stored.
W1: the owner slots' valid and write bits are stored, OWN_ACC is kept. W2 and W3 in Absent, Free and Allocated: stored whole. In
each case no register of another skein changes (R40, R42, R43). -/
def Obligations.SkeinEntryWrites : Prop :=
  ∀ (who : Requester) (n : Fin 65536) (v : Word) (s : State),
    (s.Writes who ⟨.SKN_W0, n.val, 0⟩ → bitsOf v 63 60 ≠ s.fld SKN_W0.STATE n.val →
      s.skeinGuard n.val (s.fld SKN_W0.STATE n.val) (bitsOf v 63 60) v = none →
      ∃ t, exec (.skeinEntryWrite who n 0 v) s = .next t ∧ t.fld SKN_W0.STATE n.val = bitsOf v 63 60 ∧
        t.rd ⟨.SKN_W0, n.val, 0⟩ =
          ((s.rd ⟨.SKN_W0, n.val, 0⟩ &&& ~~~(s.skeinMask n.val (s.fld SKN_W0.STATE n.val))) |||
            (v &&& s.skeinMask n.val (s.fld SKN_W0.STATE n.val))) ∧
        RegsBut s t (fun k => (k.r = .SKN_W0 ∨ k.r = .SKN_W1) ∧ k.i = n.val) ∧ t.mem = s.mem) ∧
    (s.Writes who ⟨.SKN_W1, n.val, 0⟩ →
      ∃ t, exec (.skeinEntryWrite who n 1 v) s = .next t ∧
        bitsOf (t.rd ⟨.SKN_W1, n.val, 0⟩) 47 16 = bitsOf v 47 16 ∧
        bitsOf (t.rd ⟨.SKN_W1, n.val, 0⟩) 63 48 = bitsOf (s.rd ⟨.SKN_W1, n.val, 0⟩) 63 48 ∧
        RegsBut s t (fun k => k = ⟨.SKN_W1, n.val, 0⟩) ∧ t.mem = s.mem) ∧
    (s.Writes who ⟨.SKN_W2, n.val, 0⟩ → s.fld SKN_W0.STATE n.val ≤ skAllocated →
      ∃ t, exec (.skeinEntryWrite who n 2 v) s = .next t ∧ t.rd ⟨.SKN_W2, n.val, 0⟩ = v ∧
        RegsBut s t (fun k => k = ⟨.SKN_W2, n.val, 0⟩) ∧ t.mem = s.mem) ∧
    (s.Writes who ⟨.SKN_W3, n.val, 0⟩ → s.fld SKN_W0.STATE n.val ≤ skAllocated →
      ∃ t, exec (.skeinEntryWrite who n 3 v) s = .next t ∧ t.rd ⟨.SKN_W3, n.val, 0⟩ = v ∧
        RegsBut s t (fun k => k = ⟨.SKN_W3, n.val, 0⟩) ∧ t.mem = s.mem)

/-- DCE and RDCE commands that are taken: the record of the operation is the newest of the port's event log, PEND counts the log; an
add offers the extent and lifts its bar, a forced release withdraws the offer and bars it, a request does neither (R49, R186). -/
def Sys2Proof.Claims.CapacityCommandsRecord : Prop :=
  (∀ x ∈ ([(Instr.dceAdd, 1), (Instr.dceReleaseRequest, 2), (Instr.dceForcedRelease, 3)] :
      List ((Requester → Fin 256 → Fin 65536 → Instr) × Nat)),
    ∀ (who : Requester) (p : Fin 256) (n : Fin 65536) (s : State), s.Writes who ⟨.PRT_DCE, p.val, 0⟩ →
      (s.slotsOf n.val p.val).isEmpty = false → (x.2 = 1 → (s.port p.val).ext.any (fun a => a.skein == n.val) = true) →
      (s.port p.val).dcLog.length < dcLogSize →
      ∃ t, exec (x.1 who p n) s = .next t ∧
        (t.port p.val).dcLog = (s.port p.val).dcLog ++ [⟨x.2, false, n.val, n.val, s.fld SKN_W0.CREW n.val⟩] ∧
        t.fld PRT_DC_STS.PEND p.val = (s.port p.val).dcLog.length + 1 ∧
        (t.port p.val).offers = (if x.2 = 1 then (s.port p.val).offers.filter (· != (false, n.val)) ++ [(false, n.val)]
          else if x.2 = 3 then (s.port p.val).offers.filter (· != (false, n.val)) else (s.port p.val).offers) ∧
        (t.port p.val).barred = (if x.2 = 1 then (s.port p.val).barred.filter (· != (false, n.val))
          else if x.2 = 3 then (s.port p.val).barred.filter (· != (false, n.val)) ++ [(false, n.val)]
          else (s.port p.val).barred) ∧
        (∀ q, q ≠ p.val → t.port q = s.port q) ∧ t.mem = s.mem ∧
        RegsBut s t (fun k => (k.r = .PRT_DC_STS ∧ k.i = p.val) ∨ (k.r = .SKN_W1 ∧ k.i = n.val ∧ x.2 = 3))) ∧
  (∀ x ∈ ([(Instr.rdceAdd, 1), (Instr.rdceReleaseRequest, 2), (Instr.rdceForcedRelease, 3)] :
      List ((Requester → Fin 256 → Fin 32 → Instr) × Nat)),
    ∀ (who : Requester) (p : Fin 256) (i : Fin 32) (s : State), s.Writes who ⟨.PRT_RDCE, p.val, 0⟩ →
      (x.2 = 1 → (s.port p.val).rext.any (fun a => a.idx == i.val) = true) → (s.port p.val).dcLog.length < dcLogSize →
      ∃ t, exec (x.1 who p i) s = .next t ∧
        (t.port p.val).dcLog = (s.port p.val).dcLog ++
          [⟨x.2, true, i.val, s.fld PRT_REXT_W0.HSKEIN p.val i.val, s.fld PRT_REXT_W0.HCREW p.val i.val⟩] ∧
        t.fld PRT_DC_STS.PEND p.val = (s.port p.val).dcLog.length + 1 ∧
        (t.port p.val).offers = (if x.2 = 1 then (s.port p.val).offers.filter (· != (true, i.val)) ++ [(true, i.val)]
          else if x.2 = 3 then (s.port p.val).offers.filter (· != (true, i.val)) else (s.port p.val).offers) ∧
        (t.port p.val).barred = (if x.2 = 1 then (s.port p.val).barred.filter (· != (true, i.val))
          else if x.2 = 3 then (s.port p.val).barred.filter (· != (true, i.val)) ++ [(true, i.val)]
          else (s.port p.val).barred) ∧
        (∀ q, q ≠ p.val → t.port q = s.port q) ∧ t.mem = s.mem ∧
        RegsBut s t (fun k => (k.r = .PRT_DC_STS ∧ k.i = p.val) ∨ (k.r = .PRT_REXT_W0 ∧ k.i = p.val ∧ x.2 = 3)))

/-- ADD_DC_RESPONSE of one local extent that the host may accept, the oldest one offered: the skein is Bound, the owner slot that names
the port has its OWN_ACC set, the offer is gone, event 0x30 is posted and the host has Success. One that lists an extent that may
not be accepted changes nothing and has Invalid Input (R40, R50, R243). -/
def Sys2Proof.Claims.AddResponsesAccept : Prop :=
  (∀ (p : Fin 256) (n k : Nat) (rest : List (Bool × Nat)) (ks : List Nat) (s : State), n < 65536 →
    s.mayAccept p.val (false, n) = true →
    (s.port p.val).offers = (false, n) :: rest → (false, n) ∉ rest → s.slotsOf n p.val = k :: ks →
    ∃ t, exec (.addDcResponse p [(false, n)]) s = .next t ∧ t.fld SKN_W0.STATE n = skBound ∧
      bitOf (t.rd ⟨.SKN_W1, n, 0⟩) (48 + k) = true ∧ (t.port p.val).offers = rest ∧
      (s.eng.evq.length + 8 < 1024 → t.eng.evq = s.eng.evq ++ [eventWord 0x30 3 p.val n]) ∧
      t.out = s.out ++ [.mailbox p.val .success []] ∧ t.mem = s.mem ∧ t.marks = s.marks) ∧
  (∀ (p : Fin 256) (l : List (Bool × Nat)) (s : State), l.all (s.mayAccept p.val) = false →
    exec (.addDcResponse p l) s = .next (s.emit (.mailbox p.val .invalidInput [])))

/-- RELEASE_DYNAMIC_CAPACITY of an extent that the host holds: a local skein loses the port's OWN_ACC bits and keeps its state, a remote
entry its ACC; event 0x31 is posted and the host has Success (R40, R186, R242). -/
def Sys2Proof.Claims.ReleasesClearAcceptance : Prop :=
  (∀ (p : Fin 256) (n : Fin 65536) (s : State), s.mayRelease p.val (false, n.val) = true →
    ∃ t, exec (.releaseDynamicCapacity p false n) s = .next t ∧ t.accepted n.val p.val = false ∧
      t.rd ⟨.SKN_W0, n.val, 0⟩ = s.rd ⟨.SKN_W0, n.val, 0⟩ ∧ t.out = s.out ++ [.mailbox p.val .success []] ∧ t.mem = s.mem ∧
      (s.eng.evq.length + 8 < 1024 → t.eng.evq = s.eng.evq ++ [eventWord 0x31 3 p.val n.val]) ∧
      RegsBut s t (fun k => (k.r = .SKN_W1 ∧ k.i = n.val) ∨ k.r = .ICF_EVQ_CNT ∨ k.r = .ICF_EVQ_STS)) ∧
  (∀ (p : Fin 256) (n : Fin 65536) (s : State), s.mayRelease p.val (true, n.val) = true →
    ∃ t, exec (.releaseDynamicCapacity p true n) s = .next t ∧ t.fld PRT_REXT_W0.ACC p.val n.val = 0 ∧
      (s.eng.evq.length + 8 < 1024 → t.eng.evq = s.eng.evq ++ [eventWord 0x31 3 p.val (2 ^ 31 + n.val)]) ∧
      t.out = s.out ++ [.mailbox p.val .success []] ∧ t.mem = s.mem)

/-- The parts CapacityCommandsRecord, AddResponsesAccept and ReleasesClearAcceptance together. -/
def Obligations.CapacityChangesAreNegotiated : Prop :=
  Sys2Proof.Claims.CapacityCommandsRecord ∧ Sys2Proof.Claims.AddResponsesAccept ∧ Sys2Proof.Claims.ReleasesClearAcceptance

/-- EPOCH_ACTIVATE of the first EPOCH of a host port whose staged map is valid: the port takes the map and its next epoch number, and
the EPOCH drains the old one. A fabric port takes its active copies. A map that is not valid ends the EPOCH with its code and
changes no map. EPOCH_COMPLETE ends an EPOCH whose old epoch has no open request, with 0 (R54). -/
def Obligations.EpochsTakeTheStagedMap : Prop :=
  (∀ (p : Fin 256) (e : EpochReq) (rest : List EpochReq) (s : State), (s.port p.val).epochs = e :: rest → e.draining = none →
    (s.port p.val).trackerDown = false → s.role p.val ≠ 4 →
    (s.epochErr p.val = 0 → ∃ t, exec (.epochActivate p) s = .next t ∧ (t.port p.val).ext = s.stagedExts p.val ∧
      (t.port p.val).rext = s.stagedRexts p.val ∧ (t.port p.val).epoch = ((s.port p.val).epoch + 1) % 16 ∧
      (t.port p.val).epochs = { e with draining := some (s.port p.val).epoch } :: rest ∧
      (∀ q, q ≠ p.val → t.port q = s.port q) ∧ t.mem = s.mem ∧ RegsBut s t (fun k => k.r = .SKN_W0)) ∧
    (s.epochErr p.val ≠ 0 → exec (.epochActivate p) s =
      .next ((s.modPort p.val (fun q => { q with epochs := rest })).finishOpt e.seat e.rd (wordOf (s.epochErr p.val))))) ∧
  (∀ (p : Fin 256) (e : EpochReq) (rest : List EpochReq) (s : State), (s.port p.val).epochs = e :: rest → e.draining = none →
    (s.port p.val).trackerDown = false → s.role p.val = 4 →
    exec (.epochActivate p) s = .next ((s.setPort p.val (s.fabricCopy { s.port p.val with
      epoch := ((s.port p.val).epoch + 1) % 16 })).modPort p.val (fun q => { q with
        epochs := { e with draining := some (s.port p.val).epoch } :: rest }))) ∧
  (∀ (p : Fin 256) (e : EpochReq) (rest : List EpochReq) (old : Nat) (s : State), (s.port p.val).epochs = e :: rest →
    e.draining = some old → (s.port p.val).epochOpen old = false → (s.port p.val).trackerDown = false →
    exec (.epochComplete p) s = .next ((s.modPort p.val (fun q => { q with epochs := rest })).finishOpt e.seat e.rd 0))

/-- SCRUB_GO of a Scrubbing skein of the port starts its engine, which puts the write of the skein's first line into the port's queue 63
where that queue is empty; SCRUB_COMPLETE, once every line is acknowledged, makes the skein Free with HOLD 0 and posts event 0x33
(R61 to R63). -/
def Obligations.ScrubsFreeTheSkein : Prop :=
  (∀ (who : Requester) (p : Fin 256) (n : Fin 65536) (s : State), s.Writes who ⟨.PRT_SCRB_CTL, p.val, 0⟩ →
    s.fld SKN_W0.STATE n.val = skScrubbing → s.fld SKN_W0.MPORT n.val = p.val → (s.port p.val).scrub = none →
    ∃ t x, exec (.scrubGo who p n) s = .next t ∧ (t.port p.val).scrub = some x ∧ x.skein = n.val ∧ x.acked = 0 ∧
      t.fld PRT_SCRB_STS.BUSY p.val = 1 ∧ t.fld PRT_SCRB_STS.PROG_MIB p.val = 0 ∧ t.fld PRT_SCRB_CTL.SKEIN p.val = n.val ∧
      ((s.queue (64 * p.val + 63)).msgs = [] → 0 < s.skeinLines n.val →
        ∃ e, (t.queue (64 * p.val + 63)).msgs = [e] ∧ e.msg.body = .scrub (s.fld PRT_SCRB_PAT.PAT p.val) ∧
          e.msg.addr = granule * s.fld SKN_W0.DBASE n.val) ∧
      RegsBut s t (fun k => (k.r = .PRT_SCRB_CTL ∨ k.r = .PRT_SCRB_STS) ∧ k.i = p.val) ∧ t.mem = s.mem) ∧
  (∀ (p : Fin 256) (x : ScrubSt) (s : State), (s.port p.val).scrub = some x → s.skeinLines x.skein ≤ x.acked →
    s.fld SKN_W0.STATE x.skein = skScrubbing →
    ∃ t, exec (.scrubComplete p) s = .next t ∧ t.fld SKN_W0.STATE x.skein = skFree ∧ t.fld SKN_W1.HOLD x.skein = 0 ∧
      t.fld PRT_SCRB_STS.BUSY p.val = 0 ∧ t.fld PRT_SCRB_STS.DONE p.val = 1 ∧ (t.port p.val).scrub = none ∧ t.mem = s.mem ∧
      (s.eng.evq.length + 8 < 1024 → t.eng.evq = s.eng.evq ++ [eventWord 0x33 2 p.val x.skein]) ∧
      RegsBut s t (fun k => ((k.r = .SKN_W0 ∨ k.r = .SKN_W1) ∧ k.i = x.skein) ∨ (k.r = .PRT_SCRB_STS ∧ k.i = p.val) ∨
        k.r = .ICF_EVQ_CNT ∨ k.r = .ICF_EVQ_STS))

/-! Crews and fences (spec/03, spec/04) -/

/-- CREW_CREATE makes a Free crew Stopped, with no member, CRW_CTL at reset and FCAUSE 0; CREW_DELETE makes an empty Stopped or Fenced one
Free; CRW_CTL and CRW_MEM of a Stopped crew take what is written (R66, R68, R70, R72). -/
def Sys2Proof.Claims.CrewsAreMadeAndUnmade : Prop :=
  (∀ (who : Requester) (c : Fin 256) (s : State), s.Writes who ⟨.CRW_CMD, c.val, 0⟩ → s.crewState c.val = 0 → s.safe = false →
    ∃ t, exec (.crewCreate who c) s = .next t ∧ t.crewState c.val = 1 ∧ t.fld CRW_STS.FCAUSE c.val = 0 ∧
      (∀ w, t.rd ⟨.CRW_MEM, c.val, w⟩ = 0) ∧ t.rd ⟨.CRW_CTL, c.val, 0⟩ = RKey.reset ⟨.CRW_CTL, c.val, 0⟩ ∧
      (t.fn (fidCrew c.val)).run = .stopped ∧ t.mem = s.mem ∧
      RegsBut s t (fun k => (k.r = .CRW_MEM ∨ k.r = .CRW_CTL ∨ k.r = .CRW_STS) ∧ k.i = c.val)) ∧
  (∀ (who : Requester) (c : Fin 256) (s : State), s.Writes who ⟨.CRW_CMD, c.val, 0⟩ →
    (s.crewState c.val = 1 ∨ s.crewState c.val = 4) → s.skeinCount c.val = 0 → s.fld CRW_ENT_CNT.CNT c.val = 0 →
    ∃ t, exec (.crewDelete who c) s = .next t ∧ t.crewState c.val = 0 ∧ t.rd ⟨.CRW_FINFO, c.val, 0⟩ = 0 ∧ t.mem = s.mem ∧
      RegsBut s t (fun k => (k.r = .CRW_STS ∨ k.r = .CRW_FINFO) ∧ k.i = c.val)) ∧
  (∀ (who : Requester) (c : Fin 256) (v : BitVec 32) (s : State), s.Writes who ⟨.CRW_CTL, c.val, 0⟩ → s.crewState c.val = 1 →
    ∃ t, exec (.crwCtlWrite who c v) s = .next t ∧ t.rd ⟨.CRW_CTL, c.val, 0⟩ = (v.zeroExtend 64 &&& 0x8FFFFF00) ∧
      RegsBut s t (fun k => k = ⟨.CRW_CTL, c.val, 0⟩) ∧ t.mem = s.mem) ∧
  (∀ (who : Requester) (c : Fin 256) (w : Fin 128) (v : BitVec 32) (s : State), s.Writes who ⟨.CRW_MEM, c.val, w.val⟩ →
    s.crewState c.val = 1 →
    ∃ t, exec (.crwMemWrite who c w v) s = .next t ∧ t.rd ⟨.CRW_MEM, c.val, w.val⟩ = v.zeroExtend 64 ∧
      RegsBut s t (fun k => k = ⟨.CRW_MEM, c.val, w.val⟩) ∧ t.mem = s.mem)

/-- FENCE_CAUSE takes an Active or Stopped crew to Fencing with its cause, and the crew's skeins from Allocated to Releasing to Held; no
skein belongs to crew 255. Of two causes of one crew that meet, the crew records the lower (R64, R196). CREW_FENCED, once all 64
slices have reported, takes it to Fenced with no entries (R72, R114, R115). -/
def Sys2Proof.Claims.FencesTakeTheCrew : Prop :=
  (∀ (i c : Nat) (f : FenceReq) (s : State), s.nextFence i = some f → c ∈ f.crews.crews → c < 256 →
    (s.crewState c = 1 ∨ s.crewState c = 2) →
    ∃ t, exec (.fenceCause i none) s = .next t ∧ t.crewState c = 3 ∧ t.fld CRW_STS.FCAUSE c = f.cause % 16 ∧
      t.flt.fences = s.flt.fences.erase f ∧
      (∀ n, c ≠ 255 → s.fld SKN_W0.CREW n = c → skAllocated ≤ s.fld SKN_W0.STATE n → s.fld SKN_W0.STATE n ≤ skReleasing →
        t.fld SKN_W0.STATE n = skHeld ∧ t.fld SKN_W1.HOLD n = 1) ∧
      (∀ n, s.fld SKN_W0.CREW n = 255 → t.rd ⟨.SKN_W0, n, 0⟩ = s.rd ⟨.SKN_W0, n, 0⟩) ∧
      (∀ x, x ∉ f.crews.crews → t.crewState x = s.crewState x) ∧ t.mem = s.mem) ∧
  (∀ (i j c : Nat) (f g : FenceReq) (s : State), i ≠ j → s.nextFence i = some f → s.nextFence j = some g → c ∈ f.crews.crews →
    c ∈ g.crews.crews → c < 256 → (s.crewState c = 1 ∨ s.crewState c = 2) →
    ∃ t, exec (.fenceCause i (some j)) s = .next t ∧ t.crewState c = 3 ∧
      t.fld CRW_STS.FCAUSE c = (min f.cause g.cause) % 16) ∧
  (∀ (c : Fin 256) (s : State), s.crewState c.val = 3 → (tabGet (fun _ => []) s.flt.purged c.val).length = 64 →
    ∃ t, exec (.crewFenced c) s = .next t ∧ t.crewState c.val = 4 ∧ t.fld CRW_ENT_CNT.CNT c.val = 0 ∧ t.mem = s.mem ∧
      t.fld CRW_STS.FCAUSE c.val = s.fld CRW_STS.FCAUSE c.val ∧
      (s.eng.evq.length + 8 < 1024 → t.eng.evq = s.eng.evq ++ [eventWord 0x10 6 c.val (s.fld CRW_STS.FCAUSE c.val)]) ∧
      RegsBut s t (fun k => ((k.r = .CRW_STS ∨ k.r = .CRW_ENT_CNT) ∧ k.i = c.val) ∨ k.r = .ICF_EVQ_CNT ∨ k.r = .ICF_EVQ_STS))

/-- The parts CrewsAreMadeAndUnmade and FencesTakeTheCrew together. -/
def Obligations.CrewsAndFences : Prop :=
  Sys2Proof.Claims.CrewsAreMadeAndUnmade ∧ Sys2Proof.Claims.FencesTakeTheCrew

/-! Host ports: requests, answers, snoops (spec/02 R51, spec/04) -/

/-- HOST_REQUEST at a port that takes it. A request that the check refuses counts an access fault, reports it, and is answered at once:
a read with poisoned data, a write with Cmp, a MemSpecRd not at all; it enters no table (R51, R52, R95). One for an active local extent without a crew, its
group running and no drop by its meter, joins the outstanding table under the port's epoch (R51, R55). -/
def Obligations.HostRequestsAreCheckedThenTaken : Prop :=
  (∀ (p : Fin 256) (r : HostReq) (s : State) (cause : Nat), s.hostTakes p.val r.op = true → (s.port p.val).trackerDown = false →
    s.check p.val r.op r.dpa = .fail cause false →
    ∃ t, exec (.hostRequest p r) s = .next t ∧
      t.out = s.out ++ (if r.op = .memSpecRd then [] else
        [if r.op.isRead then .hostPoison p.val r.tag else .hostCmp p.val r.tag .i]) ∧
      t.fld PRT_AF_CNT.CNT p.val = min 0xFFFFFFFF (s.fld PRT_AF_CNT.CNT p.val + 1) ∧
      t.flt.reports = s.flt.reports ++ [slotAccess p.val] ∧ t.ports = s.ports ∧ t.mem = s.mem ∧
      RegsBut s t (fun k => (k.r = .PRT_AF_CNT ∨ k.r = .PRT_AF_LOG) ∧ k.i = p.val)) ∧
  (∀ (p : Fin 256) (r : HostReq) (s : State) (a : ActExt), s.hostTakes p.val r.op = true → (s.port p.val).trackerDown = false →
    s.check p.val r.op r.dpa = .local a → r.op = .memRdData → a.crew = noCrew → s.groupHolds a.group = false →
    a.slice = none → (∀ x ∈ (s.port p.val).out, x.tag ≠ (s.port p.val).nextTag) →
    ∃ t e, exec (.hostRequest p r) s = .next t ∧ (t.port p.val).out = (s.port p.val).out ++ [e] ∧ e.hostTag = r.tag ∧
      e.kind = .ncRead .s ∧ e.mport = a.mport ∧ e.epoch = (s.port p.val).epoch ∧ e.phase = .sent ∧ t.out = s.out ∧ t.mem = s.mem)

/-- NACK_RECEIVED and PARK_NOTICE_RECEIVED: the entry that the notice names waits out a back-off drawn from the crew's window, or is parked;
the notice has left the inbox (R106, R110). -/
def Sys2Proof.Claims.NacksAndParksHoldTheEntry : Prop :=
  (∀ (p : Fin 256) (m : Msg) (rest : List Msg) (e : OutEntry) (s : State),
    takeFirst (fun m => m.body == .nack) (s.port p.val).inbox = some (m, rest) → s.entry p.val m.tag = some e →
    s.fld CRW_CTL.BO_MIN e.crew ≤ s.fld CRW_CTL.BO_MAX e.crew →
    ∃ t b, exec (.nackReceived p) s = .next t ∧ (t.port p.val).inbox = rest ∧
      t.entry p.val m.tag = some { e with phase := .backoff, answered := true, backoff := b, resend := true } ∧
      s.fld CRW_CTL.BO_MIN e.crew ≤ b ∧ b ≤ s.fld CRW_CTL.BO_MAX e.crew ∧ t.regs = s.regs ∧ t.mem = s.mem) ∧
  (∀ (p : Fin 256) (m : Msg) (rest : List Msg) (e : OutEntry) (s : State),
    takeFirst (fun m => m.body == .parkNotice) (s.port p.val).inbox = some (m, rest) → s.entry p.val m.tag = some e →
    ∃ t, exec (.parkNoticeReceived p) s = .next t ∧ (t.port p.val).inbox = rest ∧
      t.entry p.val m.tag = some { e with phase := .parked, answered := true } ∧ t.regs = s.regs ∧ t.mem = s.mem)

/-- BACKOFF_EXPIRY: an entry whose back-off has ended is sent again where its crew and its slice run, and is held where they do not
(R71, R106, R109). -/
def Sys2Proof.Claims.BackoffEndsInASend : Prop :=
  ∀ (p : Fin 256) (tag : Nat) (e : OutEntry) (s : State), s.entry p.val tag = some e → e.phase = .backoff →
    (((s.setEntry p.val { e with phase := .held }).sendable p.val { e with phase := .held } = false →
      exec (.backoffExpiry p tag) s = .next (s.setEntry p.val { e with phase := .held })) ∧
    ((s.setEntry p.val { e with phase := .held }).sendable p.val { e with phase := .held } = true →
      ∃ t x, exec (.backoffExpiry p tag) s = .next t ∧ t.entry p.val tag = some x ∧ x.phase = .sent ∧ x.resend = false ∧
        x.addr = e.addr ∧ t.mem = s.mem))

/-- DATA_TO_REQUESTER at a host port: the answer of the entry leaves on the host's link with the entry's tag, and the entry leaves the
table (R99, R103). -/
def Sys2Proof.Claims.DataAnswersTheHost : Prop :=
  ∀ (p : Fin 256) (m : Msg) (rest : List Msg) (e : OutEntry) (g : MetaVal) (s : State),
    takeFirst (fun m => (m.body.reply m.poison).isSome) (s.port p.val).inbox = some (m, rest) → s.entry p.val m.tag = some e →
    m.body.reply m.poison = some (.data g m.poison) → e.kind.returnHdr e.fab = none → (s.port p.val).snoops = [] →
    ∃ t, exec (.dataToRequester p) s = .next t ∧ t.out = s.out ++ [.hostData p.val e.hostTag g m.poison] ∧
      (t.port p.val).out = (s.port p.val).out.filter (fun x => x.tag != e.tag) ∧ (t.port p.val).inbox = rest ∧
      t.regs = s.regs ∧ t.mem = s.mem

/-- The parts NacksAndParksHoldTheEntry, BackoffEndsInASend and DataAnswersTheHost together. -/
def Obligations.EntriesWaitAndAreAnswered : Prop :=
  Sys2Proof.Claims.NacksAndParksHoldTheEntry ∧ Sys2Proof.Claims.BackoffEndsInASend ∧ Sys2Proof.Claims.DataAnswersTheHost

/-- BACK_INVALIDATE_DELIVERY at a host port: a snoop of a line that an active binding maps goes to the host and waits for its answer; one
that no binding maps is answered I at once (R100, R113). At a fabric port each agent that is reached by it is served in turn. -/
def Sys2Proof.Claims.BackInvalidatesReachTheAgent : Prop :=
  (∀ (p : Fin 256) (m : Msg) (rest : List Msg) (k : Snp) (s : State),
    takeFirst (fun m => m.body.snp.isSome) (s.port p.val).inbox = some (m, rest) → m.body.snp = some k →
    s.fld PRT_CTL.ROLE p.val ≠ 4 → s.linkActive p.val = true → (s.port p.val).maps m = true →
    ∃ t, exec (.backInvalidateDelivery p) s = .next t ∧ t.out = s.out ++ [.hostSnoop p.val k m.mport m.addr] ∧
      (t.port p.val).snoops = (s.port p.val).snoops ++ [{ snoopEntry m k (s.snoopedAgent p.val m) with timed := m.fab.isNone }] ∧
      (t.port p.val).inbox = rest ∧ t.regs = s.regs ∧ t.mem = s.mem) ∧
  (∀ (p : Fin 256) (m : Msg) (rest : List Msg) (k : Snp) (s : State),
    takeFirst (fun m => m.body.snp.isSome) (s.port p.val).inbox = some (m, rest) → m.body.snp = some k →
    s.fld PRT_CTL.ROLE p.val ≠ 4 → (s.port p.val).maps m = false →
    exec (.backInvalidateDelivery p) s = .next ((s.modPort p.val (fun q => { q with inbox := rest })).sendAnswer p.val
      (snoopEntry m k (s.snoopedAgent p.val m)) .i)) ∧
  (∀ (p : Fin 256) (m : Msg) (rest : List Msg) (k : Snp) (s : State),
    takeFirst (fun m => m.body.snp.isSome) (s.port p.val).inbox = some (m, rest) → m.body.snp = some k →
    s.fld PRT_CTL.ROLE p.val = 4 →
    exec (.backInvalidateDelivery p) s = .next ((m.agents.filter (fun f => s.agentPort f == some p.val)).foldl
      (fun u f => u.deliverFabric p.val m k f) (s.modPort p.val (fun q => { q with inbox := rest }))))

/-- SNOOP_TIMEOUT of a snoop whose timer runs: a fence cause 2 for its crew, with its slice and agent, is on its way, the port reports, and
the snoop is kept as one that has expired (R17, R112). BICONFLICT counts, and is acknowledged at once unless a request of the host
for the line still waits for its first answer; then the snoop is marked. SLICE_STOP_TAKEN: the port agent has taken the stop of a
Stopping slice (R109, R111). -/
def Sys2Proof.Claims.SnoopTimersAndConflicts : Prop :=
  (∀ (p : Fin 256) (i : Nat) (x : SnpEntry) (s : State), (s.port p.val).snoops[i]? = some x → x.timed = true → x.expired = false →
    ∃ t, exec (.snoopTimeout p i) s = .next t ∧
      t.flt.fences = s.flt.fences ++ [{ cause := 2, unit := octetOf p.val, crews := .one x.crew, slice := some x.slice, feid := x.feid }] ∧
      t.flt.reports = s.flt.reports ++ [slotPort p.val] ∧
      (t.port p.val).snoops[i]? = some { x with expired := true, timed := false } ∧ t.regs = s.regs ∧ t.mem = s.mem) ∧
  (∀ (p : Fin 256) (i : Nat) (x : SnpEntry) (s : State), (s.port p.val).snoops[i]? = some x →
    (∃ e ∈ (s.port p.val).out, sameLine e x = true ∧ e.answered = false) →
    ∃ t, exec (.biconflict p i) s = .next t ∧
      t.fld PRT_BICONF_CNT.CNT p.val = min 0xFFFFFFFF (s.fld PRT_BICONF_CNT.CNT p.val + 1) ∧
      (t.port p.val).snoops[i]? = some { x with conflict := true } ∧ t.mem = s.mem) ∧
  (∀ (p : Fin 256) (i : Nat) (x : SnpEntry) (s : State), (s.port p.val).snoops[i]? = some x → (s.port p.val).ackable x = true →
    (∀ y ∈ (s.port p.val).snoops, y.conflict = false) →
    ∃ t, exec (.biconflict p i) s = .next t ∧ t.out = s.out ++ [.biConflictAck p.val x.mport x.addr] ∧
      (t.port p.val).snoops[i]? = some x ∧ t.mem = s.mem) ∧
  (∀ (p : Fin 256) (d : Fin 64) (s : State), (s.fn (fidSlice d.val)).run = .stopping → (s.port p.val).stops.contains d.val = false →
    ∃ t, exec (.sliceStopTaken p d) s = .next t ∧ (t.port p.val).stops = (s.port p.val).stops ++ [d.val] ∧
      (∀ q, q ≠ p.val → t.port q = s.port q) ∧ { t with ports := s.ports } = s)

/-- HOST_SNOOP_ANSWER that satisfies a snoop of a local home: the snoop is gone, and the answer goes to its home slice. One that no snoop
held awaits is counted and changes no snoop (R101); one that comes after its snoop's timer counts as late (R17, R112). -/
def Sys2Proof.Claims.HostAnswersReachTheHome : Prop :=
  (∀ (p : Fin 256) (i : Nat) (a : Ans) (tie : Bool) (x : SnpEntry) (s : State), (s.port p.val).snoops[i]? = some x →
    x.expired = false → x.kind.satisfied a = true → s.awayHdr x = none →
    ∃ t, exec (.hostSnoopAnswer p i a tie) s = .next t ∧ (t.port p.val).snoops = (s.port p.val).snoops.eraseIdx i ∧
      Sends s t p.val
        { body := .answer x.kind a, src := p.val, dsts := [epSlice x.slice], cls := 2, feid := x.feid, port := p.val,
          slice := x.slice, crew := x.crew, mport := x.mport, addr := x.addr } ∧
      RegsBut s t (fun k => k.r = .PMC_NM) ∧ t.mem = s.mem) ∧
  (∀ (p : Fin 256) (i : Nat) (a : Ans) (tie : Bool) (s : State),
    ((s.port p.val).snoops[i]?).all (fun x => !x.expired && !x.kind.satisfied a) = true →
    ∃ t, exec (.hostSnoopAnswer p i a tie) s = .next t ∧ t.ports = s.ports ∧ t.core = s.core ∧
      t.fld PRT_SNP_DISC.CNT p.val = min 0xFFFFFFFF (s.fld PRT_SNP_DISC.CNT p.val + 1) ∧
      RegsBut s t (fun k => k = ⟨.PRT_SNP_DISC, p.val, 0⟩) ∧ t.mem = s.mem) ∧
  (∀ (p : Fin 256) (i : Nat) (a : Ans) (tie : Bool) (x : SnpEntry) (s : State), (s.port p.val).snoops[i]? = some x →
    x.expired = true →
    ∃ t, exec (.hostSnoopAnswer p i a tie) s = .next t ∧ (t.port p.val).snoops = (s.port p.val).snoops.eraseIdx i ∧
      t.core = s.core ∧ t.fld PMC_LATE.CNT (octetOf p.val) = min 0xFFFFFFFF (s.fld PMC_LATE.CNT (octetOf p.val) + 1) ∧
      t.mem = s.mem)

/-- FENCE_NOTICE_AT_PORT_AGENT: a memory port takes the notice out of its inbox and does nothing else. Another port ends every request
of the crew and drops the crew's local snoops, and a member's host port signals viral (R115); then it checks again the requests that it
holds for a Stopped crew (R72). -/
def Sys2Proof.Claims.FenceNoticesEndTheCrewsRequests : Prop :=
  ∀ (p : Fin 256) (m : Msg) (rest : List Msg) (s : State),
    takeFirst (fun m => m.body == .fence) (s.port p.val).inbox = some (m, rest) →
    (s.fld PRT_CTL.ROLE p.val = 2 → exec (.fenceNoticeAtPortAgent p) s =
      .next (s.modPort p.val (fun q => { q with inbox := rest }))) ∧
    (s.fld PRT_CTL.ROLE p.val ≠ 2 → ∃ t : State, exec (.fenceNoticeAtPortAgent p) s = .next (t.replayHeld p.val none) ∧
      (∀ e ∈ (t.port p.val).out, e.ofCrew m.crew = false) ∧ (∀ x ∈ (t.port p.val).snoops, x.crew = m.crew → s.awayHdr x ≠ none) ∧
      (t.port p.val).held = (s.port p.val).held ∧
      (s.role p.val = 1 → s.member m.crew (s.feidOf p.val) = true →
        Out.viral p.val ∈ t.out ∧ t.flag PRT_STS.VIRAL_TX p.val = true) ∧
      t.mem = s.mem ∧ (t.replayHeld p.val none).mem = s.mem)

/-- The parts BackInvalidatesReachTheAgent, SnoopTimersAndConflicts, HostAnswersReachTheHome and FenceNoticesEndTheCrewsRequests together. -/
def Obligations.SnoopsAndPortAgents : Prop :=
  Sys2Proof.Claims.BackInvalidatesReachTheAgent ∧
  Sys2Proof.Claims.SnoopTimersAndConflicts ∧
  Sys2Proof.Claims.HostAnswersReachTheHome ∧
  Sys2Proof.Claims.FenceNoticesEndTheCrewsRequests

/-! Home slices (spec/03, spec/04) -/

/-- COHERENT_REQUEST admits a request at the way that holds its sector. A read of S or E-owned that snoops nobody records the requester,
makes the line pending, raises OTC and issues its memory read; one that must snoop sends the back-invalidate of R96 to every sharer but
the requester and waits for their answers; ownership without data of an I line is granted at once, the line E-owned; a read of I of a
line that is I or S changes no entry. PARKED_REPLAY admits the first ready parked request of its pipeline in the same way (R80, R81,
R93, R96 to R99, R102, R110). -/
def Sys2Proof.Claims.AdmittedRequestsActByTheirLine : Prop :=
  (∀ (d : Fin 64) (pipe : Fin 2) (dt : Nat) (m : Msg) (rest : List Msg) (x : Intent) (g : MetaVal) (w : Nat) (s : State),
    s.Serves d.val pipe.val dt m rest x → (s.slice d.val).lookup x m.mport m.addr true = .way w →
    (x, (s.dirEntry d.val (homeSet m.mport m.addr) w).line (lineOf m.addr), g) ∈
      ([(.sRead, .i, .s), (.sRead, .s, .s), (.eRead, .i, .a)] : List (Intent × LineState × MetaVal)) →
    (s.slice d.val).wipHas m.mport m.addr = false →
    ∃ t, exec (.coherentRequest d pipe dt []) s = .next t ∧
      t.dirEntry d.val (homeSet m.mport m.addr) w =
        { ((s.dirEntry d.val (homeSet m.mport m.addr) w).record m.feid).setLine (lineOf m.addr) .pending with
          otc := (s.dirEntry d.val (homeSet m.mport m.addr) w).otc + 1 } ∧
      EntriesBut s t d.val (homeSet m.mport m.addr) w ∧
      Sends s t (epSlice d.val) { m.fromReq d.val with body := .memRead g, dsts := [m.mport], cls := 4, poison := false } ∧
      t.mem = s.mem) ∧
  (∀ (d : Fin 64) (pipe : Fin 2) (dt : Nat) (m : Msg) (rest : List Msg) (x : Intent) (k : Snp) (w : Nat) (ts : List Nat)
      (s : State),
    s.Serves d.val pipe.val dt m rest x → (s.slice d.val).lookup x m.mport m.addr true = .way w →
    x.snoop ((s.dirEntry d.val (homeSet m.mport m.addr) w).line (lineOf m.addr)) = some k →
    ts = (s.sharers (s.dirEntry d.val (homeSet m.mport m.addr) w)).filter (fun f => f != m.feid) → ts ≠ [] →
    (∀ f ∈ ts, (s.agentPort f).isSome = true) →
    ∃ t v, exec (.coherentRequest d pipe dt []) s = .next t ∧
      (t.dirEntry d.val (homeSet m.mport m.addr) w).line (lineOf m.addr) = .pending ∧
      (t.dirEntry d.val (homeSet m.mport m.addr) w).otc = (s.dirEntry d.val (homeSet m.mport m.addr) w).otc + 1 ∧
      EntriesBut s t d.val (homeSet m.mport m.addr) w ∧
      (∃ y ∈ (t.slice d.val).txns, y.req = m ∧ y.kind = .request x ∧ y.snp = k ∧ y.awaiting = ts) ∧
      Sends s t (epSlice d.val) v ∧ v.body = .snoop k ∧ v.agents = ts ∧ v.crew = m.crew ∧ v.mport = m.mport ∧ v.addr = m.addr ∧
      t.mem = s.mem) ∧
  (∀ (d : Fin 64) (pipe : Fin 2) (dt : Nat) (m : Msg) (rest : List Msg) (w : Nat) (s : State),
    s.Serves d.val pipe.val dt m rest .eOwn → (s.slice d.val).lookup .eOwn m.mport m.addr true = .way w →
    (s.dirEntry d.val (homeSet m.mport m.addr) w).line (lineOf m.addr) = .i → (s.slice d.val).wipHas m.mport m.addr = false →
    ∃ t, exec (.coherentRequest d pipe dt []) s = .next t ∧
      (t.dirEntry d.val (homeSet m.mport m.addr) w).line (lineOf m.addr) = .e ∧
      (t.dirEntry d.val (homeSet m.mport m.addr) w).otc = (s.dirEntry d.val (homeSet m.mport m.addr) w).otc ∧
      EntriesBut s t d.val (homeSet m.mport m.addr) w ∧
      Sends s t (epSlice d.val) { m.fromReq d.val with body := .cmp .a, dsts := [m.port], cls := 3, poison := false } ∧
      t.mem = s.mem) ∧
  (∀ (d : Fin 64) (pipe : Fin 2) (dt : Nat) (m : Msg) (rest : List Msg) (s : State),
    s.Serves d.val pipe.val dt m rest .iRead →
    ((s.slice d.val).lookup .iRead m.mport m.addr true = .none ∨
      ∃ w, (s.slice d.val).lookup .iRead m.mport m.addr true = .way w ∧
        (s.dirEntry d.val (homeSet m.mport m.addr) w).line (lineOf m.addr) ∈ [LineState.i, .s]) →
    (s.slice d.val).wipHas m.mport m.addr = false →
    ∃ t, exec (.coherentRequest d pipe dt []) s = .next t ∧ (∀ a b, t.dirEntry d.val a b = s.dirEntry d.val a b) ∧
      Sends s t (epSlice d.val) { m.fromReq d.val with body := .memRead .i, dsts := [m.mport], cls := 4, poison := false } ∧
      t.mem = s.mem) ∧
  (∀ (d : Fin 64) (pipe : Fin 2) (dt : Nat) (r : Parked) (x : Intent) (g : MetaVal) (w : Nat) (s : State),
    s.slotFree d.val pipe.val dt → r.req.port < 256 → (s.slice d.val).retry.find? (fun r => r.ready && r.pipe == pipe.val) = some r → r.req.body = .cohReq x →
    s.fencedAt d.val r.req.crew = false → (s.slice d.val).lookup x r.req.mport r.req.addr false = .way w →
    (x, (s.dirEntry d.val (homeSet r.req.mport r.req.addr) w).line (lineOf r.req.addr), g) ∈
      ([(.sRead, .i, .s), (.sRead, .s, .s), (.eRead, .i, .a)] : List (Intent × LineState × MetaVal)) →
    (s.slice d.val).wipHas r.req.mport r.req.addr = false →
    ∃ t, exec (.parkedReplay d pipe dt []) s = .next t ∧
      (t.dirEntry d.val (homeSet r.req.mport r.req.addr) w).line (lineOf r.req.addr) = .pending ∧
      (t.slice d.val).retry.map (·.req) =
        ((s.slice d.val).retry.filter (fun y => !(y.req.port == r.req.port && y.req.tag == r.req.tag))).map (·.req) ∧
      Sends s t (epSlice d.val) { r.req.fromReq d.val with body := .memRead g, dsts := [r.req.mport], cls := 4, poison := false } ∧
      t.mem = s.mem) ∧
  (∀ (e : DirEntry) (f : Nat), f < 4096 →
    ((e.record f).shm = false → f ∈ (e.record f).exact) ∧ ((e.record f).shm = true → (e.record f).shr.getLsbD (f / 64) = true))

/-- A request that finds no entry and needs one takes an invalid way: the entry is its crew's alone and names the requester, and the
crew has one entry more (R83). One that meets a conflict is answered with a NACK in a small crew, and parked in a large one, each
counted, with no entry changed (R65, R106, R110, R119). -/
def Sys2Proof.Claims.RequestsAllocateOrConflict : Prop :=
  (∀ (d : Fin 64) (pipe : Fin 2) (dt : Nat) (m : Msg) (rest : List Msg) (x : Intent) (w : Nat) (s : State),
    s.Serves d.val pipe.val dt m rest x → x ∈ [Intent.sRead, .eRead] →
    (s.slice d.val).lookup x m.mport m.addr true = .alloc w → (s.dirEntry d.val (homeSet m.mport m.addr) w).v = false →
    (s.slice d.val).wipHas m.mport m.addr = false →
    ∃ t, exec (.coherentRequest d pipe dt []) s = .next t ∧
      t.dirEntry d.val (homeSet m.mport m.addr) w =
        { (({ v := true, tag := homeTag m.mport m.addr, crew := m.crew } : DirEntry).record m.feid).setLine (lineOf m.addr)
            .pending with otc := 1 } ∧
      EntriesBut s t d.val (homeSet m.mport m.addr) w ∧
      t.fld CRW_ENT_CNT.CNT m.crew = (s.fld CRW_ENT_CNT.CNT m.crew + 1) % 2 ^ 22 ∧ t.mem = s.mem) ∧
  (∀ (d : Fin 64) (pipe : Fin 2) (dt : Nat) (m : Msg) (rest : List Msg) (x : Intent) (c : ParkWait) (s : State),
    s.Serves d.val pipe.val dt m rest x → (s.slice d.val).lookup x m.mport m.addr true = .conflict c none false →
    ∃ t, exec (.coherentRequest d pipe dt []) s = .next t ∧ (∀ a b, t.dirEntry d.val a b = s.dirEntry d.val a b) ∧ t.mem = s.mem ∧
      (s.large m.crew = false → (t.slice d.val).retry = (s.slice d.val).retry ∧
        Sends s t (epSlice d.val) { m.fromReq d.val with body := .nack, dsts := [m.port], cls := 3, poison := false } ∧
        t.fld DIR_NACK_CNT.CNT d.val = (s.fld DIR_NACK_CNT.CNT d.val + 1) % 2 ^ 64) ∧
      (s.large m.crew = true → (t.slice d.val).retry = (s.slice d.val).retry ++
          [{ req := m, pipe := pipeOf (homeSet m.mport m.addr), wait := c }] ∧
        Sends s t (epSlice d.val) { m.fromReq d.val with body := .parkNotice, dsts := [m.port], cls := 3, poison := false } ∧
        t.fld DIR_PARK_CNT.CNT d.val = (s.fld DIR_PARK_CNT.CNT d.val + 1) % 2 ^ 64))

/-- WRITEBACK of a recorded agent of an E-owned line: the line takes the state that the writeback keeps, its entry is freed with its last
line, and its memory write takes a write-in-progress entry; of an agent that the entry does not name, or without an entry, it is stray:
counted, reported, and answered with Cmp (R83, R102, R103). SNOOP_ANSWER that is the last one issues the read that waits for it; one
that is not keeps the others awaited (R96, R101). COMPLETION_NOTICE of a read closes its transaction, the line S or E-owned; that of a
write frees its write-in-progress entry (R98, R102). -/
def Sys2Proof.Claims.SlicesTakeWritebacksAndAnswers : Prop :=
  (∀ (d : Fin 64) (pipe : Fin 2) (dt : Nat) (m : Msg) (u s : State) (v : MetaVal) (w : Nat) (e : DirEntry),
    (s.modSlice d.val (fun q => q.cycle dt)).takeLane d.val pipe.val (fun m => m.body.isWriteback) = some (m, u) → m.body = .writeback v → m.poison = false →
    (s.slice d.val).fenced.contains m.crew = false → s.wayOf d.val m.mport m.addr = some w →
    e = s.dirEntry d.val (homeSet m.mport m.addr) w → (s.sharers e).contains m.feid = true → e.line (lineOf m.addr) = .e →
    ∃ t c, exec (.writeback d pipe dt) s = .next t ∧
      ((e.setLine (lineOf m.addr) v.lineAfter).lst ≠ 0 ∨ e.otc ≠ 0 →
        t.dirEntry d.val (homeSet m.mport m.addr) w = e.setLine (lineOf m.addr) v.lineAfter) ∧
      ((e.setLine (lineOf m.addr) v.lineAfter).lst = 0 → e.otc = 0 → (t.dirEntry d.val (homeSet m.mport m.addr) w).v = false) ∧
      (t.slice d.val).wip = (s.slice d.val).wip ++ [⟨m.mport, m.addr, pipeOf (homeSet m.mport m.addr)⟩] ∧
      Sends s t (epSlice d.val) c ∧ c.body = .memWrite ∧ c.dsts = [m.mport] ∧ c.addr = m.addr ∧ t.mem = s.mem) ∧
  (∀ (d : Fin 64) (pipe : Fin 2) (dt : Nat) (m : Msg) (u s : State) (v : MetaVal),
    (s.modSlice d.val (fun q => q.cycle dt)).takeLane d.val pipe.val (fun m => m.body.isWriteback) = some (m, u) → m.body = .writeback v →
    (s.slice d.val).fenced.contains m.crew = false →
    (∀ w, s.wayOf d.val m.mport m.addr = some w →
      (s.sharers (s.dirEntry d.val (homeSet m.mport m.addr) w)).contains m.feid = false) →
    ∃ t, exec (.writeback d pipe dt) s = .next t ∧ (∀ a b, t.dirEntry d.val a b = s.dirEntry d.val a b) ∧
      (t.slice d.val).wip = (s.slice d.val).wip ∧
      t.fld DIR_STRAY_CNT.CNT d.val = min 0xFFFFFFFF (s.fld DIR_STRAY_CNT.CNT d.val + 1) ∧
      t.flt.reports = s.flt.reports ++ [slotSlice d.val] ∧
      Sends s t (epSlice d.val) { m.fromReq d.val with body := .cmp .i, dsts := [m.port], cls := 3, poison := false } ∧
      t.mem = s.mem) ∧
  (∀ (d : Fin 64) (pipe : Fin 2) (dt : Nat) (m : Msg) (u s : State) (x : Txn) (rest : List Txn) (g : MetaVal),
    (s.modSlice d.val (fun q => q.cycle dt)).takeLane d.val pipe.val (fun m => m.body.snoopAns.isSome) = some (m, u) →
    takeFirst (fun (t : Txn) => t.mport == m.mport && t.addr / 64 == m.addr / 64 && t.awaiting.contains m.feid)
      (s.slice d.val).txns = some (x, rest) →
    (x.awaiting.erase m.feid ≠ [] → ∃ t, exec (.snoopAnswer d pipe dt) s = .next t ∧
      (∃ y ∈ (t.slice d.val).txns, y.awaiting = x.awaiting.erase m.feid ∧ y.addr = x.addr ∧ y.mport = x.mport) ∧
      t.core = s.core ∧ t.regs = s.regs ∧ t.mem = s.mem) ∧
    (x.awaiting.erase m.feid = [] → (x.kind, g) ∈ ([(.request .eRead, .a), (.request .sRead, .s)] : List (TxnKind × MetaVal)) →
      (s.slice d.val).wipHas x.mport x.addr = false → ∃ t, exec (.snoopAnswer d pipe dt) s = .next t ∧
        Sends s t (epSlice d.val) { x.req.fromReq d.val with body := .memRead g, dsts := [x.req.mport], cls := 4, poison := false } ∧
        (∃ y ∈ (t.slice d.val).txns, y.req = x.req ∧ y.stage = .issued ∧ y.awaiting = []) ∧ t.regs = s.regs ∧ t.mem = s.mem)) ∧
  (∀ (d : Fin 64) (m : Msg) (rest : List Msg) (x : Txn) (r : List Txn) (l : LineState) (s : State),
    takeFirst (fun (m : Msg) => match m.body with
      | .notice _ => true
      | _ => false) (s.slice d.val).noticeIn = some (m, rest) → m.body = .notice false →
    takeFirst (fun (t : Txn) => t.stage == .issued && t.kind != .evict && t.req.port == m.port && t.req.tag == m.tag)
      (s.slice d.val).txns = some (x, r) → x.counted = true →
    (s.dirEntry d.val x.set x.way).v = true → (s.dirEntry d.val x.set x.way).tag = homeTag x.mport x.addr →
    (x.kind, l) ∈ ([(.request .eRead, .e), (.request .sRead, .s)] : List (TxnKind × LineState)) →
    ∃ t, exec (.completionNotice d) s = .next t ∧ (t.slice d.val).txns = r ∧
      t.dirEntry d.val x.set x.way = { (s.dirEntry d.val x.set x.way).setLine (lineOf x.addr) l with
        otc := (s.dirEntry d.val x.set x.way).otc - 1 } ∧ EntriesBut s t d.val x.set x.way ∧ t.regs = s.regs ∧ t.mem = s.mem) ∧
  (∀ (d : Fin 64) (m : Msg) (rest : List Msg) (x : WipEntry) (r : List WipEntry) (s : State),
    takeFirst (fun (m : Msg) => match m.body with
      | .notice _ => true
      | _ => false) (s.slice d.val).noticeIn = some (m, rest) → m.body = .notice true →
    takeFirst (fun (w : WipEntry) => w.mport == m.mport && w.addr / 64 == m.addr / 64) (s.slice d.val).wip = some (x, r) →
    (s.slice d.val).txns.any (fun t => t.stage == .waitWip || t.stage == .waitRoom) = false →
    ∃ t, exec (.completionNotice d) s = .next t ∧ (t.slice d.val).wip = r ∧
      (∀ a b, t.dirEntry d.val a b = s.dirEntry d.val a b) ∧ t.regs = s.regs ∧ t.mem = s.mem)

/-- EVICTION_COMPLETE of an eviction whose lines are all done frees the way, counts one eviction, wrapping, and wakes what is parked on the
set (R86, R110). -/
def Sys2Proof.Claims.EvictionsFreeTheWay : Prop :=
  ∀ (d : Fin 64) (set : Fin 2048) (way : Fin 16) (s : State),
    (s.slice d.val).evicts.any (fun e => e.set == set.val && e.way == way.val) = true →
    (s.slice d.val).evictDone set.val way.val = true →
    ∃ t, exec (.evictionComplete d set way) s = .next t ∧
      t.fld DIR_EVICT_CNT.CNT d.val = (s.fld DIR_EVICT_CNT.CNT d.val + 1) % 2 ^ 64 ∧
      (t.dirEntry d.val set.val way.val).v = false ∧
      (t.slice d.val).evicts.any (fun e => e.set == set.val && e.way == way.val) = false ∧ t.mem = s.mem

/-- The parts AdmittedRequestsActByTheirLine, RequestsAllocateOrConflict, SlicesTakeWritebacksAndAnswers and EvictionsFreeTheWay together. -/
def Obligations.SlicesServeAndEvict : Prop :=
  Sys2Proof.Claims.AdmittedRequestsActByTheirLine ∧
  Sys2Proof.Claims.RequestsAllocateOrConflict ∧
  Sys2Proof.Claims.SlicesTakeWritebacksAndAnswers ∧
  Sys2Proof.Claims.EvictionsFreeTheWay

/-- FENCE_NOTICE_AT_SLICE starts the purge walks of the crew; PURGE_SLOT advances a pipeline's walk by one set and frees the ways of the
crews that it serves there (R88, R115). -/
def Sys2Proof.Claims.PurgesWalkTheSets : Prop :=
  (∀ (d : Fin 64) (m : Msg) (rest : List Msg) (s : State),
    takeFirst (fun (m : Msg) => m.body == .fence) (s.slice d.val).noticeIn = some (m, rest) →
    exec (.fenceNoticeAtSlice d) s = .next (s.modSlice d.val (fun q => ({ q with noticeIn := rest }).fence m.crew))) ∧
  (∀ (d : Fin 64) (pipe : Fin 2) (dt : Nat) (s : State), s.slotFree d.val pipe.val dt →
    ((s.slice d.val).walk pipe.val).crews.any (fun c => decide (1 < c.2)) = true →
    ∃ t, exec (.purgeSlot d pipe dt []) s = .next t ∧
      ((t.slice d.val).walk pipe.val).pos = (((s.slice d.val).walk pipe.val).pos + 1) % pipeSets ∧
      (∀ w, w < 16 → (s.dirEntry d.val (2 * ((s.slice d.val).walk pipe.val).pos + pipe.val) w).v = true →
        ((s.slice d.val).walk pipe.val).crews.any (fun c => c.1 ==
          (s.dirEntry d.val (2 * ((s.slice d.val).walk pipe.val).pos + pipe.val) w).crew) = true →
        (t.dirEntry d.val (2 * ((s.slice d.val).walk pipe.val).pos + pipe.val) w).v = false) ∧ t.mem = s.mem)

/-- SCAN_SLOT of a counting SCAN adds the selected entries of its set to the count and leaves the pipeline one set fewer; SCAN_COMPLETE ends
the first SCAN, with 1 where its crew is Fencing or Fenced, else with 0 once every pipeline has none left (R350). -/
def Sys2Proof.Claims.ScansCountTheSets : Prop :=
  (∀ (d : Fin 64) (pipe : Fin 2) (dt : Nat) (c : Scan) (rest : List Scan) (s u : State), s.eng.scans = c :: rest →
    c.flush = false → 0 < c.leftIn d.val pipe.val → s.crewFenced c.crew = false → s.slotFree d.val pipe.val dt →
    u = s.takesSlot d.val pipe.val dt →
    exec (.scanSlot d pipe dt []) s = .next (((u.scanCount ((List.range 16).filter (fun w =>
      u.selected c (u.dirEntry d.val (2 * (pipeSets - c.leftIn d.val pipe.val) + pipe.val) w)
        (2 * (pipeSets - c.leftIn d.val pipe.val) + pipe.val))).length).setScanLeft d.val pipe.val
          (c.leftIn d.val pipe.val - 1)).slot d.val 1)) ∧
  (∀ (c : Scan) (rest : List Scan) (s : State), s.eng.scans = c :: rest →
    (s.crewFenced c.crew = true → exec .scanComplete s = .next (s.endScan c 1)) ∧
    (s.crewFenced c.crew = false → (∀ d, d < 64 → c.leftIn d 0 = 0 ∧ c.leftIn d 1 = 0) → c.flush = false →
      exec .scanComplete s = .next (s.endScan c 0)))

/-- The parts PurgesWalkTheSets and ScansCountTheSets together. -/
def Obligations.PurgesAndScansWalkTheSets : Prop :=
  Sys2Proof.Claims.PurgesWalkTheSets ∧ Sys2Proof.Claims.ScansCountTheSets

/-! Seats, the loader, stops of functions (spec/12) -/

/-- SEAT_START from another requester, outside the safe state: an Idle, Halted or Trapped seat, or seat 0 Halted, is Ready at the
address given, with DZ and UE 0; its registers are 0 from Idle and kept from Halted and Trapped (R306, R313, R327). -/
def Sys2Proof.Claims.SeatStartReadiesTheSeat : Prop :=
  ∀ (who : Requester) (n : Fin 16) (pc : Fin 65536) (s : State), s.Writes who ⟨.ICF_SEAT_CMD, n.val, 0⟩ → who ≠ .seat n.val →
    s.safe = false → (s.seatState n.val = seatHalted ∨
      (n.val ≠ 0 ∧ (s.seatState n.val = seatIdle ∨ s.seatState n.val = seatTrapped))) →
    ∃ t, exec (.seatStart who n pc) s = .next t ∧ t.seatState n.val = seatReady ∧ (t.seat n.val).pc = 8 * pc.val ∧
      (t.seat n.val).dz = false ∧ (t.seat n.val).ue = false ∧
      (∀ r, t.greg n.val r = if s.seatState n.val = seatIdle then 0 else s.greg n.val r) ∧
      (∀ m, m ≠ n.val → t.seat m = s.seat m) ∧ t.mem = s.mem ∧
      RegsBut s t (fun k => k.r = .ICF_SEAT_STS ∧ k.i = n.val)

/-- SEAT_STOP from another requester makes a seat of 1 to 15 Idle, its registers 0, waiting in nothing (R306, R327). -/
def Sys2Proof.Claims.SeatStopIdlesTheSeat : Prop :=
  ∀ (who : Requester) (n : Fin 16) (s : State), s.Writes who ⟨.ICF_SEAT_CMD, n.val, 0⟩ → who ≠ .seat n.val → n.val ≠ 0 →
    s.seatState n.val ≠ seatIdle →
    ∃ t, exec (.seatStop who n) s = .next t ∧ t.seatState n.val = seatIdle ∧ (∀ r, t.greg n.val r = 0) ∧
      (t.seat n.val).wait = none ∧ (∀ m, m ≠ n.val → t.seat m = s.seat m) ∧ t.mem = s.mem ∧
      RegsBut s t (fun k => k.r = .ICF_SEAT_STS ∧ k.i = n.val)

/-- INTRAP_CLEAR clears seat 0's INTRAP, and nothing else of its status (R314, R326). -/
def Sys2Proof.Claims.IntrapClears : Prop :=
  ∀ s : State, s.Writes (.seat 0) ⟨.ICF_SEAT_STS, 0, 0⟩ →
    ∃ t, exec .intrapClear s = .next t ∧ t.flag ICF_SEAT_STS.INTRAP 0 = false ∧
      (∀ f ∈ [ICF_SEAT_STS.STATE, ICF_SEAT_STS.CAUSE, ICF_SEAT_STS.EPC], t.fld f 0 = s.fld f 0) ∧
      (∀ n, t.seat n = s.seat n) ∧ t.mem = s.mem ∧ RegsBut s t (fun k => k = ⟨.ICF_SEAT_STS, 0, 0⟩)

/-- IMAGE_LOAD outside the safe state, where no load runs: the loader is busy with the image at the source line; it goes by the keys and
the minimum version now in force, and for a user image by whether the secure region is locked (R312, R330, R365, R522, R523). -/
def Sys2Proof.Claims.ImageLoadStarts : Prop :=
  ∀ (who : Requester) (user : Bool) (src : Fin 512) (dst : Fin 128) (s : State), s.Writes who ⟨.ICF_LOAD_CTL, 0, 0⟩ →
    s.safe = false → s.flag ICF_LOAD_STS.BUSY = false →
    ∃ t, exec (.imageLoad who user src dst) s = .next t ∧ t.flag ICF_LOAD_STS.BUSY = true ∧
      t.eng.load = some { kind := bit user, src := 4096 * src.val, dst := 4096 * dst.val,
                          lockRefused := user && s.flag SPD_SEC_LOCK.LOCK, keys := s.acceptedKeys user,
                          least := if user then s.chip.userMin else s.chip.fwMin } ∧
      t.eng.store = s.eng.store ∧ t.mem = s.mem ∧ RegsBut s t (fun k => k.r = .ICF_LOAD_CTL ∨ k.r = .ICF_LOAD_STS)

/-- IMAGE_LOAD_DONE: an image that passes the early checks is read and hashed; one that passes the late checks too is written to its
destination, with a firmware image's trap vector taken, and one that fails a late check leaves zeros there; RESULT is the late
checks' code. An image that an early check refuses leaves the store as it was, and RESULT is that check's code (R312). -/
def Sys2Proof.Claims.ImageLoadEnds : Prop :=
  (∀ (l : LoadSt) (s : State), s.eng.load = some l → s.wipeBlocks l.src (256 + s.imageLen l.src) = false →
    s.earlyResult l = 0 →
    ∃ t, exec (.imageLoadDone false) s = .next t ∧ t.eng.load = none ∧
      t.fld ICF_LOAD_STS.RESULT = s.lateResult l false ∧
      t.flag ICF_LOAD_STS.BUSY = false ∧ t.flag ICF_LOAD_STS.DONE = true ∧ t.mem = s.mem ∧
      (∀ k, k < s.imageLen l.src / 8 → t.instr (l.dst / 8 + k) =
        if s.lateResult l false = 0 then wordOf (s.load (l.src + 256 + 8 * k) 8) else 0) ∧
      (∀ k, k < l.dst / 8 ∨ l.dst / 8 + s.imageLen l.src / 8 ≤ k → t.instr k = s.instr k) ∧
      (t.rd ⟨.ICF_TVEC, 0, 0⟩ = if s.lateResult l false = 0 ∧ l.kind = 0 then
        wordOf (l.dst + s.hdr l.src 20 4) &&& 0x7FFF8 else s.rd ⟨.ICF_TVEC, 0, 0⟩)) ∧
  (∀ (l : LoadSt) (s : State), s.eng.load = some l → s.wipeBlocks l.src (256 + s.imageLen l.src) = false →
    s.earlyResult l ≠ 0 →
    ∃ t, exec (.imageLoadDone false) s = .next t ∧ t.eng.load = none ∧ t.fld ICF_LOAD_STS.RESULT = s.earlyResult l ∧
      t.flag ICF_LOAD_STS.BUSY = false ∧ t.eng.store = s.eng.store ∧ t.mem = s.mem)

/-- STOPF_COMPLETE of a drained Stopping function that no port control command restarts: it is Stopped, nobody waits for it any more, and
no byte of the scratchpad changes (R321). -/
def Sys2Proof.Claims.StopsEnd : Prop :=
  ∀ (f : Fin 65536) (np : Bool) (s : State), (s.fn f.val).run = .stopping → s.drained f.val np = true →
    (s.fn f.val).restart = false →
    ∃ t, exec (.stopfComplete f np) s = .next t ∧ (t.fn f.val).run = .stopped ∧ (t.fn f.val).waiters = [] ∧ t.mem = s.mem

/-- The parts SeatStartReadiesTheSeat, SeatStopIdlesTheSeat, IntrapClears, ImageLoadStarts, ImageLoadEnds and StopsEnd together. -/
def Obligations.SeatsAndTheLoader : Prop :=
  Sys2Proof.Claims.SeatStartReadiesTheSeat ∧
  Sys2Proof.Claims.SeatStopIdlesTheSeat ∧
  Sys2Proof.Claims.IntrapClears ∧
  Sys2Proof.Claims.ImageLoadStarts ∧
  Sys2Proof.Claims.ImageLoadEnds ∧
  Sys2Proof.Claims.StopsEnd

/-! DMA (spec/13 R353 to R356, spec/16 R412, R413) -/

/-- DMA of a valid descriptor on an engine that is free: RD takes 0, and the engine begins the transfer (R353, R354). v is the state
of the dispatch. -/
def Sys2Proof.Claims.DmaBegins : Prop :=
  ∀ (d : Disp) (s : State), s.Issues (.dma d) d (d.rs2 == 0 && d.rs3 == 0 && decide (d.imm.toNat < 4)) →
    (2 ≤ d.imm.toNat ∨ s.priv d.seat.val = true) → (s.src1 d).toNat % 32 = 0 → (s.src1 d).toNat + 32 ≤ memSize →
    s.wipeBlocks (s.src1 d).toNat 32 = false → s.refusal (.seat d.seat.val) false .read (s.src1 d).toNat 32 = none → d.spad = .ok →
    let x := descOf (s.load (s.src1 d).toNat 32)
    let v := (s.atDispatch d).cost d.seat.val 4
    s.flag ICF_DMA_STS.BUSY d.imm.toNat = false → s.descOk x.1 x.2 = true →
    (s.priv d.seat.val = true ∨ (x.1.skind ≠ 2 ∧ x.1.dkind ≠ 2)) → (s.dma d.imm.toNat).paused = none →
    exec (.dma d) s = .next (((v.dmaBegin d.imm.toNat x.1).setGreg d.seat.val d.rd.val 0).advancePc d.seat.val) ∧
    (x.1.skind ≠ 2 → x.1.dkind ≠ 2 → ∃ t, exec (.dma d) s = .next t ∧ (t.dma d.imm.toNat).desc = some x.1 ∧
      t.flag ICF_DMA_STS.BUSY d.imm.toNat = true ∧ t.fld ICF_DMA_CNT.BYTES d.imm.toNat = 0 ∧
      (t.seat d.seat.val).pc = (s.seat d.seat.val).pc + 8 ∧ WritesReg s t d.seat.val d.rd.val 0 ∧ t.mem = s.mem ∧ t.out = s.out)

/-- DMA_DONE of a fill of the scratchpad with the pattern of its descriptor, of at most 16 bytes and refused by no unit: the bytes stand
at the destination and no other byte changes; the engine is free, with status 0 and the bytes counted. A transfer from host memory
whose reads have all been answered ends with status 0 (R353, R355). -/
def Sys2Proof.Claims.DmaEnds : Prop :=
  (∀ (e : Fin 4) (d : Desc) (s : State), (s.dma e.val).desc = some d → d.skind = 3 → d.dkind = 0 → 0 < d.len → d.len ≤ 16 →
    d.daddr + d.len ≤ memSize → s.wipeBlocks d.daddr d.len = false → s.refusal (.dma e.val) false .write d.daddr d.len = none →
    ∃ t, exec (.dmaDone e {}) s = .next t ∧ (∀ i, i < d.len → t.byte (d.daddr + i) = byteOf d.pattern (i % 8)) ∧
      (∀ b, b < d.daddr ∨ d.daddr + d.len ≤ b → t.byte b = s.byte b) ∧ (t.dma e.val).desc = none ∧
      t.flag ICF_DMA_STS.BUSY e.val = false ∧ t.fld ICF_DMA_STS.LAST e.val = 0 ∧ t.fld ICF_DMA_CNT.BYTES e.val = d.len) ∧
  (∀ (e : Fin 4) (d : Desc) (obs : DmaObs) (s : State), (s.dma e.val).desc = some d → d.skind = 2 → (s.dma e.val).reads = [] →
    d.len ≤ (s.dma e.val).next → exec (.dmaDone e obs) s = .next (s.dmaEnd e.val 0))

/-- DMA_READ_COMPLETION: an error status ends the descriptor with status 4, and the engine's other open reads will come late; a late
answer is logged and counted. DMA_COMPLETION_TIMEOUT ends it with status 3 and counts in HSF_CTO_CNT (R413, R418). -/
def Sys2Proof.Claims.DmaReadsEnd : Prop :=
  (∀ (p : Fin 256) (e : Fin 4) (d : Desc) (o n : Nat) (rest : List (Nat × Nat)) (obs : DmaObs) (s : State),
    (s.dma e.val).desc = some d → (s.dma e.val).reads = (o, n) :: rest → d.hport = p.val → d.skind = 2 → s.dmaWaits e.val d = false →
    ∃ t, exec (.dmaReadCompletion p (some e) .error false obs) s = .next t ∧ (t.dma e.val).desc = none ∧
      t.fld ICF_DMA_STS.LAST e.val = 4 ∧ t.flag ICF_DMA_STS.BUSY e.val = false ∧ t.mem = s.mem ∧
      (t.hsf p.val).late = (s.hsf p.val).late ++ rest.map (fun r => d.saddr + r.1)) ∧
  (∀ (p : Fin 256) (a : Nat) (rest : List Nat) (c : DmaCpl) (obs : DmaObs) (s : State), (s.hsf p.val).late = a :: rest →
    ∃ t, exec (.dmaReadCompletion p none c false obs) s = .next t ∧ (t.hsf p.val).late = rest ∧ t.mem = s.mem ∧
      t.fld PMC_LATE.CNT (octetOf p.val) = min 0xFFFFFFFF (s.fld PMC_LATE.CNT (octetOf p.val) + 1)) ∧
  (∀ (e : Fin 4) (d : Desc) (o n : Nat) (rest : List (Nat × Nat)) (s : State),
    (s.dma e.val).desc = some d → (s.dma e.val).reads = (o, n) :: rest →
    ∃ t, exec (.dmaCompletionTimeout e) s = .next t ∧ (t.dma e.val).desc = none ∧ t.fld ICF_DMA_STS.LAST e.val = 3 ∧
      t.fld HSF_CTO_CNT.CNT d.hport = min 0xFFFFFFFF (s.fld HSF_CTO_CNT.CNT d.hport + 1) ∧ t.mem = s.mem)

/-- The parts DmaBegins, DmaEnds and DmaReadsEnd together. -/
def Obligations.DmaEnginesMove : Prop :=
  Sys2Proof.Claims.DmaBegins ∧ Sys2Proof.Claims.DmaEnds ∧ Sys2Proof.Claims.DmaReadsEnd

/-! The Host Service Function (spec/16) -/

/-- INITIATE_FLR, BUS_MASTER_ENABLE_CLEAR and D3HOT_ENTRY of a started host port's HSF out of an FLR: HSF_STS.FLR and FLR_SEEN are set;
Bus Master Enable reads 0 and BME_OFF is set; the power state reads D3hot. In each case no engine keeps a descriptor that names the
port (R404, R414, R415). -/
def Sys2Proof.Claims.HsfStopsItsEngines : Prop :=
  (∀ (p : Fin 256) (moved : List Nat) (s : State), s.hsfHere p.val = true → s.flr p.val = false →
    ∃ t, exec (.initiateFlr p moved) s = .next t ∧ t.flag HSF_STS.FLR p.val = true ∧ t.flag HSF_STS.FLR_SEEN p.val = true ∧
      t.enginesOf p.val = []) ∧
  (∀ (p : Fin 256) (moved : List Nat) (s : State), s.hsfHere p.val = true → s.flr p.val = false → s.bme p.val = true →
    ∃ t, exec (.busMasterEnableClear p moved) s = .next t ∧ t.bme p.val = false ∧ t.flag HSF_STS.BME_OFF p.val = true ∧
      t.enginesOf p.val = []) ∧
  (∀ (p : Fin 256) (moved : List Nat) (s : State), s.hsfHere p.val = true → s.flr p.val = false → s.d3hot p.val = false →
    ∃ t, exec (.d3hotEntry p moved) s = .next t ∧ t.d3hot p.val = true ∧ t.enginesOf p.val = [])

/-- FLR_TX_CUTOFF sends the TLPs that are in time and discards the others; FLR_ACK and FLR_TIMEOUT end the FLR, the timeout with
FLR_TMO set: FLR reads 0, the function's MSI-X table and pending bits are at reset (R414, R420). -/
def Sys2Proof.Claims.FlrEnds : Prop :=
  (∀ (p : Fin 256) (k : Nat) (s : State), s.flr p.val = true →
    ∃ t, exec (.flrTxCutoff p k) s = .next t ∧ t.out = s.out ++ ((s.hsf p.val).tx.take k).map (Out.hsf p.val) ∧
      (t.hsf p.val).tx = [] ∧ t.regs = s.regs ∧ t.mem = s.mem) ∧
  (∀ (who : Requester) (p : Fin 256) (s : State), s.Writes who ⟨.HSF_CMD, p.val, 0⟩ → s.fld PRT_CTL.ROLE p.val = 1 →
    s.flr p.val = true →
    ∃ t, exec (.flrAck who p) s = .next t ∧ t.flr p.val = false ∧ (t.hsf p.val).table = [] ∧ (t.hsf p.val).pba = [] ∧
      t.mem = s.mem) ∧
  (∀ (p : Fin 256) (s : State), s.flr p.val = true →
    ∃ t, exec (.flrTimeout p false) s = .next t ∧ t.flr p.val = false ∧ t.flag HSF_STS.FLR_TMO p.val = true ∧
      (t.hsf p.val).table = [] ∧ (t.hsf p.val).pba = [] ∧ t.mem = s.mem)

/-- DMA_RESUME frees the engines that the port's HSF paused. HSF_IRQ raises its vector: with MSI-X off it is dropped; where every
condition holds its message is handed to transmit; else it is pending. MSIX_PENDING_SEND sends a pending vector once they hold
(R411, R416). -/
def Sys2Proof.Claims.HsfVectorsAndResume : Prop :=
  (∀ (who : Requester) (p : Fin 256) (s : State), s.Writes who ⟨.HSF_CMD, p.val, 0⟩ → s.fld PRT_CTL.ROLE p.val = 1 →
    s.bme p.val = true → s.d3hot p.val = false →
    ∃ t, exec (.dmaResume who p) s = .next t ∧ t.mem = s.mem ∧
      ∀ e, e < 4 → (t.dma e).paused = if (s.dma e).paused = some p.val then none else (s.dma e).paused) ∧
  (∀ (who : Requester) (p : Fin 256) (v : Fin 64) (s : State), s.Writes who ⟨.HSF_CMD, p.val, 0⟩ → s.fld PRT_CTL.ROLE p.val = 1 →
    ∃ t, exec (.hsfIrq who p v) s = .next t ∧ t.mem = s.mem ∧
      (s.msixOn p.val = false → t.flag HSF_STS.IRQ_DROP p.val = true ∧ t.hsfs = s.hsfs) ∧
      (s.msixOn p.val = true → (s.hsf p.val).pba.contains v.val = false → s.vecClear p.val v.val = true →
        (t.hsf p.val).tx = [.msix ((s.hsf p.val).vec v.val 0 + 2 ^ 32 * ((s.hsf p.val).vec v.val 1)) ((s.hsf p.val).vec v.val 2)] ∧
        t.out = s.out ++ (s.hsf p.val).tx.map (Out.hsf p.val)) ∧
      (s.msixOn p.val = true → (s.hsf p.val).pba.contains v.val = false → s.vecClear p.val v.val = false →
        (t.hsf p.val).pba = (s.hsf p.val).pba ++ [v.val] ∧ t.out = s.out)) ∧
  (∀ (p : Fin 256) (v : Fin 64) (s : State), (s.hsf p.val).pba.contains v.val = true → s.vecClear p.val v.val = true →
    ∃ t, exec (.msixPendingSend p v) s = .next t ∧ (t.hsf p.val).pba = (s.hsf p.val).pba.filter (· != v.val) ∧
      (t.hsf p.val).tx = [.msix ((s.hsf p.val).vec v.val 0 + 2 ^ 32 * ((s.hsf p.val).vec v.val 1)) ((s.hsf p.val).vec v.val 2)] ∧
      t.out = s.out ++ (s.hsf p.val).tx.map (Out.hsf p.val) ∧ t.regs = s.regs ∧ t.mem = s.mem)

/-- The parts HsfStopsItsEngines, FlrEnds and HsfVectorsAndResume together. -/
def Obligations.HostFunctionsStopAndResume : Prop :=
  Sys2Proof.Claims.HsfStopsItsEngines ∧ Sys2Proof.Claims.FlrEnds ∧ Sys2Proof.Claims.HsfVectorsAndResume

/-- Requests of a host. BAR0_REQUEST of a manager's HSF that nothing stops is performed as one access of the management space.
BAR2_REQUEST of an accepted length and alignment is performed: a read is answered with its data. HOST_CONFIGURATION_WRITE of an HSF
out of an FLR is completed. MANAGER_MAILBOX_COMMAND at the manager's port posts event 0x51 (R309, R403, R408, R409). -/
def Obligations.HostRequestsArePerformed : Prop :=
  (∀ (p : Fin 256) (r : BarReq) (lost : Bool) (obs : WriteObs) (s : State), s.hsfHere p.val = true → (s.hsf p.val).mgr = true →
    s.barStopped p.val r = none → r.aligned = true → r.off < 0x4000000 → (r.op.reads = true → s.barWriteOpen p.val = false) →
    s.nocHeld (Requester.bar0 p.val).node (targetOf r.off) = false →
    (∀ o, windowOffset r.off = some o → s.wipeBlocks o r.op.len = false ∧
      s.refusal (.bar0 p.val) true (if r.op.reads then .read else .write) r.off r.op.len = none) →
    exec (.bar0Request p r lost obs) s = .next (s.barAccess p.val r lost obs)) ∧
  (∀ (p : Fin 256) (off n : Nat) (s : State), s.hsfHere p.val = true →
    s.barStopped p.val { off := off, op := .read n } = none → BarReq.bar2Ok { off := off, op := .read n } = true →
    ∃ t bs, exec (.bar2Request p { off := off, op := .read n }) s = .next t ∧ bs.length = n ∧ t = s.emit (.bar p.val (.data bs)) ∧
      (off < 0x400000 → bs = s.pageRead (s.pageSlice p.val (off / 0x1000)) (off % 0x1000) n)) ∧
  (∀ (p : Fin 256) (off : Nat) (bs : List Byte) (s : State), s.hsfHere p.val = true →
    s.barStopped p.val { off := off, op := .write bs } = none → BarReq.bar2Ok { off := off, op := .write bs } = true →
    off < 0x400000 →
    exec (.bar2Request p { off := off, op := .write bs }) s =
      .next (s.pageWrite (s.pageSlice p.val (off / 0x1000)) (off % 0x1000) bs)) ∧
  (∀ (p : Fin 256) (w : Fin 1024) (v : BitVec 32) (en : Fin 16) (moved : List Nat) (s : State), s.hsfHere p.val = true →
    s.flr p.val = false →
    exec (.hostConfigurationWrite p .hsf w v en moved) s =
      .next ((s.hsfConfig p.val (4 * w.val) v.toNat en moved).emit (.bar p.val .done))) ∧
  (∀ (p : Fin 256) (s : State), s.hsfHere p.val = true → (s.hsf p.val).mgr = true →
    ∃ t, exec (.managerMailboxCommand p) s = .next t ∧ t.mem = s.mem ∧
      (s.eng.evq.length + 8 < 1024 → t.eng.evq = s.eng.evq ++ [eventWord 0x51 3 p.val 0]) ∧
      RegsBut s t (fun k => k.r = .ICF_EVQ_CNT ∨ k.r = .ICF_EVQ_STS))

/-! Tenant slices (spec/17) -/

/-- SLICE_CREATE of a Free slice that nothing refuses makes it Created, its mailbox idle and its counters 0; SLICE_DELETE of a Created
slice that no map names makes it Free with its meters released (R426, R429, R432). -/
def Sys2Proof.Claims.SlicesAreMadeAndUnmade : Prop :=
  (∀ (who : Requester) (k : Fin 1024) (s : State), s.Writes who ⟨.SLC_CMD, k.val, 0⟩ → s.fld SLC_STS.STATE k.val = 0 →
    s.safe = false → s.createCause k.val = none →
    ∃ t, exec (.sliceCreate who k) s = .next t ∧ t.fld SLC_STS.STATE k.val = 1 ∧ t.rd ⟨.SLC_MB_STS, k.val, 0⟩ = 0 ∧
      (∀ j, j < 4 → t.rd ⟨.PMC_SCNT, k.val, j⟩ = 0) ∧ (t.fn (fidTenant k.val)).run = .stopped ∧
      t.claims k.val = s.namedMeters k.val ∧ t.mem = s.mem) ∧
  (∀ (who : Requester) (k : Fin 1024) (s : State), s.Writes who ⟨.SLC_CMD, k.val, 0⟩ → s.fld SLC_STS.STATE k.val = 1 →
    s.sliceMapped k.val = false →
    ∃ t, exec (.sliceDelete who k) s = .next t ∧ t.fld SLC_STS.STATE k.val = 0 ∧ t.claims k.val = [] ∧
      t.rd ⟨.SLC_MTR, k.val, 0⟩ = 0 ∧ t.rd ⟨.SLC_TM, k.val, 0⟩ = 0 ∧ (∀ j, t.rd ⟨.SLC_MB_CA, k.val, j⟩ = 0) ∧ t.mem = s.mem)

/-- DOORBELL at a created slice whose mailbox is not Busy: it is Busy with the tag, and a Running slice's event 0x52 is posted; at a
Busy one DB_LOST is set. COMMAND_AREA_WRITE stores its bytes unless the mailbox is Busy, when WLOCK is set. MAILBOX_DONE makes a Busy
mailbox Done and raises the slice's vector where IRQ asks for it (R433, R435). -/
def Sys2Proof.Claims.MailboxTakesCommands : Prop :=
  (∀ (k : Fin 1024) (tag : Fin 65536) (s : State), s.sliceMade k.val = true →
    (s.fld SLC_MB_STS.STATE k.val ≠ 1 → ∃ t, exec (.doorbell k tag) s = .next t ∧ t.fld SLC_MB_STS.STATE k.val = 1 ∧
      t.fld SLC_MB_STS.TAG k.val = tag.val ∧ t.flag SLC_MB_STS.DB_LOST k.val = false ∧ t.mem = s.mem ∧
      (s.fld SLC_STS.STATE k.val = 2 → s.eng.evq.length + 8 < 1024 →
        t.eng.evq = s.eng.evq ++ [eventWord 0x52 2 k.val 0]) ∧
      (s.fld SLC_STS.STATE k.val ≠ 2 → t.flag SLC_MB_STS.PEND k.val = true ∧ t.eng = s.eng)) ∧
    (s.fld SLC_MB_STS.STATE k.val = 1 → ∃ t, exec (.doorbell k tag) s = .next t ∧ t.flag SLC_MB_STS.DB_LOST k.val = true ∧
      t.fld SLC_MB_STS.TAG k.val = s.fld SLC_MB_STS.TAG k.val ∧ t.mem = s.mem)) ∧
  (∀ (k : Fin 1024) (off : Fin 256) (b : Byte) (s : State), s.sliceMade k.val = true → s.fld SLC_MB_STS.STATE k.val ≠ 1 →
    ∃ t, exec (.commandAreaWrite k off [b]) s = .next t ∧
      byteOf (t.rd ⟨.SLC_MB_CA, k.val, off.val / 4⟩) (off.val % 4) = b ∧
      RegsBut s t (fun x => x = ⟨.SLC_MB_CA, k.val, off.val / 4⟩) ∧ t.mem = s.mem) ∧
  (∀ (k : Fin 1024) (off : Fin 256) (bs : List Byte) (s : State), s.sliceMade k.val = true → s.fld SLC_MB_STS.STATE k.val = 1 →
    exec (.commandAreaWrite k off bs) s = .next (s.setFld SLC_MB_STS.WLOCK 1 k.val)) ∧
  (∀ (who : Requester) (k : Fin 1024) (s : State), s.Writes who ⟨.SLC_MB_DONE, k.val, 0⟩ → s.fld SLC_MB_STS.STATE k.val = 1 →
    s.flr (s.fld SLC_CTL.HPORT k.val) = false →
    exec (.mailboxDone who k false) s = .next (s.setFld SLC_MB_STS.STATE 2 k.val) ∧
    exec (.mailboxDone who k true) s = .next ((s.setFld SLC_MB_STS.STATE 2 k.val).raise (s.fld SLC_CTL.HPORT k.val)
      (s.fld SLC_TM.VEC k.val)))

/-! The memory device's mailbox and the fabric manager (spec/09 R242 to R244, R250) -/

/-- A mailbox command of a host port whose link is up is answered: with Success and its data, or with Unsupported for a command outside
R242's list. CLEAR_EVENT_RECORDS of the Dynamic Capacity log drops the oldest records, SET_EVENT_INTERRUPT_POLICY and SET_TIMESTAMP
store their operand (R242, R243). -/
def Sys2Proof.Claims.MailboxAnswers : Prop :=
  (∀ x ∈ ([(Instr.identifyMemoryDevice, MbxCode.success, fun _ _ => [0]), (.getSupportedLogs, .success, fun _ _ => [1]),
      (.getLog, .success, fun _ _ => mailboxOpcodes),
      (.getEventInterruptPolicy, .success, fun s p => [(s.port p).policy]),
      (.getDcConfiguration, .success, fun s p => [1, 0, s.fld PRT_DCR.SIZE_G p, 1, 1]),
      (.getDcExtentList, .success, fun s p => s.acceptedExtents p),
      (.unsupportedMailboxCommand, .unsupported, fun _ _ => [])] :
      List ((Fin 256 → Instr) × MbxCode × (State → Nat → List Nat))),
    ∀ (p : Fin 256) (s : State), s.fld PRT_CTL.ROLE p.val = 1 → s.flag PRT_STS.LUP p.val = true →
      exec (x.1 p) s = .next (s.emit (.mailbox p.val x.2.1 (x.2.2 s p.val)))) ∧
  (∀ (p : Fin 256) (log : Fin 5) (n : Fin 65) (v : Nat) (s : State), s.fld PRT_CTL.ROLE p.val = 1 →
    s.flag PRT_STS.LUP p.val = true →
    exec (.getEventRecords p log) s = .next (s.emit (.mailbox p.val .success (if log.val = 4 then
      (s.port p.val).dcLog.flatMap (fun r => [r.op, bit r.remote, r.index, extentTag r.tagSkein r.tagCrew]) else []))) ∧
    (log.val ≠ 4 → exec (.clearEventRecords p log n) s = .next (s.emit (.mailbox p.val .success []))) ∧
    exec (.getTimestamp p v) s = .next (s.emit (.mailbox p.val .success [(s.port p.val).stamp + v])) ∧
    (∃ t, exec (.clearEventRecords p 4 n) s = .next t ∧ (t.port p.val).dcLog = (s.port p.val).dcLog.drop n.val ∧
      t.fld PRT_DC_STS.PEND p.val = ((s.port p.val).dcLog.length - n.val) % 128 ∧
      t.out = s.out ++ [.mailbox p.val .success []] ∧ t.mem = s.mem) ∧
    (∃ t, exec (.setEventInterruptPolicy p v) s = .next t ∧ (t.port p.val).policy = v ∧
      t.out = s.out ++ [.mailbox p.val .success []] ∧ t.regs = s.regs ∧ t.mem = s.mem) ∧
    (∃ t, exec (.setTimestamp p v) s = .next t ∧ (t.port p.val).stamp = v ∧
      t.out = s.out ++ [.mailbox p.val .success []] ∧ t.regs = s.regs ∧ t.mem = s.mem))

/-- The parts SlicesAreMadeAndUnmade, MailboxTakesCommands and MailboxAnswers together. -/
def Obligations.TenantSlicesAndTheirMailbox : Prop :=
  Sys2Proof.Claims.SlicesAreMadeAndUnmade ∧ Sys2Proof.Claims.MailboxTakesCommands ∧ Sys2Proof.Claims.MailboxAnswers

/-- A fabric manager command posts event 0x50 with its message tag and is answered as the firmware program answers it: the queries with
Success and their data, one outside the list as unsupported. A configuration write reaches the device, and a read answers with what it
returns (R250). -/
def Sys2Proof.Claims.FabricManagerQueriesAnswer : Prop :=
  (∀ x ∈ ([(fun t _ => Instr.identifySwitchDevice t, FmCode.success, fun s _ =>
        [s.startedOf 1, s.startedOf 2, s.startedOf 3, s.startedOf 4, 10 * s.startedOf 1]),
      (.getPhysicalPortState, .success, fun s p => [(s.shown ⟨.PRT_CTL, p, 0⟩).toNat, (s.shown ⟨.PRT_STS, p, 0⟩).toNat]),
      (.getVirtualCxlSwitchInfo, .success, fun s p => (List.range 8).map (fun v => s.boundPort p (v + 2))),
      (fun t _ => .getDcdInfo t, .success, fun s _ => [s.startedOf 1, s.skeins.length,
        (s.skeins.map (fun n => skeinGranules (s.fld SKN_W0.SIZE n))).foldl (· + ·) 0]),
      (.getHostDcRegionConfiguration, .success, fun s p => [1, 0, s.fld PRT_DCR.SIZE_G p, 1, 1]),
      (.getDcRegionExtentLists, .success, fun s p => s.acceptedExtents p),
      (fun t _ => .unsupportedFmCommand t, .unsupported, fun _ _ => [])] :
      List ((Fin 256 → Fin 256 → Instr) × FmCode × (State → Nat → List Nat))),
    ∀ (tag p : Fin 256) (s : State), s.eng.evq.length + 8 < 1024 →
      ∃ t, exec (x.1 tag p) s = .next t ∧ t.out = s.out ++ [.fmAnswer tag.val x.2.1 (x.2.2 s p.val)] ∧
        t.eng.evq = s.eng.evq ++ [eventWord 0x50 3 0 tag.val] ∧ t.mem = s.mem ∧
        RegsBut s t (fun k => k.r = .ICF_EVQ_CNT ∨ k.r = .ICF_EVQ_STS)) ∧
  (∀ (tag p h : Fin 256) (v : Fin 16) (s : State), s.started p.val = false → 2 ≤ v.val → v.val ≤ 9 →
    ∃ t, exec (.bindVppb tag p h v) s = .next t ∧ t.flag PRT_BIND.VLD p.val = true ∧ t.fld PRT_BIND.HPORT p.val = h.val ∧
      t.fld PRT_BIND.VPPB p.val = v.val ∧ t.out = s.out ++ [.fmAnswer tag.val .success []] ∧ t.mem = s.mem) ∧
  (∀ (tag p : Fin 256) (s : State), s.started p.val = false →
    ∃ t, exec (.unbindVppb tag p) s = .next t ∧ t.flag PRT_BIND.VLD p.val = false ∧
      t.out = s.out ++ [.fmAnswer tag.val .success []] ∧ t.mem = s.mem) ∧
  (∀ (tag p : Fin 256) (a : Fin 4096) (v : Option Word) (r : BitVec 32) (s : State), (s.role p.val = 2 ∨ s.role p.val = 3) →
    s.fld PRT_STS.STATE p.val = 1 → s.flag PRT_STS.LUP p.val = true →
    ∃ t, exec (.sendPpbCxlIoConfigRequest tag p a v r) s = .next t ∧ t.mem = s.mem ∧
      t.out = s.out ++ (match v with
        | some x => [.config p.val a.val x, .fmAnswer tag.val .success []]
        | none => [.configRead p.val a.val, .fmAnswer tag.val .success [r.toNat]])) ∧
  (∀ (eid : Fin 256) (s : State), ∃ t, exec (.setEndpointId eid) s = .next t ∧ t.eid = eid.val ∧ { t with eid := s.eid } = s)

/-- The fabric manager commands that run a sequence are answered as started in the background, and their first steps are taken.
PHYSICAL_PORT_CONTROL begins the stop of a running port, to be started again, and starts a stopped one. INITIATE_DYNAMIC_CAPACITY_ADD
writes W0 and W1 of the skein and, where it is then Allocated, the extent map entry that names it, and asks for an EPOCH of the port.
INITIATE_DYNAMIC_CAPACITY_RELEASE moves a skein that is not Held to Releasing and asks an owner that has accepted it for its
release (R58, R59, R250). -/
def Sys2Proof.Claims.FabricManagerSequences : Prop :=
  (∀ (tag p : Fin 256) (s : State), (s.fn (fidPort p.val)).run = .running →
    ¬ (s.fld PRT_CTL.ROLE p.val = 4 ∧ s.lfl (halfOf p.val) ≠ lflActive) →
    ∃ t, exec (.physicalPortControl tag p) s = .next t ∧ (t.fn (fidPort p.val)).run = .stopping ∧
      (t.fn (fidPort p.val)).restart = true ∧ t.out = s.out ++ [.fmAnswer tag.val .background []] ∧ t.mem = s.mem ∧
      RegsBut s t (fun k => k.r = .ICF_EVQ_CNT ∨ k.r = .ICF_EVQ_STS)) ∧
  (∀ (tag p : Fin 256) (s : State), (s.fn (fidPort p.val)).run = .stopped →
    exec (.physicalPortControl tag p) s = .next (if (s.fm tag.val .background []).portCheck p.val = 0
      then (s.fm tag.val .background []).portGo p.val else s.fm tag.val .background [])) ∧
  (∀ (tag p : Fin 256) (s : State), (s.fn (fidPort p.val)).run = .stopping →
    exec (.physicalPortControl tag p) s = .next (s.fm tag.val .background [])) ∧
  (∀ (tag p : Fin 256) (n : Fin 65536) (w0 w1 : Word) (i : Fin 256) (b : BitVec 18) (u s : State),
    u = writeSkeinW1 (writeSkeinW0 (s.fm tag.val .background []) n.val w0) n.val w1 →
    (u.fld SKN_W0.STATE n.val ≠ skAllocated → exec (.initiateDynamicCapacityAdd tag p n w0 w1 i b) s = .next u) ∧
    (u.fld SKN_W0.STATE n.val = skAllocated → ∃ t, exec (.initiateDynamicCapacityAdd tag p n w0 w1 i b) s = .next t ∧
      t.rd ⟨.PRT_EXT, p.val, i.val⟩ = wordOf (2 ^ 63 + 2 ^ 46 * n.val + 2 ^ 28 * b.toNat) ∧
      (t.port p.val).epochs = (u.port p.val).epochs ++ [{ seat := none, rd := 0 }] ∧ t.out = u.out ∧ t.mem = u.mem ∧
      RegsBut u t (fun k => k = ⟨.PRT_EXT, p.val, i.val⟩))) ∧
  (∀ (tag p : Fin 256) (n : Fin 65536) (u s : State),
    u = (if s.fld SKN_W0.STATE n.val = skHeld then s.fm tag.val .background []
      else writeSkeinW0 (s.fm tag.val .background []) n.val (putBits (s.rd ⟨.SKN_W0, n.val, 0⟩) 63 60 skReleasing)) →
    (u.accepted n.val p.val = false → exec (.initiateDynamicCapacityRelease tag p n) s = .next u) ∧
    (u.accepted n.val p.val = true → (u.slotsOf n.val p.val).isEmpty = false → (u.port p.val).dcLog.length < 64 →
      ∃ t, exec (.initiateDynamicCapacityRelease tag p n) s = .next t ∧ (t.port p.val).dcLog =
        (u.port p.val).dcLog ++ [⟨2, false, n.val, n.val, u.fld SKN_W0.CREW n.val⟩] ∧ t.mem = u.mem))

/-- The parts FabricManagerQueriesAnswer and FabricManagerSequences together. -/
def Obligations.FabricManagerAnswers : Prop :=
  Sys2Proof.Claims.FabricManagerQueriesAnswer ∧ Sys2Proof.Claims.FabricManagerSequences

/-! Directory registers (spec/03 R89, R90, spec/20 R508) -/

/-- DIR_EIDX_READ asks for an entry where no read is under way; DIR_EIDX_DONE without an error found puts the entry's bits with its
check bits into DIR_EDATA, UE 0. TD_SNAP takes the slice's running counts into its registers, TD_CLEAR sets them to 0; both store
EN (R89, R90, R508). -/
def Obligations.DirectoryReadsAndCounts : Prop :=
  (∀ (who : Requester) (d : Fin 64) (set : Fin 2048) (way : Fin 16) (s : State), s.Writes who ⟨.DIR_EIDX, d.val, 0⟩ →
    s.flag DIR_EIDX.BUSY d.val = false →
    ∃ t, exec (.dirEidxRead who d set way) s = .next t ∧ t.flag DIR_EIDX.BUSY d.val = true ∧
      t.fld DIR_EIDX.SET d.val = set.val ∧ t.fld DIR_EIDX.WAY d.val = way.val ∧
      (t.slice d.val).eidx = some (set.val, way.val) ∧ t.mem = s.mem ∧ RegsBut s t (fun k => k = ⟨.DIR_EIDX, d.val, 0⟩)) ∧
  (∀ (d : Fin 64) (dt set way : Nat) (s : State), (s.slice d.val).eidx = some (set, way) → s.slotFree d.val (pipeOf set) dt →
    let n := (s.dirEntry d.val set way).bits (((s.slice d.val).ranks set).getD way 0)
    ∃ t, exec (.dirEidxDone d dt []) s = .next t ∧ t.flag DIR_EIDX.BUSY d.val = false ∧ t.flag DIR_EIDX.UE d.val = false ∧
      (t.slice d.val).eidx = none ∧ t.mem = s.mem ∧
      ∀ i, i < 5 → t.fld DIR_EDATA.BITS d.val i = (n + 2 ^ 151 * (Config.dirEcc n).toNat) / 2 ^ (32 * i) % 2 ^ 32) ∧
  (∀ (who : Requester) (d : Fin 64) (on : Bool) (s : State), s.Writes who ⟨.DIR_TD_CTL, d.val, 0⟩ →
    (∃ t, exec (.tdSnap who d on) s = .next t ∧ t.flag DIR_TD_CTL.EN d.val = on ∧ (t.slice d.val).td = (s.slice d.val).td ∧
      t.mem = s.mem ∧ ∀ x ∈ [(DIR_TD_CYC.CNT, 0), (DIR_TD_RET.CNT, 1), (DIR_TD_WST.CNT, 2), (DIR_TD_FST.CNT, 3),
        (DIR_TD_BST.CNT, 4)], t.fld x.1 d.val = (s.slice d.val).td.getD x.2 0 % 2 ^ 64) ∧
    (∃ t, exec (.tdClear who d on) s = .next t ∧ t.flag DIR_TD_CTL.EN d.val = on ∧ (t.slice d.val).td = [0, 0, 0, 0, 0] ∧
      t.mem = s.mem ∧ RegsBut s t (fun k => k = ⟨.DIR_TD_CTL, d.val, 0⟩)))

/-! The switch core (spec/05) -/

/-- Inputs. CORE_MESSAGE_PLACE of a message of less than a stripe for one output, in a class that is not eager, with no stripe of its
flow open: it opens a stripe of its own. STRIPE_TIMEOUT closes the open stripe of its flow and turns the rotation. STRIPE_START sends
the first stripe that may start on to the planes, where the input holds its credits, and counts its feathers (R128, R129, R131, R132, R134,
R149). -/
def Sys2Proof.Claims.InputsBuildStripes : Prop :=
  (∀ (e : Fin 322) (m : Msg) (rest : List Msg) (dst : Nat) (s : State), (s.coreIn e.val).ready = m :: rest → m.dsts = [dst] →
    s.isOutput dst = true → m.chunks < 64 → (s.coreIn e.val).openStripes.any (fun t => t.ofFlow m.cls dst) = false →
    (s.coreIn e.val).openStripes.length < 16 → bitOf (wordOf (s.fld CORE_CTL.EAGER)) m.cls = false →
    ∃ t, exec (.coreMessagePlace e) s = .next t ∧ ((s.coreIn e.val).behind = [] → (t.coreIn e.val).ready = rest) ∧
      (t.coreIn e.val).openStripes = (s.coreIn e.val).openStripes ++
        [{ src := e.val, cls := m.cls, targets := [(dst, 0)], mc := false,
           parts := [{ msg := m, chunks := m.chunks, head := true, tail := true }], tmo := s.fld CORE_CTL.STRIPE_TMO }] ∧
      t.regs = s.regs ∧ t.mem = s.mem) ∧
  (∀ (e : Fin 322) (k : Nat) (x : Stripe) (rest : List Stripe) (s : State), (s.coreIn e.val).openStripes[k]? = some x →
    takeFirst (fun y => y.ofFlow x.cls ((x.targets.map (·.1)).headD 0)) (s.coreIn e.val).openStripes = some (x, rest) →
    ∃ t, exec (.stripeTimeout e k false) s = .next t ∧ (t.coreIn e.val).openStripes = rest ∧
      (t.coreIn e.val).closed.length = (s.coreIn e.val).closed.length + 1 ∧
      (t.coreIn e.val).rot = ((s.coreIn e.val).rot + 1) % 16 ∧ (t.coreIn e.val).ready = (s.coreIn e.val).ready ∧
      t.regs = s.regs ∧ t.mem = s.mem) ∧
  (∀ (e : Fin 322) (x : Stripe) (rest : List Stripe) (s : State),
    firstStartable s [] (s.coreIn e.val).closed = some (x, rest) → (s.coreIn e.val).affords x = true →
    ∃ t, exec (.stripeStart e) s = .next t ∧ (t.coreIn e.val).closed = rest ∧ t.core.stripes = s.core.stripes ++ [x] ∧
      t.fld CORE_FTHR_CNT.CNT = (s.fld CORE_FTHR_CNT.CNT + (16 - x.dataCells)) % 2 ^ 64 ∧ t.mem = s.mem ∧
      RegsBut s t (fun k => k.r = .CORE_FTHR_CNT ∨ k.r = .CORE_MC_CNT))

/-- Planes and outputs. PLANE_ITEM_TAKE of a data cell or a feather for one output stores it and gives that output its notice, with the
address of the cell. OUTPUT_SELECT puts the selected stripe at the end of the read window and expects the next number of its flow.
OUTPUT_CELL_READ of a slice's last cell releases the stripe's message to it. REASSEMBLY_TIMEOUT gives the stripe up: it is counted and
reported, and fences every crew in classes C0 to C4 (R136 to R139). -/
def Sys2Proof.Claims.PlanesAndOutputsDeliver : Prop :=
  (∀ (p : Fin 16) (e : Fin 322) (x : Item) (rest : List Item) (o ssn : Nat) (s : State),
    tabGet (fun _ => []) (s.coreIn e.val).items p.val = x :: rest → x.mc = false → (∀ k, x.kind ≠ .list k) → x.targets = [(o, ssn)] →
    late ssn ((s.coreOut o).next x.src x.cls) = false →
    let a := if x.kind = .data then some (s.plane p.val).nextAddr else none
    ∃ t, exec (.planeItemTake p e .ok false) s = .next t ∧ tabGet (fun _ => []) (t.coreIn e.val).items p.val = rest ∧
      (t.coreOut o).notices = (s.coreOut o).notices ++ [⟨x.src, x.cls, ssn, x.slot, p.val, x.fill, x.first, false, a⟩] ∧
      (t.plane p.val).count o x.cls = (s.plane p.val).count o x.cls + 1 ∧
      (t.plane p.val).cells = (s.plane p.val).cells ++ (match a with
        | some n => [⟨n, [(o, ssn)]⟩]
        | none => []) ∧ t.mem = s.mem ∧ RegsBut s t (fun k => k.r = .CORE_PL_WHLD)) ∧
  (∀ (e : Fin 320) (room : BitVec 8) (c i : Nat) (s : State),
    ((s.coreOut e.val).window.filter (fun w => !w.lost)).length < 4 * s.slots e.val → s.selectable e.val room = some (c, i) →
    ∃ t, exec (.outputSelect e room) s = .next t ∧
      (t.coreOut e.val).window = (s.coreOut e.val).window ++ [{
        src := i, cls := c, ssn := (s.coreOut e.val).next i c,
        unread := ((s.coreOut e.val).held i c).filter (fun n => n.addr.isSome) }] ∧
      (t.coreOut e.val).next i c = ((s.coreOut e.val).next i c + 1) % 65536 ∧ t.regs = s.regs ∧ t.mem = s.mem) ∧
  (∀ (e : Fin 320) (p : Fin 16) (w : Window) (n : Notice) (x : Stripe) (a : Part) (s : State), 256 ≤ e.val →
    (s.coreOut e.val).window = [w] → w.lost = false → w.unread = [n] → n.plane = p.val → w.poisoned = [] →
    s.stripeOf w.src w.cls e.val w.ssn = some x → x.parts = [a] → a.head = true → a.tail = true →
    (∀ k, a.msg.body ≠ .reserved k) →
    ∃ t, exec (.outputCellRead e p .ok) s = .next t ∧ (t.coreOut e.val).window = [] ∧
      t.slice (e.val - 256) = (s.slice (e.val - 256)).take a.msg ∧ t.regs = s.regs ∧ t.mem = s.mem) ∧
  (∀ (e : Fin 320) (src : Fin 322) (c : Fin 8) (s : State), (s.coreOut e.val).waiting src.val c.val = true →
    (∀ w ∈ (s.coreOut e.val).window, w.lost = false ∧ w.unread ≠ []) →
    ∃ t, exec (.reassemblyTimeout e src c) s = .next t ∧
      t.fld CORE_RSM_CNT.CNT = min 0xFFFFFFFF (s.fld CORE_RSM_CNT.CNT + 1) ∧
      (t.coreOut e.val).next src.val c.val = ((s.coreOut e.val).next src.val c.val + 1) % 65536 ∧
      t.flt.reports = s.flt.reports ++ [slotOutput e.val] ∧
      t.flt.fences = s.flt.fences ++ (if c.val ≤ 4 then [{ cause := 1, unit := slotOutput e.val, crews := .all }] else []) ∧
      t.mem = s.mem ∧ RegsBut s t (fun k => k.r = .CORE_RSM_CNT ∨ k.r = .CORE_ERR_LOG))

/-- The parts InputsBuildStripes and PlanesAndOutputsDeliver together. -/
def Obligations.CoreCarriesStripes : Prop :=
  Sys2Proof.Claims.InputsBuildStripes ∧ Sys2Proof.Claims.PlanesAndOutputsDeliver

/-! Egress and memory devices (spec/06, spec/09) -/

/-- TM_RELEASE: after the shapers' refill, the head of the queue that the scheduler chooses leaves it: a read goes to the device, and a
scrub write of queue 63 does. RED_AGE_EXPIRY ages the red head of a queue. QUEUE_SAMPLE with sampling on counts the queue's depth and
delay in their bins. HISTOGRAM_CLEAR_ALL sets every bin to 0 (R61, R163, R164, R171, R172). -/
def Obligations.EgressReleasesAndSamples : Prop :=
  (∀ (p : Fin 256) (dt : Nat) (blocked : List (Fin 64)) (u v : State) (c : Choice) (x : QMsg) (xs : List QMsg)
      (s : State), u = s.each (List.range 64) (fun s n => s.setQueue (64 * p.val + n) ((s.queue (64 * p.val + n)).refill dt)) →
    s.egressRuns p.val = true → u.choose p.val blocked = (some c, v) → (v.queue (64 * p.val + c.queue)).msgs = x :: xs →
    (∀ g, x.msg.body = .memRead g → c.queue < 63 →
      ∃ t, exec (.tmRelease p dt blocked none) s = .next t ∧ (t.queue (64 * p.val + c.queue)).msgs = xs ∧
        t.out = s.out ++ [.device p.val false x.msg.addr false] ∧
        (t.port p.val).dev = (s.port p.val).dev ++ [⟨false, x.msg.fromSlice, false, x.msg⟩] ∧ t.regs = s.regs ∧ t.mem = s.mem) ∧
    (∀ k, x.msg.body = .scrub k → c.queue = 63 →
      ∃ t, exec (.tmRelease p dt blocked none) s = .next t ∧ t.out = s.out ++ [.scrubWrite p.val x.msg.addr k] ∧
        (t.port p.val).dev = (s.port p.val).dev ++ [⟨true, false, false, x.msg⟩] ∧ t.regs = s.regs ∧ t.mem = s.mem)) ∧
  (∀ (p : Fin 256) (q : Fin 64) (x : QMsg) (xs : List QMsg) (s : State), (s.queue (64 * p.val + q.val)).msgs = x :: xs →
    x.red = true → x.aged = false →
    ∃ t, exec (.redAgeExpiry p q) s = .next t ∧ (t.queue (64 * p.val + q.val)).msgs = { x with aged := true } :: xs ∧
      (t.queue (64 * p.val + q.val)).redHead = false ∧ t.regs = s.regs ∧ t.mem = s.mem) ∧
  (∀ (q : Fin 16384) (delay : Nat) (s : State), s.flag TM_CTL.SMP_EN = true →
    let depth := (((s.queue q.val).msgs.map (fun x => x.counted + (s.queue q.val).ovh)).foldl (· + ·) 0)
    let b := histBin depth (s.shifts (q.val / 2048)).1
    let l := if (s.queue q.val).msgs.isEmpty then 0 else histBin delay (s.shifts (q.val / 2048)).2
    ∃ t, exec (.queueSample q delay false) s = .next t ∧
      t.fld TM_QHD.CNT q.val b = min 0xFFFFFFFF (s.fld TM_QHD.CNT q.val b + 1) ∧
      t.fld TM_QHL.CNT q.val l = min 0xFFFFFFFF (s.fld TM_QHL.CNT q.val l + 1) ∧ t.mem = s.mem ∧
      RegsBut s t (fun k => k = ⟨.TM_QHD, q.val, b⟩ ∨ k = ⟨.TM_QHL, q.val, l⟩)) ∧
  (∀ (who : Requester) (v : BitVec 32) (s : State), s.Writes who ⟨.TM_CTL, 0, 0⟩ →
    ∃ t, exec (.histogramClearAll who v) s = .next t ∧ (∀ i j, t.rd ⟨.TM_QHD, i, j⟩ = 0 ∧ t.rd ⟨.TM_QHL, i, j⟩ = 0) ∧
      t.mem = s.mem ∧ RegsBut s t (fun k => k.r = .TM_CTL ∨ k.r = .TM_QHD ∨ k.r = .TM_QHL))

/-- MEMORY_RESPONSE of the request at a place of the port's list answers its requester, with the device's data or its write done, and the
slice that issued it: of a read its notice waits behind the data. An acknowledgement of a scrub write advances the scrub.
MEMORY_COMPLETION_TIMEOUT ends the request, counts and reports; of a scrub write it stops the scrub (R62, R99, R247). -/
def Obligations.MemoryDevicesAnswer : Prop :=
  (∀ (p : Fin 256) (i : Nat) (r : DevReq) (poison : Bool) (s : State), s.flag PRT_STS.LUP p.val = true →
    (s.port p.val).dev[i]? = some r → r.msg.body.isScrub = false →
    let d : Msg :=
      { body := if r.write then .cmp .i else .data r.msg.body.grant, src := p.val, dsts := [r.msg.port], cls := 3,
        len := if r.write then 16 else 80, epoch := r.msg.epoch, feid := r.msg.feid, port := r.msg.port, tag := r.msg.tag,
        slice := r.msg.slice, crew := r.msg.crew, mport := p.val, addr := r.msg.addr, poison := !r.write && poison }
    let n : Msg :=
      { body := .notice r.write, src := p.val, dsts := [256 + r.msg.slice], cls := 3, feid := r.msg.feid, port := r.msg.port,
        tag := r.msg.tag, slice := r.msg.slice, crew := r.msg.crew, mport := p.val, addr := r.msg.addr }
    ∃ t, exec (.memoryResponse p (if r.write then .writeDone else .data poison) i false) s = .next t ∧
      (t.port p.val).dev = (s.port p.val).dev.eraseIdx i ∧
      (t.coreIn p.val).ready = (s.coreIn p.val).ready ++ d :: (if r.write ∧ r.fromSlice then [n] else []) ∧
      (t.coreIn p.val).behind = (s.coreIn p.val).behind ++ (if r.write = false ∧ r.fromSlice then [(d, n)] else []) ∧
      t.regs = s.regs ∧ t.mem = s.mem) ∧
  (∀ (p : Fin 256) (i : Nat) (r : DevReq) (c : ScrubSt) (s : State), s.flag PRT_STS.LUP p.val = true →
    (s.port p.val).dev[i]? = some r → r.write = true → r.msg.body.isScrub = true → (s.port p.val).scrub = some c →
    c.mark = r.msg.tag →
    ∃ t, exec (.memoryResponse p .writeDone i false) s = .next t ∧ (t.port p.val).dev = (s.port p.val).dev.eraseIdx i ∧
      (t.port p.val).scrub = some { c with acked := c.acked + 1 } ∧
      t.fld PRT_SCRB_STS.PROG_MIB p.val = (c.acked + 1) / 0x4000 % 2 ^ 21 ∧ t.mem = s.mem ∧
      RegsBut s t (fun k => k = ⟨.PRT_SCRB_STS, p.val, 0⟩)) ∧
  (∀ (p : Fin 256) (i : Nat) (r : DevReq) (s : State), (s.port p.val).dev[i]? = some r →
    ∃ t, exec (.memoryCompletionTimeout p i) s = .next t ∧ (t.port p.val).dev = (s.port p.val).dev.eraseIdx i ∧
      t.fld PRT_CTO_CNT.CNT p.val = min 0xFFFFFFFF (s.fld PRT_CTO_CNT.CNT p.val + 1) ∧
      t.flt.reports = s.flt.reports ++ [slotPort p.val] ∧ t.mem = s.mem ∧
      (∀ c, r.msg.body.isScrub = true → (s.port p.val).scrub = some c → c.mark = r.msg.tag →
        (t.port p.val).scrub = none ∧ t.flag PRT_SCRB_STS.ERR p.val = true) ∧
      RegsBut s t (fun k => k = ⟨.PRT_CTO_CNT, p.val, 0⟩ ∨ r.msg.body.isScrub ∧ k = ⟨.PRT_SCRB_STS, p.val, 0⟩))

/-! The fabric (spec/07) -/

/-- Packets in a fabric port's receive buffer, u the state without the packet; its credits return as it leaves the port (rxFree).
FABRIC_PACKET_FORWARD sends one for another switch on by its route, with one hop less. FABRIC_ADMISSION admits a request for this switch, or takes a snoop's answer.
FABRIC_TO_AGENT sends a KIND 0x1 packet to its agent's host port, a KIND 0x3 one to the management program (R182, R187, R191,
R214). -/
def Sys2Proof.Claims.FabricPacketsMove : Prop :=
  (∀ (p : Fin 256) (vc r : Nat) (m : Msg) (h : FabHdr) (u s : State),
    s.takeRx p.val (fun _ h => h.dswid != s.swid) = some (vc, m, h, u) → u.routePort h.dswid = some r → 1 < h.hops →
    u.linkActive r = true →
    exec (.fabricPacketForward p) s = .next ((u.rxFree p.val vc m).send { m with
      src := p.val, dsts := [r], cls := rxClass vc m, fab := some { h with hops := h.hops - 1 } })) ∧
  (∀ (p : Fin 256) (vc : Nat) (m : Msg) (h : FabHdr) (tie : Bool) (u s : State),
    s.takeRx p.val (fun _ h => h.dswid == s.swid && h.kind == 0) = some (vc, m, h, u) →
    (∀ op, m.body = .remoteReq op → exec (.fabricAdmission p tie) s = .next (u.admitFabric p.val vc m h op)) ∧
    (∀ k a, m.body = .answer k a → exec (.fabricAdmission p tie) s =
      .next ((u.rxFree p.val vc m).takeAnswer p.val ((u.port p.val).snoopOf h) a tie))) ∧
  (∀ (p : Fin 256) (vc : Nat) (m : Msg) (h : FabHdr) (u s : State),
    s.takeRx p.val (fun _ h => h.dswid == s.swid && (h.kind == 1 || h.kind == 3)) = some (vc, m, h, u) →
    (h.kind = 3 → exec (.fabricToAgent p) s = .next ((u.rxFree p.val vc m).emit (.management m))) ∧
    (h.kind = 1 → u.flag CORE_FEID_MAP.VLD h.dfeid = true → exec (.fabricToAgent p) s = .next ((u.rxFree p.val vc m).send { m with
      src := p.val, dsts := [u.fld CORE_FEID_MAP.PORT h.dfeid], cls := rxClass vc m })))

/-- FENCE_REQUEST_RECEIVED fences the crew that another switch names, with cause 3 and its agent. FENCE_BYPASS_RELAY hands the oldest
bypass message, a fence notice or request, to the fault collector, or on toward its switch with one hop less. REMOTE_FENCE_NOTICE fences the
host port's remote entries of that switch and crew. LINK_LOSS_NOTICE acts on a loss that is new and tells it on (R183, R192, R193,
R207). -/
def Sys2Proof.Claims.FabricFencesAndLosses : Prop :=
  (∀ (c f : Nat) (rest : List (Nat × Nat)) (s : State), s.flt.requests = (c, f) :: rest → c < 256 →
    (s.crewState c = 1 ∨ s.crewState c = 2) →
    ∃ t, exec .fenceRequestReceived s = .next t ∧ t.flt.requests = rest ∧ t.crewState c = 3 ∧ t.fld CRW_STS.FCAUSE c = 3 ∧
      (∀ x, x ≠ c → t.crewState x = s.crewState x) ∧ t.mem = s.mem) ∧
  (∀ (p : Fin 256) (d w n c f : Nat) (r : List BypMsg) (s : State), s.sendFull (octetOf p.val) = false →
    ∀ x ∈ [(BypMsg.fence d w n c, BypMsg.fence d w (n - 1) c), (.fenceReq d w n c f, .fenceReq d w (n - 1) c f)],
    (s.half (halfOf p.val)).bypRx = x.1 :: r →
    (d = s.swid → ∃ t, exec (.fenceBypassRelay p) s = .next t ∧ (t.half (halfOf p.val)).bypRx = r ∧
      t.noc.send = s.noc.send ++ [⟨0xE6, octetOf p.val, 0, x.1⟩] ∧ t.regs = s.regs ∧ t.mem = s.mem) ∧
    (∀ q, d ≠ s.swid → 1 < n → s.routePort d = some q → s.linkActive q = true →
      ∃ t, exec (.fenceBypassRelay p) s = .next t ∧ (t.half (halfOf p.val)).bypRx = r ∧
        t.noc.send = s.noc.send ++ [⟨octetOf q, octetOf p.val, q, x.2⟩] ∧ t.regs = s.regs ∧ t.mem = s.mem)) ∧
  (∀ (p : Fin 256) (d w n c : Nat) (rest : List BypMsg) (s : State), (s.port p.val).alerts = .fence d w n c :: rest →
    exec (.remoteFenceNotice p) s = .next ((s.modPort p.val (fun q => { q with alerts := rest })).fenceRemote p.val
      (fun a b => a == w && b == c))) ∧
  (∀ (p : Fin 256) (o q k n : Nat) (r : List BypMsg) (u s : State), (s.half (halfOf p.val)).bypRx = .linkLoss o q k n :: r →
    u = s.modHalf (halfOf p.val) (fun x => Half.giveBack { x with bypRx := r } 5 1) →
    (s.lossIsNew o k n = false → exec (.linkLossNotice p) s = .next u) ∧
    (s.lossIsNew o k n = true → exec (.linkLossNotice p) s = .next ((State.tellLoss
      { u with fab := { u.fab with records := tabSet id (fun _ => none) u.fab.records o (some (n, k)) } }
      p.val (.linkLoss o q k n)).actOnLoss p.val o q k n)))

/-- The parts FabricPacketsMove and FabricFencesAndLosses together. -/
def Obligations.FabricPacketsAndFences : Prop :=
  Sys2Proof.Claims.FabricPacketsMove ∧ Sys2Proof.Claims.FabricFencesAndLosses

/-! Lafoush links (spec/08) -/

/-- FLIT_RECEIVED, of the codeword y that the levels on the far lanes make: an uncorrectable one, not the sixteenth in a row, counts and
makes the flit bad; one without a wrong symbol gives the 300 bytes v through the descrambler: where their CRC fails it counts and the flit
is bad, where it holds the flit is taken as good. FLIT_TRANSMIT sends training blocks in states 3 to 7, a null flit in 8, an init flit in 9,
and in Active a new flit where nothing is to be replayed (R200, R202, R203, R209, R216, R217). -/
def Sys2Proof.Claims.FlitsAreCountedAndTaken : Prop :=
  (∀ (p : Fin 256) (ls : List (List (Fin 4))) (ms : List Msg) (y : List Nat) (s : State), 8 ≤ s.lfl (halfOf p.val) →
    s.lfl (halfOf p.val) ≤ 10 → y = s.codeword (halfOf p.val) (ls.map (fun l => l.map (·.val))) →
    (rsDecode y = none → (s.half (halfOf p.val)).uncRun < 15 →
      ∃ t, exec (.flitReceived p ls ms) s = .next t ∧
        t.fld LFL_CW_CNT.CNT (halfOf p.val) = (s.fld LFL_CW_CNT.CNT (halfOf p.val) + 1) % 2 ^ 64 ∧
        t.fld LFL_UNC_CNT.CNT (halfOf p.val) = min 0xFFFFFFFF (s.fld LFL_UNC_CNT.CNT (halfOf p.val) + 1) ∧
        (t.half (halfOf p.val)).uncRun = (s.half (halfOf p.val)).uncRun + 1 ∧ t.mem = s.mem ∧
        RegsBut s t (fun k => (k.r = .LFL_CW_CNT ∨ k.r = .LFL_UNC_CNT) ∧ k.i = halfOf p.val)) ∧
    (∀ (z : List Nat) (v : Nat), rsDecode y = some (0, z) →
      v = ofSymbols (descramble (s.half (halfOf p.val)).rxScr (z.take 240)).1 →
      (crcOk v = false → ∃ t, exec (.flitReceived p ls ms) s = .next t ∧
        t.fld LFL_CW_CNT.CNT (halfOf p.val) = (s.fld LFL_CW_CNT.CNT (halfOf p.val) + 1) % 2 ^ 64 ∧
        t.fld LFL_CORR_HIST.CNT (halfOf p.val) 0 = min 0xFFFFFFFF (s.fld LFL_CORR_HIST.CNT (halfOf p.val) 0 + 1) ∧
        t.fld LFL_CRC_CNT.CNT (halfOf p.val) = min 0xFFFFFFFF (s.fld LFL_CRC_CNT.CNT (halfOf p.val) + 1) ∧
        (t.half (halfOf p.val)).uncRun = 0 ∧ t.mem = s.mem ∧
        RegsBut s t (fun k => (k.r = .LFL_CW_CNT ∨ k.r = .LFL_CORR_HIST ∨ k.r = .LFL_CRC_CNT) ∧ k.i = halfOf p.val)) ∧
      (crcOk v = true → (readFlit v).ftype < 3 → exec (.flitReceived p ls ms) s = .next
        ((State.count (s.countWrap LFL_CW_CNT.CNT 1 (halfOf p.val) |>.modHalf (halfOf p.val) (fun h =>
          { h with uncRun := 0, rxScr := (descramble h.rxScr (z.take 240)).2 })) LFL_CORR_HIST.CNT 1 (halfOf p.val) 0).goodFlit
            (halfOf p.val) (readFlit v) ms)))) ∧
  (∀ (p : Fin 256) (s : State),
    (3 ≤ s.lfl (halfOf p.val) → s.lfl (halfOf p.val) ≤ 7 → exec (.flitTransmit p) s = .next (s.sendBlocks (halfOf p.val))) ∧
    (s.lfl (halfOf p.val) = 8 → exec (.flitTransmit p) s = .next (s.sendIdle (halfOf p.val) 1)) ∧
    (s.lfl (halfOf p.val) = 9 → exec (.flitTransmit p) s = .next (s.sendIdle (halfOf p.val) 2)) ∧
    (s.lfl (halfOf p.val) = 10 → (s.half (halfOf p.val)).replayAt = none → (s.half (halfOf p.val)).resend = none →
      (s.half (halfOf p.val)).heat = none → exec (.flitTransmit p) s = .next (s.newFlit (halfOf p.val))))

/-- REPLAY_START resends from the number asked for, with a new RGEN, and counts; REPLAY_TIMEOUT asks for one from the oldest flit kept.
CREDIT_TIMEOUT takes an Active link down with cause 5, LINK_DOWN with the lowest of its causes: the state is Down hold (R211, R214,
R220, R222). -/
def Sys2Proof.Claims.LinksReplayAndGoDown : Prop :=
  (∀ (p : Fin 256) (n : Nat) (s : State), s.lfl (halfOf p.val) = lflActive → (s.half (halfOf p.val)).replayAt = some n →
    (s.half (halfOf p.val)).replays < s.fld LFL_CTL.RPL_MAX (halfOf p.val) →
    ∃ t, exec (.replayStart p) s = .next t ∧ (t.half (halfOf p.val)).resend = some n ∧ (t.half (halfOf p.val)).replayAt = none ∧
      (t.half (halfOf p.val)).rgen = ((s.half (halfOf p.val)).rgen + 1) % 4 ∧
      (t.half (halfOf p.val)).replays = (s.half (halfOf p.val)).replays + 1 ∧ t.mem = s.mem ∧
      RegsBut s t (fun k => k = ⟨.LFL_RPL_CNT, halfOf p.val, 0⟩)) ∧
  (∀ (p : Fin 256) (s : State), s.lfl (halfOf p.val) = lflActive → (s.half (halfOf p.val)).kept ≠ [] →
    ∃ t, exec (.replayTimeout p false) s = .next t ∧
      (t.half (halfOf p.val)).replayAt = some (s.half (halfOf p.val)).oldest ∧ { t with halves := s.halves } = s) ∧
  (∀ (p : Fin 256) (vc : Fin 6) (s : State), s.lfl (halfOf p.val) = lflActive →
    (s.half (halfOf p.val)).outstanding vc.val ≠ 0 →
    ∃ t, exec (.creditTimeout p vc false) s = .next t ∧ t.lfl (halfOf p.val) = lflDownHold ∧
      t.fld LFL_STS.LDN_CAUSE (halfOf p.val) = 5 ∧ t.mem = s.mem) ∧
  (∀ (p : Fin 256) (causes : List (Fin 10)) (c : Fin 10) (s : State), s.lfl (halfOf p.val) = lflActive → c ∈ causes → c.val ≠ 0 →
    (∀ x ∈ causes, x.val ≠ 0 → c.val ≤ x.val) →
    ∃ t, exec (.linkDown p causes) s = .next t ∧ t.lfl (halfOf p.val) = lflDownHold ∧
      t.fld LFL_STS.LDN_CAUSE (halfOf p.val) = c.val ∧ t.mem = s.mem)

/-- Bring-up. LTB_RECEIVED of a good block in state 3 counts for its lane, whose polarity mirrors its bits; on a lane that carries an Active link's traffic it takes the
link down with cause 2. INIT_RECEIVED of a fitting Init that acknowledges this end's: Active, with the peer recorded.
TRAINING_TIMEOUT: Down hold with cause 7. LFL_DOWN_HOLD_EXPIRY of a running function: Detect (R216 to R219). -/
def Sys2Proof.Claims.LinksComeUp : Prop :=
  (∀ (n : Fin 576) (x : BitVec 320) (b : Ltb) (skewOk : Bool) (i : Nat) (s : State), s.laneHalf n.val = some i →
    b = readLtb (if s.flag LN_STS.INV n.val then Nat.xor x.toNat mirrorMask else x.toNat) →
    (s.lfl i = 3 → b.crcGood = true → b.align ≠ .none →
      ∃ t, exec (.ltbReceived n x skewOk) s = .next t ∧ (t.lane n.val).good = (s.lane n.val).good + 1 ∧ t.mem = s.mem) ∧
    (s.lfl i = lflActive → (s.trafficLanes i).contains n.val = true →
      exec (.ltbReceived n x skewOk) s = .next (s.lflDown i 2))) ∧
  (∀ (p : Fin 256) (m : InitMsg) (grants : List (Fin 4096)) (s : State), s.lfl (halfOf p.val) = 9 →
    s.initOk (halfOf p.val) m = true → m.ackd = true →
    ∃ t, exec (.initReceived p m grants) s = .next t ∧ t.lfl (halfOf p.val) = lflActive ∧
      t.fld LFL_STS.PEER (halfOf p.val) = m.swid % 1024 ∧ t.flag LFL_STS.PEER_VLD (halfOf p.val) = true ∧
      t.fld PRT_STS.STATE (portOfHalf (halfOf p.val)) = 4 ∧ (t.half (halfOf p.val)).far = some m ∧ t.mem = s.mem) ∧
  (∀ (p : Fin 256) (s : State), 2 ≤ s.lfl (halfOf p.val) → s.lfl (halfOf p.val) ≤ 9 →
    ∃ t, exec (.trainingTimeout p false) s = .next t ∧ t.lfl (halfOf p.val) = lflDownHold ∧
      t.fld LFL_STS.LDN_CAUSE (halfOf p.val) = 7 ∧
      t.fld LFL_TRN_FAIL.CNT (halfOf p.val) = min 0xFFFFFFFF (s.fld LFL_TRN_FAIL.CNT (halfOf p.val) + 1) ∧ t.mem = s.mem) ∧
  (∀ (p : Fin 256) (s : State), s.lfl (halfOf p.val) = lflDownHold → (s.fn (fidPort p.val)).run = .running →
    ∃ t, exec (.lflDownHoldExpiry p) s = .next t ∧ t.lfl (halfOf p.val) = lflDetect ∧
      t.fld PRT_STS.STATE (portOfHalf (halfOf p.val)) = 2 ∧ t.mem = s.mem)

/-- The parts FlitsAreCountedAndTaken, LinksReplayAndGoDown and LinksComeUp together. -/
def Obligations.LinksCarryFlits : Prop :=
  Sys2Proof.Claims.FlitsAreCountedAndTaken ∧ Sys2Proof.Claims.LinksReplayAndGoDown ∧ Sys2Proof.Claims.LinksComeUp

/-! Heats (spec/11) -/

/-- The steering messages. OUT with no heat here and nothing against it begins the visit as responder, answered OUT at once where the spare
has mirrored the lane long enough; BACK is
answered BACK by the responder; MEAS gives the initiator the far margins; RETIRE keeps the lane on the spare at the responder;
REFUSE ends the initiator's heat with result 3 (R288, R290 to R292). -/
def Sys2Proof.Claims.SteeringMessagesAct : Prop :=
  (∀ (p : Fin 256) (q lane : Nat) (r : List BypMsg) (s : State),
    (s.half (halfOf p.val)).bypRx = .steer ⟨q, .out, lane⟩ :: r → (s.half (halfOf p.val)).heat = none →
    s.declines (halfOf p.val) = false →
    ∃ t y, exec (.steeringOut p) s = .next t ∧ (t.half (halfOf p.val)).heat = some y ∧ y.initiator = false ∧ y.lane = lane ∧
      (t.half (halfOf p.val)).rxSwitch = (s.half (halfOf p.val)).rxSwitch ++ [⟨q, .out, lane⟩] ∧
      t.fld LFL_SP_STS.USE (halfOf p.val / 2) = 2 ∧ t.mem = s.mem ∧
      if s.fld LFL_SP_STS.USE (halfOf p.val / 2) = 1 ∧ s.fld LFL_SP_STS.HALF (halfOf p.val / 2) = halfOf p.val % 2 ∧
          s.fld LFL_SP_STS.LANE (halfOf p.val / 2) = lane ∧ (s.half (halfOf p.val)).mirrorOld = true ∧
          (s.half (halfOf p.val)).txFree = true then
        y.step = .out ∧ (t.half (halfOf p.val)).bypTx = (s.half (halfOf p.val)).bypTx ++ [.steer ⟨0, .out, lane⟩]
      else y.step = .spare ∧ (t.half (halfOf p.val)).bypTx = (s.half (halfOf p.val)).bypTx) ∧
  (∀ (p : Fin 256) (q lane : Nat) (y : Heat) (r : List BypMsg) (s : State),
    (s.half (halfOf p.val)).bypRx = .steer ⟨q, .back, lane⟩ :: r → (s.half (halfOf p.val)).heat = some y → y.initiator = false →
    ∃ t, exec (.steeringBack p) s = .next t ∧ (t.half (halfOf p.val)).heat = some { y with step := .back } ∧
      (t.half (halfOf p.val)).rxSwitch = (s.half (halfOf p.val)).rxSwitch ++ [⟨q, .back, lane⟩] ∧
      (t.half (halfOf p.val)).bypTx = (s.half (halfOf p.val)).bypTx ++ [.steer ⟨0, .back, lane⟩] ∧
      t.fld LFL_HT_STS.STATE (halfOf p.val) = 4 ∧ t.mem = s.mem) ∧
  (∀ (p : Fin 256) (q h w lane : Nat) (y : Heat) (r : List BypMsg) (s : State),
    (s.half (halfOf p.val)).bypRx = .steer ⟨q, .meas h w, lane⟩ :: r → (s.half (halfOf p.val)).heat = some y →
    y.initiator = true → y.lane = lane → y.own = none →
    ∃ t, exec (.steeringMeas p) s = .next t ∧ (t.half (halfOf p.val)).heat = some { y with far := some (h, w) } ∧
      t.regs = s.regs ∧ t.mem = s.mem) ∧
  (∀ (p : Fin 256) (q lane : Nat) (y : Heat) (r : List BypMsg) (s : State),
    (s.half (halfOf p.val)).bypRx = .steer ⟨q, .retire, lane⟩ :: r → (s.half (halfOf p.val)).heat = some y → y.initiator = false →
    ∃ t, exec (.steeringRetire p) s = .next t ∧ (t.half (halfOf p.val)).heat = none ∧
      (t.half (halfOf p.val)).retired = some lane ∧ (t.half (halfOf p.val)).rxSpare = some lane ∧
      (t.half (halfOf p.val)).txSpare = some lane ∧ t.fld LFL_SP_STS.USE (halfOf p.val / 2) = 3 ∧ t.mem = s.mem) ∧
  (∀ (p : Fin 256) (q lane : Nat) (y : Heat) (r : List BypMsg) (s : State),
    (s.half (halfOf p.val)).bypRx = .steer ⟨q, .refuse, lane⟩ :: r → (s.half (halfOf p.val)).heat = some y → y.initiator = true →
    y.step = .out → y.lane = lane →
    ∃ t, exec (.steeringRefuse p) s = .next t ∧ (t.half (halfOf p.val)).heat = none ∧
      t.fld LFL_HT_STS.RESULT (halfOf p.val) = 3 ∧
      (t.half (halfOf p.val)).bypTx = (s.half (halfOf p.val)).bypTx ++ [.steer ⟨0, .back, lane⟩] ∧ t.mem = s.mem)

/-- HEAT_GO of an Active link without a heat stores LEAD and LMASK and starts one; HEAT_ABORT marks the one that runs. HEAT_STEP_DONE
goes from the switch to training, to equalisation, to settling and to the scan, where each is done. MIRROR_READY records that the spare has mirrored long enough.
HEAT_SPARE_LOCK_TIMEOUT ends a heat that waits for its spare with result 7. CLEAR_RETIREMENT of an octet with no started port clears
both halves' retirements and the spare's status (R286, R287, R290, R292, R297, R299). -/
def Sys2Proof.Claims.HeatsRunByTheirCommands : Prop :=
  (∀ (who : Requester) (i : Fin 128) (lead : Fin 1024) (mask : Fin 256) (s : State), s.Writes who ⟨.LFL_HT_CTL, i.val, 0⟩ →
    16 ≤ lead.val →
    (s.lfl i.val = lflActive → (s.half i.val).heat = none → exec (.heatGo who i lead mask) s = .next
      (((s.setFld LFL_HT_CTL.LEAD lead.val i.val).setFld LFL_HT_CTL.LMASK mask.val i.val).startHeat i.val)) ∧
    (∀ x, (s.half i.val).heat = some x → ∃ t, exec (.heatAbort who i lead mask) s = .next t ∧
      (t.half i.val).heat = some { x with abort := true } ∧ t.fld LFL_HT_CTL.LMASK i.val = mask.val ∧ t.mem = s.mem ∧
      RegsBut s t (fun k => k = ⟨.LFL_HT_CTL, i.val, 0⟩))) ∧
  (∀ (p : Fin 256) (h : BitVec 8) (w : Fin 65) (y : Heat) (s : State), (s.half (halfOf p.val)).heat = some y →
    let r := s.ownRx (halfOf p.val) y.lane
    let n := s.macroOf (2 * portOfHalf (halfOf p.val) + y.lane)
    (y.step = .out → (s.half (halfOf p.val)).txSpare = some y.lane → (s.half (halfOf p.val)).rxSpare = some y.lane →
      (y.initiator = true → y.answered = true) →
      ∃ t, exec (.heatStepDone p true h w) s = .next t ∧ (t.half (halfOf p.val)).heat = some { y with step := .train } ∧
        t.fld LFL_HT_STS.STATE (halfOf p.val) = 2 ∧ t.lane r = {} ∧ t.mem = s.mem ∧
        RegsBut s t (fun k => k = ⟨.LFL_HT_STS, halfOf p.val, 0⟩)) ∧
    (y.step = .train → s.lanesUp r = true →
      ∃ t, exec (.heatStepDone p true h w) s = .next t ∧ (t.half (halfOf p.val)).heat = some { y with step := .eq } ∧
        t.fld LFL_HT_STS.STATE (halfOf p.val) = 2 ∧ (t.lane r).done = false ∧ t.mem = s.mem ∧
        RegsBut s t (fun k => k = ⟨.LFL_HT_STS, halfOf p.val, 0⟩ ∨ k = ⟨.LN_TXEQ, n, 0⟩ ∨ k = ⟨.LN_SS_CTL, r, 0⟩)) ∧
    (y.step = .eq → (s.lane r).done = true → 3 ≤ (s.lane r).farDone →
      ∃ t, exec (.heatStepDone p true h w) s = .next t ∧ (t.half (halfOf p.val)).heat = some { y with step := .settle } ∧
        t.fld LFL_HT_STS.STATE (halfOf p.val) = 2 ∧ t.mem = s.mem ∧ RegsBut s t (fun k => k = ⟨.LFL_HT_STS, halfOf p.val, 0⟩)) ∧
    (y.step = .settle →
      ∃ t, exec (.heatStepDone p true h w) s = .next t ∧ (t.half (halfOf p.val)).heat = some { y with step := .scan } ∧
        t.fld LFL_HT_STS.STATE (halfOf p.val) = 3 ∧ t.mem = s.mem ∧
        RegsBut s t (fun k => k = ⟨.LFL_HT_STS, halfOf p.val, 0⟩ ∨ k = ⟨.LN_SS_CTL, r, 0⟩))) ∧
  (∀ (p : Fin 256) (s : State), s.fld LFL_SP_STS.USE (halfOf p.val / 2) = 1 →
    s.fld LFL_SP_STS.HALF (halfOf p.val / 2) = halfOf p.val % 2 → (s.half (halfOf p.val)).heat = none →
    exec (.mirrorReady p) s = .next (s.modHalf (halfOf p.val) (fun h => { h with mirrorOld := true }))) ∧
  (∀ (p : Fin 256) (tie : Bool) (y : Heat) (s : State), (s.half (halfOf p.val)).heat = some y → y.initiator = true → y.step = .spare →
    s.spareLocked (halfOf p.val) = false →
    ∃ t, exec (.heatSpareLockTimeout p tie) s = .next t ∧ (t.half (halfOf p.val)).heat = none ∧
      t.fld LFL_HT_STS.RESULT (halfOf p.val) = 7 ∧ t.fld LFL_HT_STS.STATE (halfOf p.val) = 0 ∧ t.mem = s.mem) ∧
  (∀ (who : Requester) (o : Fin 64) (own : Fin 4) (s : State), s.Writes who ⟨.LFL_SP_CTL, o.val, 0⟩ →
    s.octetStarted o.val = false →
    ∃ t, exec (.clearRetirement who o own) s = .next t ∧ (t.half (2 * o.val)).retired = none ∧
      (t.half (2 * o.val + 1)).retired = none ∧ t.rd ⟨.LFL_SP_STS, o.val, 0⟩ = 0 ∧ t.fld LFL_SP_CTL.OWN o.val = own.val ∧
      t.mem = s.mem ∧ RegsBut s t (fun k => (k.r = .LFL_SP_CTL ∨ k.r = .LFL_SP_STS) ∧ k.i = o.val))

/-- The parts SteeringMessagesAct and HeatsRunByTheirCommands together. -/
def Obligations.HeatsAndSteering : Prop :=
  Sys2Proof.Claims.SteeringMessagesAct ∧ Sys2Proof.Claims.HeatsRunByTheirCommands

/-! SerDes lanes (spec/10, spec/11) -/

/-- The detectors of a lane that works: LOS_ASSERT and LOL_ASSERT set their sticky bits and count, LOS_RELEASE and LOCK_ASSERT of a
receiver that is on clear LOS and set LOCK (R263 to R266). -/
def Sys2Proof.Claims.LaneDetectorsReport : Prop :=
  (∀ (n : Fin 576) (s : State), s.laneLive n.val = true → s.flag LN_STS.LOS n.val = false →
    ∃ t, exec (.losAssert n) s = .next t ∧ t.flag LN_STS.LOS n.val = true ∧ t.flag LN_DET.LOS_STK n.val = true ∧
      t.fld LN_LOS_CNT.CNT n.val = min 0xFFFFFFFF (s.fld LN_LOS_CNT.CNT n.val + 1) ∧ t.mem = s.mem) ∧
  (∀ (n : Fin 576) (s : State), s.laneLive n.val = true → s.flag LN_STS.RXON n.val = true →
    ∃ t, exec (.losRelease n) s = .next t ∧ t.flag LN_STS.LOS n.val = false ∧ t.mem = s.mem) ∧
  (∀ (n : Fin 576) (s : State), s.laneLive n.val = true → s.flag LN_STS.LOS n.val = false → s.flag LN_STS.LOCK n.val = true →
    ∃ t, exec (.lolAssert n) s = .next t ∧ t.flag LN_STS.LOCK n.val = false ∧ t.flag LN_DET.LOL_STK n.val = true ∧
      t.fld LN_LOL_CNT.CNT n.val = min 0xFFFFFFFF (s.fld LN_LOL_CNT.CNT n.val + 1) ∧ t.mem = s.mem) ∧
  (∀ (n : Fin 576) (s : State), s.laneLive n.val = true → s.flag LN_STS.LOS n.val = false → s.flag LN_STS.RXON n.val = true →
    ∃ t, exec (.lockAssert n) s = .next t ∧ t.flag LN_STS.LOCK n.val = true ∧ t.mem = s.mem)

/-- Equalisation, margin scans and patterns of a lane. EQ_CANDIDATE_EVAL first asks for a setting; once it is applied, and below
MAXREQ, it counts the candidate, keeps the better one and asks for the next. EQ_PHASE_LIMIT ends the evaluation of a CXL or PCIe lane and
TX_EQ_TIME_LIMIT that of a Lafoush lane. MARGIN_SCAN of a locked receiver starts a scan, MARGIN_SCAN_DONE records the
middle eye, LANE_MARGINING_COMMAND on a lane of a CXL or PCIe port whose link is up abandons it, whatever is written with it. Outside a
started port CHECKER_LOCK, CHECKER_LOCK_LOSS and FAR_END_RECENTER set and clear the checker's lock and
count (R258, R261, R269, R270, R281 to R284). -/
def Sys2Proof.Claims.LanesEqualiseScanAndCheck : Prop :=
  (∀ (n : Fin 576) (area : Nat) (pre : Fin 13) (post : Fin 17) (s : State), s.evaluating n.val = true → eqLegal pre.val post.val = true →
    ((s.lane n.val).asked = none →
      ∃ t, exec (.eqCandidateEval n area pre post) s = .next t ∧ (t.lane n.val).tried = (s.lane n.val).tried ∧
        (t.lane n.val).asked = some (pre.val, post.val) ∧ (t.lane n.val).applied = s.cxlLane n.val ∧
        t.out = s.out ++ (if s.cxlLane n.val then [.eqRequest n.val pre.val post.val] else []) ∧ t.regs = s.regs ∧ t.mem = s.mem) ∧
    (∀ a b, (s.lane n.val).asked = some (a, b) → (s.lane n.val).applied = true →
      (s.lane n.val).tried + 1 < s.fld LN_EQ_CFG.MAXREQ n.val →
      ∃ t, exec (.eqCandidateEval n area pre post) s = .next t ∧ (t.lane n.val).tried = (s.lane n.val).tried + 1 ∧
        (t.lane n.val).asked = some (pre.val, post.val) ∧ (t.lane n.val).best =
          (if (s.lane n.val).best.all (fun c => decide (c.area < area)) then some ⟨area, a, b⟩ else (s.lane n.val).best) ∧
        t.regs = s.regs ∧ t.mem = s.mem)) ∧
  (∀ (n : Fin 576) (s : State), s.evaluating n.val = true →
    (s.cxlLane n.val = true → exec (.eqPhaseLimit n) s = .next (s.eqFinish n.val)) ∧ ((s.eqFinish n.val).lane n.val).done = true ∧
    (s.cxlLane n.val = false → exec (.txEqTimeLimit n) s = .next ((s.eqFinish n.val).laneBack n.val))) ∧
  (∀ (who : Requester) (n : Fin 576) (dwell : Fin 8) (s : State), s.Writes who ⟨.LN_SS_CTL, n.val, 0⟩ →
    s.flag LN_SS_CTL.BUSY n.val = false → s.flag LN_STS.RXON n.val = true → s.flag LN_STS.LOCK n.val = true →
    ∃ t, exec (.marginScan who n dwell) s = .next t ∧ t.flag LN_SS_CTL.BUSY n.val = true ∧ t.flag LN_SS_CTL.DONE n.val = false ∧
      t.flag LN_SS_CTL.ABT n.val = false ∧ t.fld LN_SS_CTL.DWELL n.val = dwell.val ∧ t.mem = s.mem ∧
      RegsBut s t (fun k => k = ⟨.LN_SS_CTL, n.val, 0⟩)) ∧
  (∀ (n : Fin 576) (h0 h1 h2 : BitVec 8) (w0 w1 w2 : Fin 65) (s : State), s.flag LN_SS_CTL.BUSY n.val = true →
    (∃ t, exec (.marginScanDone n h0 h1 h2 w0 w1 w2) s = .next t ∧ t.flag LN_SS_CTL.BUSY n.val = false ∧
      t.flag LN_SS_CTL.DONE n.val = true ∧ t.rd ⟨.LN_SS_EYE, n.val, 1⟩ = wordOf (2 ^ 8 * h1.toNat + w1.val) ∧
      (s.pam4 n.val = true → t.rd ⟨.LN_SS_EYE, n.val, 0⟩ = wordOf (2 ^ 8 * h0.toNat + w0.val) ∧
        t.rd ⟨.LN_SS_EYE, n.val, 2⟩ = wordOf (2 ^ 8 * h2.toNat + w2.val)) ∧
      (s.pam4 n.val = false → t.rd ⟨.LN_SS_EYE, n.val, 0⟩ = 0 ∧ t.rd ⟨.LN_SS_EYE, n.val, 2⟩ = 0) ∧ t.mem = s.mem) ∧
    (∀ (p : Nat) (w : Option (BitVec 32)), s.laneOwner n.val = some p → s.fld PRT_CTL.ROLE p ≠ 4 → s.flag PRT_STS.LUP p = true →
      ∃ t, exec (.laneMarginingCommand n w) s = .next t ∧ t.flag LN_SS_CTL.BUSY n.val = false ∧
        t.flag LN_SS_CTL.ABT n.val = true ∧ t.out = s.out ++ [.margining n.val] ∧ t.mem = s.mem ∧
        RegsBut s t (fun k => k = ⟨.LN_SS_CTL, n.val, 0⟩))) ∧
  (∀ (n : Fin 576) (s : State), s.laneOwner n.val = none → s.fld LN_LB.CHK n.val ≠ 0 → (s.fld LN_LB.CHK n.val ≠ 6 ∨ s.pam4 n.val = true) →
    s.flag LN_STS.RXON n.val = true → exec (.checkerLock n) s = .next (s.setFld LN_LB.CHK_LOCK 1 n.val)) ∧
  (∀ (n : Fin 576) (bits errors : Nat) (s : State), s.flag LN_LB.CHK_LOCK n.val = true →
    ∃ t, exec (.checkerLockLoss n bits errors) s = .next t ∧ t.flag LN_LB.CHK_LOCK n.val = false ∧
      t.fld LN_PAT_BITS.CNT n.val = (s.fld LN_PAT_BITS.CNT n.val + bits) % 2 ^ 64 ∧
      t.fld LN_PAT_ERR.CNT n.val = (s.fld LN_PAT_ERR.CNT n.val + errors) % 2 ^ 64 ∧ t.mem = s.mem) ∧
  (∀ (n : Fin 576) (s : State), s.fld LN_LB.MODE n.val = 3 → s.laneOwner n.val = none →
    ∃ t, exec (.farEndRecenter n) s = .next t ∧
      t.fld LN_LB_SLIP.CNT n.val = min 0xFFFFFFFF (s.fld LN_LB_SLIP.CNT n.val + 1) ∧ t.mem = s.mem ∧
      RegsBut s t (fun k => k = ⟨.LN_LB_SLIP, n.val, 0⟩))

/-- The parts LaneDetectorsReport and LanesEqualiseScanAndCheck together. -/
def Obligations.LanesReport : Prop :=
  Sys2Proof.Claims.LaneDetectorsReport ∧ Sys2Proof.Claims.LanesEqualiseScanAndCheck

/-! CXL and PCIe ports (spec/09) -/

/-- Training of a CXL or PCIe port. L0_REACHED within the port's settings, with an acceptable flit mode, no lane
against its forced polarity and no enumeration to come: Active,
with what was negotiated. PCIE_TRAINING_LIMIT: Down hold with cause 5, reported. PORT_LINK_DOWN of an Active port: Down hold with cause
2, or 3 for a reset from the far end. PORT_DOWN_HOLD_EXPIRY of a running function: Training (R230,
R236, R239, R267). -/
def Sys2Proof.Claims.PortsTrainAndFall : Prop :=
  (∀ (p : Fin 256) (rate : Fin 6) (width : Fin 5) (mem f256 lopt f68 rev : Bool) (ls : List LaneTrained) (f : Nat) (s : State),
    s.fld PRT_STS.STATE p.val = 2 → s.fld PRT_CTL.ROLE p.val ≠ 4 → rate.val ≤ s.fld PRT_CTL.MAXRATE p.val →
    width.val ≤ s.fld PRT_CTL.WIDTH p.val + 1 → s.chip.pllFail.contains (octetOf p.val) = false →
    s.fld PRT_CTL.MINW p.val ≤ width.val → s.flitMode p.val ⟨rate, width, mem, f256, lopt, f68, rev⟩ = some f →
    s.polarityFails p.val (2 ^ width.val) rev ls = false → (s.fld PRT_CTL.ROLE p.val ≠ 2 ∨ s.flag PRT_CTL.ENUM p.val = false) →
    ∃ t, exec (.l0Reached p rate width mem f256 lopt f68 rev ls) s = .next t ∧ t.fld PRT_STS.STATE p.val = 4 ∧
      t.flag PRT_STS.LUP p.val = true ∧ t.fld PRT_STS.RATE_NEG p.val = rate.val ∧ t.fld PRT_STS.WIDTH_NEG p.val = width.val ∧
      t.fld PRT_STS.FLIT p.val = f ∧ t.flag PRT_STS.REV p.val = rev ∧
      (t.port p.val).trainedAt = some (rate.val, width.val) ∧ t.mem = s.mem) ∧
  (∀ (p : Fin 256) (s : State), s.fld PRT_STS.STATE p.val = 2 → s.fld PRT_CTL.ROLE p.val ≠ 4 →
    ∃ t, exec (.pcieTrainingLimit p false) s = .next t ∧ t.fld PRT_STS.STATE p.val = 5 ∧ t.fld PRT_STS.LDN_CAUSE p.val = 5 ∧
      t.flt.reports = s.flt.reports ++ [slotPort p.val] ∧ t.mem = s.mem ∧
      RegsBut s t (fun k => k = ⟨.PRT_STS, p.val, 0⟩)) ∧
  (∀ (p : Fin 256) (far : Bool) (s : State), s.fld PRT_STS.STATE p.val = 4 → s.fld PRT_CTL.ROLE p.val ≠ 4 →
    s.flag PRT_STS.LUP p.val = true →
    ∃ t, exec (.portLinkDown p far) s = .next t ∧ t.fld PRT_STS.STATE p.val = 5 ∧ t.flag PRT_STS.LUP p.val = false ∧
      t.fld PRT_STS.LDN_CAUSE p.val = (if far then 3 else 2) ∧ (t.port p.val).trained = none ∧ t.mem = s.mem) ∧
  (∀ (p : Fin 256) (s : State), s.fld PRT_STS.STATE p.val = 5 → s.fld PRT_CTL.ROLE p.val ≠ 4 →
    (s.fn (fidPort p.val)).run = .running →
    ∃ t, exec (.portDownHoldExpiry p) s = .next t ∧ t.fld PRT_STS.STATE p.val = 2 ∧ t.mem = s.mem)

/-- Enumeration of a memory device. ENUM_RESPONSE to the request of the present step asks for the next one; the last records the capacity
and makes the port Active. ENUM_TIMEOUT and MEMORY_ACTIVE_TIMEOUT end it with error 7 and 6, the port Stopped (R245, R246). -/
def Sys2Proof.Claims.EnumerationsRun : Prop :=
  (∀ x ∈ ([(1, EnumResp.header true 0x1F3A 0x5121, fun e : EnumSt => { e with step := 2, ven := 0x1F3A, dev := 0x5121 }),
      (2, .capable true, fun e => { e with step := 3 }), (3, .active true, fun e => { e with step := 4 }),
      (3, .active false, fun e => { e with step := 3 }),
      (4, .identify true 3 8, fun e => { e with step := 5, volatile := 3, total := 8 }),
      (5, .enabled, fun e => { e with step := 6 })] : List (Nat × EnumResp × (EnumSt → EnumSt))),
    ∀ (p : Fin 256) (e : EnumSt) (s : State), (s.port p.val).enum = some e → e.step = x.1 →
      ∃ t, exec (.enumResponse p x.2.1 false) s = .next t ∧ (t.port p.val).enum = some (x.2.2 e) ∧
        t.out = s.out ++ [.enumRequest p.val (x.2.2 e).step] ∧ t.regs = s.regs ∧ t.mem = s.mem) ∧
  (∀ (p : Fin 256) (e : EnumSt) (s : State), (s.port p.val).enum = some e → e.step = 6 →
    ∃ t, exec (.enumResponse p (.commit true) false) s = .next t ∧ (t.port p.val).enum = none ∧ t.fld PRT_STS.STATE p.val = 4 ∧
      t.fld PRT_MEM_CAP.CAP_G p.val = min e.total 0x2000 ∧ t.fld PRT_STS.ENUM_ERR p.val = 0 ∧ t.mem = s.mem) ∧
  (∀ (p : Fin 256) (e : EnumSt) (s : State), (s.port p.val).enum = some e →
    (∃ t, exec (.enumTimeout p) s = .next t ∧ (t.port p.val).enum = none ∧ t.fld PRT_STS.STATE p.val = 1 ∧
      t.fld PRT_STS.ENUM_ERR p.val = 7 ∧ (t.fn (fidPort p.val)).run = .stopped ∧ t.mem = s.mem) ∧
    (e.step = 3 → ∃ t, exec (.memoryActiveTimeout p) s = .next t ∧ (t.port p.val).enum = none ∧
      t.fld PRT_STS.STATE p.val = 1 ∧ t.fld PRT_STS.ENUM_ERR p.val = 6 ∧ (t.fn (fidPort p.val)).run = .stopped ∧ t.mem = s.mem))

/-- Viral and link services, and device ports. VIRAL_FROM_HOST records and reports; VIRAL_FROM_MEMORY_DEVICE takes the link down with cause
4. PME_TURN_OFF is acknowledged; L0P_REQUEST is granted where L0P_EN is set and the link has the lanes; VPPB_SECONDARY_BUS_RESET resets the bound ports' links;
DEVICE_TLP goes to the bound host port through the core; DEVICE_CONFIG_WRITE of a host goes through the core to the bound
device, with Cache_Enable and Mem_Enable 0 in the DVSEC's Control register (R231, R240, R249). -/
def Sys2Proof.Claims.PortServicesAnswer : Prop :=
  (∀ (p : Fin 256) (s : State), s.flag PRT_STS.LUP p.val = true →
    (s.fld PRT_CTL.ROLE p.val = 1 → (∃ t, exec (.viralFromHost p) s = .next t ∧ t.flag PRT_STS.VIRAL_RX p.val = true ∧
      t.flt.reports = s.flt.reports ++ [slotPort p.val] ∧ t.mem = s.mem ∧ RegsBut s t (fun k => k = ⟨.PRT_STS, p.val, 0⟩)) ∧
      exec (.pmeTurnOff p) s = .next (s.emit (.pmeToAck p.val))) ∧
    (s.fld PRT_CTL.ROLE p.val = 2 → s.linkRole p.val = 2 → ∃ t, exec (.viralFromMemoryDevice p) s = .next t ∧ t.flag PRT_STS.VIRAL_RX p.val = true ∧
      t.flag PRT_STS.LUP p.val = false ∧ t.fld PRT_STS.LDN_CAUSE p.val = 4 ∧ (t.port p.val).dev = [] ∧ t.mem = s.mem) ∧
    (∀ w : Fin 5, s.fld PRT_CTL.ROLE p.val ≠ 4 →
      ∃ t, exec (.l0pRequest p w) s = .next t ∧ t.mem = s.mem ∧ t.out = s.out ++ [.l0p p.val (s.flag PRT_CTL.L0P_EN p.val &&
          decide (2 ^ w.val ≤ s.linkWidth p.val))] ∧
        (if s.flag PRT_CTL.L0P_EN p.val = true ∧ 2 ^ w.val ≤ s.linkWidth p.val then t.fld PRT_STS.WIDTH_NEG p.val = w.val
          else t.regs = s.regs))) ∧
  (∀ (p : Fin 256) (a : Fin 4096) (ctl : Bool) (v : Word) (h b : Nat) (s : State), s.boundTo p.val = some (h, b) →
    exec (.deviceConfigWrite p a ctl v) s = .next (s.send { body := .config a.val (if ctl then v &&& ~~~(5 : Word) else v), src := h,
                                                            dsts := [p.val], cls := 7, len := 24 })) ∧
  (∀ (h : Fin 256) (v : Fin 16) (s : State),
    ∃ (t : State) (ps : List Nat), exec (.vppbSecondaryBusReset h v) s = .next t ∧ t.out = s.out ++ ps.map Out.hotReset ∧ { t with out := s.out } = s ∧
      ∀ p, p ∈ ps ↔ p < 256 ∧ s.fld PRT_CTL.ROLE p = 3 ∧ s.flag PRT_BIND.VLD p = true ∧ s.fld PRT_BIND.HPORT p = h.val ∧
        s.fld PRT_BIND.VPPB p = v.val ∧ s.flag PRT_STS.LUP p = true) ∧
  (∀ (p : Fin 256) (posted : Bool) (n : Fin 257) (s : State), s.deviceSends p.val = true →
    exec (.deviceTlp p posted n) s = .next (s.send
      { body := .tlp posted n.val, src := p.val, dsts := [s.fld PRT_BIND.HPORT p.val], cls := if posted then 6 else 7, len := 16 + n.val }))

/-- The parts PortsTrainAndFall, EnumerationsRun and PortServicesAnswer together. -/
def Obligations.PortsTrainEnumerateAndServe : Prop :=
  Sys2Proof.Claims.PortsTrainAndFall ∧ Sys2Proof.Claims.EnumerationsRun ∧ Sys2Proof.Claims.PortServicesAnswer

/-! Security, FIFOs and the debug port (spec/14) -/

/-- SECURE_REGION_LOCK sets LOCK. TAMPER_ASSERT marks its input as seen, starts the wipe and reports; WIPE_COMPLETE of a wipe that no
lifecycle change has started leaves zeros in the secure region, and every other byte as it was, and counts (R365, R366, R369). -/
def Sys2Proof.Claims.SecureRegionLocksAndIsWiped : Prop :=
  (∀ (who : Requester) (s : State), s.Writes who ⟨.SPD_SEC_LOCK, 0, 0⟩ →
    ∃ t, exec (.secureRegionLock who) s = .next t ∧ t.flag SPD_SEC_LOCK.LOCK = true ∧ t.mem = s.mem ∧
      RegsBut s t (fun k => k = ⟨.SPD_SEC_LOCK, 0, 0⟩)) ∧
  (∀ (i : Fin 2) (s : State), ∃ t, exec (.tamperAssert i) s = .next t ∧
    t.flag (if i = 0 then SPD_TAMP_STS.T0_SEEN else SPD_TAMP_STS.T1_SEEN) = true ∧ t.flag SPD_TAMP_STS.BUSY = true ∧
    i.val ∈ t.chip.tamper ∧ t.flt.reports = s.flt.reports ++ [slotTamper] ∧ t.mem = s.mem ∧
    RegsBut s t (fun k => k = ⟨.SPD_TAMP_STS, 0, 0⟩)) ∧
  (∀ (released : List (Fin 2)) (s : State), s.flag SPD_TAMP_STS.BUSY = true → s.chip.target = none →
    ∃ t, exec (.wipeComplete released) s = .next t ∧ (∀ a, t.byte a = if secureBase ≤ a then 0 else s.byte a) ∧
      t.flag SPD_TAMP_STS.BUSY = false ∧ t.fld SPD_TAMP_STS.WIPES = min 0xFFFF (s.fld SPD_TAMP_STS.WIPES + 1) ∧
      RegsBut s t (fun k => k = ⟨.SPD_TAMP_STS, 0, 0⟩))

/-- FIFO_POINTER_RESET empties a queue, counts and reports; of a drain tracker it stops the port's draining, which DRAIN_TRACKER_RESTART
resumes once the port's table is empty: an EPOCH that drained completes with 0 (R374 to R376). -/
def Sys2Proof.Claims.FifosReset : Prop :=
  (∀ s : State,
    (∃ t, exec (.fifoPointerReset .fault) s = .next t ∧ t.flt.faultQ = [] ∧ t.fld FLT_FQ_CNT.COUNT = 0 ∧
      t.flag FLT_FQ_STS.FULL = false ∧ t.fld FLT_FQ_STS.UE_PMM = min 0xFF (s.fld FLT_FQ_STS.UE_PMM + 1) ∧
      t.flt.reports = s.flt.reports ++ [slotFaultQ] ∧ t.flt.safeQ = s.flt.safeQ ∧ t.mem = s.mem) ∧
    (∃ t, exec (.fifoPointerReset .safe) s = .next t ∧ t.flt.safeQ = [] ∧ t.fld FLT_SQ_CNT.COUNT = 0 ∧
      t.flag FLT_SQ_STS.FULL = false ∧ t.fld FLT_SQ_STS.UE_PMM = min 0xFF (s.fld FLT_SQ_STS.UE_PMM + 1) ∧
      t.flt.reports = s.flt.reports ++ [slotSafeQ] ∧ t.flt.faultQ = s.flt.faultQ ∧ t.mem = s.mem) ∧
    (∀ p : Fin 256, s.role p.val = 1 ∨ s.role p.val = 4 →
      ∃ t, exec (.fifoPointerReset (.tracker p)) s = .next t ∧ (t.port p.val).trackerDown = true ∧
        t.flt.reports = s.flt.reports ++ [slotTracker p.val] ∧ t.mem = s.mem ∧
        RegsBut s t (fun k => k = ⟨.PRT_EPT_STS, p.val, 0⟩))) ∧
  (∀ (p : Fin 256) (s : State), (s.port p.val).trackerDown = true → (s.port p.val).out = [] →
    ((s.port p.val).epochs = [] → exec (.drainTrackerRestart p) s =
      .next ((s.modPort p.val (fun q => { q with trackerDown := false })).replayHeld p.val none)) ∧
    (∀ e rest, (s.port p.val).epochs = e :: rest → e.draining.isSome = true → exec (.drainTrackerRestart p) s =
      .next (((((s.modPort p.val (fun q => { q with trackerDown := false })).modPort p.val (fun q => { q with epochs := rest })).finishOpt
        e.seat e.rd 0)).replayHeld p.val none)))

/-- DEBUG_ACCESS that reaches the debug master is answered with an error where the protection unit refuses it, and the violation counts;
an access that is permitted, on a route that works, reads the register named, or writes it (R362, R364, R367, R381). -/
def Sys2Proof.Claims.DebugAccessesAreChecked : Prop :=
  ∀ (a : Fin 67108864) (wide : Bool) (w : Option Word) (lost session : Bool) (o : WriteObs) (s u : State),
    s.chip.dead = false → s.debugReaches = true → a.val % (if wide then 8 else 4) = 0 → windowOffset a.val = none →
    s.nocHeld (Requester.debug).node (targetOf a.val) = false →
    u = s.setFld SPD_DBG_CTL.SESS (bit session) →
    (∀ x, u.refusal .debug true (if w.isSome then .write else .read) a.val (if wide then 8 else 4) = some x →
      ∃ t, exec (.debugAccess a wide w lost session o) s = .next t ∧ t.out = s.out ++ [.debug 0 true false] ∧
        t.fld MPU_VCNT.CNT 6 = min 0xFFFFFFFF (s.fld MPU_VCNT.CNT 6 + 1) ∧ t.mem = s.mem ∧
        RegsBut s t (fun k => k.r = .SPD_DBG_CTL ∨ k.r = .MPU_VCNT ∨ k.r = .MPU_VIOL)) ∧
    (u.refusal .debug true (if w.isSome then .write else .read) a.val (if wide then 8 else 4) = none →
      ∀ n, u.nocTry .debug a.val wide w.isSome o.noc = (.ok, n) →
      (∀ v, w = some v → exec (.debugAccess a wide w lost session o) s =
        .next ((n.writeReg .debug a.val wide v o).emit (.debug 0 false false))) ∧
      (w = none → exec (.debugAccess a wide w lost session o) s =
        .next ((n.readSpace .debug a.val wide o.spad).2.1.emit
          (.debug (n.readSpace .debug a.val wide o.spad).1 (n.readSpace .debug a.val wide o.spad).2.2 false))))

/-- The parts SecureRegionLocksAndIsWiped, FifosReset and DebugAccessesAreChecked together. -/
def Obligations.SecurityAndFifos : Prop :=
  Sys2Proof.Claims.SecureRegionLocksAndIsWiped ∧ Sys2Proof.Claims.FifosReset ∧ Sys2Proof.Claims.DebugAccessesAreChecked

/-! The network on chip (spec/15) -/

/-- A request that runs out of time, where the engine's NI holds nothing back, is counted and reported, and its requester gets an abort, or
all ones in its register. BRIDGE_DOWN of a
bridge that is up counts and reports; BRIDGE_UP sets UP. ALERT_AT_ROOT discards a reserved kind, and sends the oldest alert to every NI that
it names once each has room; ALERT_DELIVERY hands an NI's oldest alert on (R385, R393, R396, R397, R399, R401). -/
def Obligations.NocErrorsAndAlerts : Prop :=
  (∀ (i : Nat) (q : NocReq) (s : State), s.noc.outstanding[i]? = some q →
    (∀ m, m < 16 → (∀ w ∈ (s.seat m).posted, w.held = false) ∧ ∀ w, (s.seat m).wait = some w → w.begun = true) →
    (∀ p, q.who = .bar0 p → q.write = false → ∃ t, exec (.nocTimeout i) s = .next t ∧
      t.noc.outstanding = s.noc.outstanding.eraseIdx i ∧ t.flt.reports = s.flt.reports ++ [slotNoc] ∧
      t.fld NOC_ERR_CNT.CNT = min 0xFFFFFFFF (s.fld NOC_ERR_CNT.CNT + 1) ∧ Out.bar p .abort ∈ t.out ∧ t.mem = s.mem) ∧
    (∀ n x r rd, q.who = .seat n → q.write = false → s.seatState n = seatWaiting →
      (s.seat n).wait = some ⟨.frd q.addr q.wide x r, rd, true⟩ → ∃ t, exec (.nocTimeout i) s = .next t ∧
      t.noc.outstanding = s.noc.outstanding.eraseIdx i ∧ t.flt.reports = s.flt.reports ++ [slotNoc] ∧
      t.fld NOC_ERR_CNT.CNT = min 0xFFFFFFFF (s.fld NOC_ERR_CNT.CNT + 1) ∧ t.seatState n = seatReady ∧
      WritesReg s t n rd (allOnesOf q.wide) ∧ t.mem = s.mem)) ∧
  (∀ (b : Fin 18) (s : State),
    (s.flag NOC_BR_STS.UP b.val = true → ∃ t, exec (.bridgeDown b) s = .next t ∧ t.flag NOC_BR_STS.UP b.val = false ∧
      t.fld NOC_BR_STS.DOWNS b.val = min 0xFFFF (s.fld NOC_BR_STS.DOWNS b.val + 1) ∧
      t.flt.reports = s.flt.reports ++ [slotNoc] ∧ t.mem = s.mem ∧ RegsBut s t (fun k => k = ⟨.NOC_BR_STS, b.val, 0⟩)) ∧
    (∃ t, exec (.bridgeUp b) s = .next t ∧ t.flag NOC_BR_STS.UP b.val = true ∧
      t.fld NOC_BR_STS.DOWNS b.val = s.fld NOC_BR_STS.DOWNS b.val ∧ t.mem = s.mem ∧
      RegsBut s t (fun k => k = ⟨.NOC_BR_STS, b.val, 0⟩))) ∧
  (∀ (a : Alert) (rest : List Alert) (s : State), s.noc.send = a :: rest →
    (alertKind a.msg = 0 → ∃ t, exec .alertAtRoot s = .next t ∧ t.noc.send = rest ∧ t.noc.recv = s.noc.recv ∧
      t.fld NOC_ERR_CNT.CNT = min 0xFFFFFFFF (s.fld NOC_ERR_CNT.CNT + 1) ∧ t.mem = s.mem) ∧
    (alertKind a.msg ≠ 0 → (∀ n ∈ s.named a, (s.railIn n).length < 16) → ∃ t, exec .alertAtRoot s = .next t ∧
      t.noc.send = rest ∧ (∀ n, t.railIn n = if n ∈ s.named a then s.railIn n ++ [a] else s.railIn n) ∧ t.regs = s.regs ∧
      t.mem = s.mem)) ∧
  (∀ (n : Fin 238) (a : Alert) (rest : List Alert) (s : State), s.railIn n.val = a :: rest →
    exec (.alertDelivery n) s = .next ((s.setRailIn n.val rest).handAlert n.val a))

/-! Bays (spec/18) -/

/-- What a trip of bay k leaves: it is Tripped with its cause, its 12 V gates off, feed X off for cause 3 alone, one more retry and trip
counted, the hold-off of its settings in force running, and its source reported (R448, R454). -/
def Sys2Proof.Claims.Tripped (s t : State) (k cause : Nat) : Prop :=
  t.bayState k = bayTripped ∧ t.gate k 0 = false ∧ t.gate k 1 = false ∧ t.gate k 2 = (if cause = 3 then false else s.gate k 2) ∧
  t.flag BAY_STS.PG k = false ∧ t.fld BAY_STS.TCAUSE k = cause ∧ t.fld BAY_STS.RETRY k = min 7 (s.fld BAY_STS.RETRY k + 1) ∧
  t.fld BAY_TRIP_CNT.CNT k = min 0xFFFFFFFF (s.fld BAY_TRIP_CNT.CNT k + 1) ∧
  t.fld BAY_HOLD.HOLD k = holdMs (bitsOf ((s.bay k).set 0) 23 20) ∧ t.flt.reports = s.flt.reports ++ [slotBay k] ∧ t.mem = s.mem

/-- The trips of a bay that is not Damaged and has a feed on. COMPARATOR_TRIP latches without the controller; the controller takes the
lowest latched feed. FAULT_TIMER_EXPIRY: cause 4, and 3 for feed X; OVER_TEMPERATURE_TRIP: 5; FALLBACK_LIMIT_TRIP: 6; RAMP_TIMEOUT: 7; the
loss of the second input: 8 (R445 to R449, R452). -/
def Obligations.BaysTrip : Prop :=
  (∀ (b : Fin 32) (f : Fin 3) (s : State), s.gate b.val f.val = true → f.val ∉ (s.bay b.val).latched →
    ∃ t, exec (.comparatorTrip b f) s = .next t ∧ (t.bay b.val).latched = (s.bay b.val).latched ++ [f.val] ∧
      { t with bays := s.bays } = s) ∧
  (∀ (b : Fin 32) (tie : Bool) (s : State), s.bayAlive = true → s.bayState b.val ≠ bayDamaged → s.feedOn b.val = true →
    (∀ f, [0, 1, 2].find? (fun f => (s.bay b.val).latched.contains f && s.gate b.val f) = some f →
      ∃ t, exec (.comparatorTripTaken b tie) s = .next t ∧ Sys2Proof.Claims.Tripped s t b.val (f + 1)) ∧
    (∀ (x : Bool) (o : BayObs), s.timerRuns b.val x o = true →
      ∃ t, exec (.faultTimerExpiry b x tie o) s = .next t ∧ Sys2Proof.Claims.Tripped s t b.val (if x then 3 else 4)) ∧
    (∀ o : BayObs, ((s.sample b.val o).estAtLeast b.val 0 (bitsOf ((s.bay b.val).set 1) 31 24) = true ∨
        (s.sample b.val o).estAtLeast b.val 1 (bitsOf ((s.bay b.val).set 1) 31 24) = true) →
      ∃ t, exec (.overTemperatureTrip b o tie) s = .next t ∧ Sys2Proof.Claims.Tripped s t b.val 5) ∧
    (∀ o : BayObs, (overFallback ((s.bay b.val).set 4) (s.estSource b.val 0) o.a ((s.sample b.val o).bay b.val).a
          (s.bay b.val).gateA = true ∨
        overFallback ((s.bay b.val).set 4) (s.estSource b.val 1) o.b ((s.sample b.val o).bay b.val).b
          (s.bay b.val).gateB = true) →
      ∃ t, exec (.fallbackLimitTrip b o tie) s = .next t ∧ Sys2Proof.Claims.Tripped s t b.val 6) ∧
    (s.bayState b.val = bayRamping → ∃ t, exec (.rampTimeout b tie) s = .next t ∧ Sys2Proof.Claims.Tripped s t b.val 7) ∧
    (∀ (f : Fin 2) (g : Nat), (s.bay b.val).lost = [g] → g ≠ f.val →
      ∃ t, exec (.inputLoss b f tie) s = .next t ∧ (t.bay b.val).lost = [g, f.val] ∧ Sys2Proof.Claims.Tripped s t b.val 8))

/-- Ramps, power-good and retries of a bay. ESTIMATE_SOURCE_CHANGE records the sources; RAMP_HOLD and RAMP_RESUME hold and release the
gates; POWER_GOOD in the window: On; HOLD_OFF_EXPIRY of a Tripped bay: Cooling, or Off once its retries are used up; RAMP_BEGIN of a cooled
bay: Ramping, with every feed raised whose input is there; ON_RETRY_RESET: no retry used (R444, R445, R448 to R450, R454, R457). -/
def Obligations.BaysRampAndRetry : Prop :=
  ∀ (b : Fin 32) (o : BayObs) (s : State), s.bayAlive = true →
    (∃ t, exec (.estimateSourceChange b o) s = .next t ∧
      t.fld BAY_STS.ESTA b.val = feedSource (bitOf ((s.bay b.val).set 0) 31) o.a o.amb ∧
      t.fld BAY_STS.ESTB b.val = feedSource (bitOf ((s.bay b.val).set 0) 30) o.b o.amb ∧ t.bayState b.val = s.bayState b.val ∧
      t.mem = s.mem) ∧
    (s.bayState b.val = bayRamping ∨ s.bayState b.val = bayOn →
      ((s.sample b.val o).estAtLeast b.val 0 (bitsOf ((s.bay b.val).set 1) 15 8) = true ∨
        (s.sample b.val o).estAtLeast b.val 1 (bitsOf ((s.bay b.val).set 1) 15 8) = true) →
      exec (.rampHold b o) s = .next ((s.sample b.val o).modBay b.val (fun q => { q with held := true }))) ∧
    ((s.bay b.val).held = true → (∀ f, f < 2 → s.estSource b.val f = 2 ∨
        (s.sample b.val o).estCode b.val f ≤ 4 * (bitsOf ((s.bay b.val).set 1) 15 8 - 5 + 40)) →
      exec (.rampResume b o) s = .next ((s.sample b.val o).modBay b.val (fun q => { q with held := false }))) ∧
    (∀ vo : Fin 65536, s.bayState b.val = bayRamping → 100 * bitsOf ((s.bay b.val).set 2) 23 16 ≤ vo.val →
      vo.val ≤ 100 * bitsOf ((s.bay b.val).set 2) 15 8 →
      (∃ t, exec (.powerGood b vo false) s = .next t ∧ t.bayState b.val = bayOn ∧ t.flag BAY_STS.PG b.val = true ∧ t.mem = s.mem) ∧
      (∃ t, exec (.powerGood b vo true) s = .next t ∧ t.bayState b.val = bayRamping ∧
        t.fld BAY_NM_CNT.CNT b.val = min 0xFFFFFFFF (s.fld BAY_NM_CNT.CNT b.val + 1) ∧ t.mem = s.mem)) ∧
    (s.fld BAY_HOLD.HOLD b.val ≠ 0 → ∃ t, exec (.holdOffExpiry b) s = .next t ∧ t.fld BAY_HOLD.HOLD b.val = 0 ∧ t.mem = s.mem ∧
      (s.bayState b.val ≠ bayTripped → t.bayState b.val = s.bayState b.val) ∧
      (s.bayState b.val = bayTripped → s.fld BAY_STS.RETRY b.val ≤ bitsOf ((s.bay b.val).set 0) 26 24 →
        t.bayState b.val = bayCooling) ∧
      (s.bayState b.val = bayTripped → bitsOf ((s.bay b.val).set 0) 26 24 < s.fld BAY_STS.RETRY b.val →
        t.bayState b.val = bayIsOff ∧ t.fld BAY_STS.OFFWHY b.val = 2)) ∧
    (s.bayState b.val = bayCooling → s.fld BAY_HOLD.HOLD b.val = 0 → (s.sample b.val o).cooled b.val 0 = true →
      (s.sample b.val o).cooled b.val 1 = true → s.baySafe = false →
      ∃ t, exec (.rampBegin b o) s = .next t ∧ t.bayState b.val = bayRamping ∧ t.gate b.val 2 = true ∧
        (∀ f, f < 2 → f ∉ (s.bay b.val).lost → t.gate b.val f = true) ∧ (t.bay b.val).held = false ∧ t.mem = s.mem) ∧
    (s.bayState b.val = bayOn → ∃ t, exec (.onRetryReset b) s = .next t ∧ t.fld BAY_STS.RETRY b.val = 0 ∧
      t.bayState b.val = bayOn ∧ t.mem = s.mem ∧ RegsBut s t (fun k => k = ⟨.BAY_STS, b.val, 0⟩))

/-- Presence, the button, the inputs, sharing, damage, lights and lockout. A bay that loses its device is Empty, its gates off, but
stays Damaged; a Damaged bay keeps that state when a device comes. A long press turns a running bay off with reason 3. The loss of one
input turns its feed off; its return turns it on again in a bay that runs. INDICATOR_SHIFT sends 128 bits, bay 31 first. BAY_LOCKOUT turns
every gate off; its release leaves every bay as after reset (R451 to R454, R460, R462, R463, R538). -/
def Obligations.BaysWatchTheirDevices : Prop :=
  (∀ (b : Fin 32) (s : State), s.bayAlive = true →
    (s.flag BAY_STS.PRSNT b.val = false → ∀ x ∈ [(bayEmpty, bayPresent), (bayDamaged, bayDamaged)], s.bayState b.val = x.1 →
      ∃ t, exec (.presenceQualified b) s = .next t ∧ t.flag BAY_STS.PRSNT b.val = true ∧ t.bayState b.val = x.2 ∧ t.mem = s.mem) ∧
    (s.flag BAY_STS.PRSNT b.val = true ∨ (s.bayState b.val ≠ bayEmpty ∧ s.bayState b.val ≠ bayDamaged) → ∀ tie : Bool, ∃ t, exec (.presenceLost b tie) s = .next t ∧
      t.flag BAY_STS.PRSNT b.val = false ∧ t.mem = s.mem ∧ (s.bayState b.val = bayDamaged → t.bayState b.val = bayDamaged) ∧
      (s.bayState b.val ≠ bayDamaged → t.bayState b.val = bayEmpty ∧ t.feedOn b.val = false ∧ t.fld BAY_STS.RETRY b.val = 0)) ∧
    (s.flag BAY_STS.ATTN b.val = false → ∃ t, exec (.attnPress b) s = .next t ∧ t.flag BAY_STS.ATTN b.val = true ∧
      t.bayState b.val = s.bayState b.val ∧ t.mem = s.mem) ∧
    (∃ t, exec (.attnRelease b) s = .next t ∧ t.flag BAY_STS.ATTN b.val = false ∧ t.mem = s.mem ∧
      RegsBut s t (fun k => k = ⟨.BAY_STS, b.val, 0⟩)) ∧
    (s.flag BAY_STS.ATTN b.val = true → bitOf ((s.bay b.val).set 0) 29 = true →
      (s.bayState b.val = bayRamping ∨ s.bayState b.val = bayOn) →
      ∃ t, exec (.attnLongPress b) s = .next t ∧ t.bayState b.val = bayIsOff ∧ t.fld BAY_STS.OFFWHY b.val = 3 ∧
        t.feedOn b.val = false ∧ t.mem = s.mem) ∧
    (∀ (f : Fin 2) (tie : Bool),
      ((s.bay b.val).lost = [] → ∃ t, exec (.inputLoss b f tie) s = .next t ∧ (t.bay b.val).lost = [f.val] ∧
        t.gate b.val f.val = false ∧ t.flag BAY_STS.SINGLE b.val = true ∧ t.bayState b.val = s.bayState b.val ∧ t.mem = s.mem) ∧
      ((s.bay b.val).lost = [f.val] → ∃ t, exec (.inputReturn b f) s = .next t ∧ (t.bay b.val).lost = [] ∧
        t.flag BAY_STS.SINGLE b.val = false ∧ t.mem = s.mem ∧
        t.gate b.val f.val = (if s.bayState b.val = bayOn ∨ s.bayState b.val = bayRamping then true else s.gate b.val f.val))) ∧
    (s.gate b.val 0 = true → s.gate b.val 1 = true → s.flag BAY_STS.SHARE b.val = false →
      ∃ t, exec (.shareError b) s = .next t ∧ t.flag BAY_STS.SHARE b.val = true ∧
        t.flt.reports = s.flt.reports ++ [slotBay b.val] ∧ t.mem = s.mem) ∧
    (s.flag BAY_STS.SHARE b.val = true → ∃ t, exec (.shareClear b) s = .next t ∧ t.flag BAY_STS.SHARE b.val = false ∧
      t.flt.reports = s.flt.reports ∧ t.mem = s.mem) ∧
    (∀ x ∈ [((0 : Fin 3), BAY_STS.DMGA, false), (1, BAY_STS.DMGB, false), (2, BAY_STS.DMGX, true)],
      s.gate b.val x.1.val = x.2.2 → s.bayState b.val ≠ bayDamaged →
      ∃ t, exec (.damageFound b x.1) s = .next t ∧ t.bayState b.val = bayDamaged ∧ t.flag x.2.1 b.val = true ∧
        t.feedOn b.val = false ∧ t.flt.reports = s.flt.reports ++ [slotBay b.val] ∧ t.mem = s.mem)) ∧
  (∀ (slow fast : Bool) (s : State), s.bayAlive = true →
    ∃ (t : State) (l : List Bool), exec (.indicatorShift slow fast) s = .next t ∧ t.out = s.out ++ [.indicators l] ∧
      { t with out := s.out } = s ∧ l.length = 128 ∧
      ∀ k j, k < 32 → j < 4 → l[4 * (31 - k) + j]? = some (lit slow fast (bitsOf (s.bayInd k) (2 * j + 1) (2 * j)))) ∧
  (∀ s : State, s.bayAlive = true → ∃ t, exec .bayLockout s = .next t ∧ t.bayAlive = false ∧
    t.flag GLB_PWR_STS.BAY_LOCK_STK = true ∧ (∀ k, k < 32 → t.feedOn k = false) ∧ t.mem = s.mem) ∧
  (∀ s : State, s.bayAlive = false → ∃ t, exec .bayLockoutRelease s = .next t ∧ t.bayAlive = true ∧
    (∀ k, k < 32 → t.bay k = {} ∧ t.rd ⟨.BAY_STS, k, 0⟩ = RKey.reset ⟨.BAY_STS, k, 0⟩ ∧ (t.fn (fidBay k)).run = .stopped) ∧
    t.mem = s.mem)

/-! The fault collector (spec/19) -/

/-- FAULT_REPORT of the first report of its unit, outside the safe state: counted; an enabled source that is not severe is pending, its window open, its window count one
more; with that count at NSEV it is severe, its window closed, its action fired and recorded. FAULT_WINDOW_CLOSE clears the window count.
SOURCE_CLEAR clears a source's status, or is refused and counted while the cause is present. In the safe state a report goes to the safe
queue (R474 to R476, R479, R490). -/
def Sys2Proof.Claims.FaultReportsAreClassified : Prop :=
  (∀ (n : Fin 1536) (tie : Bool) (s : State), slotReserved n.val = false →
    s.flt.reports.find? (fun m => slotUnit m == slotUnit n.val) = some n.val →
    (s.safe = true → s.flt.safeQ.length + 8 < 32 → ∃ t, exec (.faultReport n tie) s = .next t ∧
      t.flt.reports = s.flt.reports.erase n.val ∧
      t.flt.safeQ = s.flt.safeQ ++ [faultRecord 0x11 0 n.val (s.fld FLT_SRC_STS.WCNT n.val) 0] ∧
      t.fld FLT_SRC_TOT.CNT n.val = min 0xFFFFFFFF (s.fld FLT_SRC_TOT.CNT n.val + 1) ∧ t.mem = s.mem) ∧
    (s.safe = false → s.flag FLT_SRC_CFG.EN n.val = true → s.flag FLT_SRC_STS.SEVERE n.val = false →
      ∀ w, w = (if s.flag FLT_SRC_STS.WOPEN n.val then min 0xFF (s.fld FLT_SRC_STS.WCNT n.val + 1) else 1) →
      (w < s.fld FLT_SRC_CFG.NSEV n.val → ∃ t, exec (.faultReport n tie) s = .next t ∧
        t.flt.reports = s.flt.reports.erase n.val ∧ t.flag FLT_SRC_STS.PEND n.val = true ∧
        t.flag FLT_SRC_STS.SEVERE n.val = false ∧ t.flag FLT_SRC_STS.WOPEN n.val = true ∧ t.fld FLT_SRC_STS.WCNT n.val = w ∧
        t.fld FLT_SRC_TOT.CNT n.val = min 0xFFFFFFFF (s.fld FLT_SRC_TOT.CNT n.val + 1) ∧ t.mem = s.mem) ∧
      (s.fld FLT_SRC_CFG.NSEV n.val ≤ w → ∃ u : State, u.flag FLT_SRC_STS.SEVERE n.val = true ∧ u.flag FLT_SRC_STS.PEND n.val = true ∧
        u.flag FLT_SRC_STS.WOPEN n.val = false ∧ u.mem = s.mem ∧ u.fns = s.fns ∧
        exec (.faultReport n tie) s =
          .next ((u.fire n.val).pushFault (faultRecord 2 7 n.val w (s.fld FLT_SRC_CFG.ACTION n.val)))))) ∧
  (∀ (n : Fin 1536) (s : State), s.flag FLT_SRC_STS.WOPEN n.val = true →
    ∃ t, exec (.faultWindowClose n) s = .next t ∧ t.flag FLT_SRC_STS.WOPEN n.val = false ∧ t.fld FLT_SRC_STS.WCNT n.val = 0 ∧
      t.flag FLT_SRC_STS.PEND n.val = s.flag FLT_SRC_STS.PEND n.val ∧ t.mem = s.mem ∧
      RegsBut s t (fun k => k = ⟨.FLT_SRC_STS, n.val, 0⟩)) ∧
  (∀ (who : Requester) (n : Fin 1536) (s : State), s.Writes who ⟨.FLT_SRC_STS, n.val, 0⟩ → slotReserved n.val = false →
    (s.causePresent n.val = true → ∃ t, exec (.sourceClear who n) s = .next t ∧
      t.fld FLT_SRC_STS.REFUSED n.val = min 0xFF (s.fld FLT_SRC_STS.REFUSED n.val + 1) ∧
      t.fld FLT_REFUSE_CNT.CNT = min 0xFFFFFFFF (s.fld FLT_REFUSE_CNT.CNT + 1) ∧
      t.flag FLT_SRC_STS.PEND n.val = s.flag FLT_SRC_STS.PEND n.val ∧ t.mem = s.mem) ∧
    (s.causePresent n.val = false → ∃ t, exec (.sourceClear who n) s = .next t ∧ t.rd ⟨.FLT_SRC_STS, n.val, 0⟩ = 0 ∧ t.mem = s.mem ∧
      RegsBut s t (fun k => k = ⟨.FLT_SRC_STS, n.val, 0⟩)))

/-- SAFE_REQUEST and PARITY_ERROR in a protected word bring the safe state, with a notice on its way to every unit. SAFE_NOTICE_PORT makes
the island's ports safe; SAFE_NOTICE_ENGINE halts seats 1 to 15 and starts seat 0 at the safe vector, or halts it; SAFE_NOTICE_BAY reaches
the bay controller. A privileged seat's pop takes the queue's head record (R372, R480, R484 to R488). -/
def Sys2Proof.Claims.TheSafeStateIsTaken : Prop :=
  (∀ (who : Requester) (s : State), s.Writes who ⟨.FLT_CTL, 0, 0⟩ → s.safe = false →
    ∃ t, exec (.safeRequest who) s = .next t ∧ t.safe = true ∧ t.flt.notices.ports = List.range 64 ∧
      t.flt.notices.engine = true ∧ t.flt.notices.bay = true ∧ t.mem = s.mem) ∧
  (∀ (w : Fin 67108864) (k : RKey) (off c : Nat) (s : State), regAt (w.val / 4 * 4) = some (k, off) → parityCause k.r = some c →
    w.val / 4 * 4 ∉ s.flt.bad →
    ∃ t, exec (.parityError w) s = .next t ∧ t.safe = true ∧ t.flt.bad = s.flt.bad ++ [w.val / 4 * 4] ∧ t.mem = s.mem) ∧
  (∀ (o : Fin 64) (s : State), o.val ∈ s.flt.notices.ports →
    ∃ t, exec (.safeNoticePort o) s = .next t ∧ t.flt.notices.ports = s.flt.notices.ports.filter (· != o.val) ∧
      (∀ p ∈ portsOf o.val, (t.port p).safe = true) ∧ t.mem = s.mem) ∧
  (∀ s : State, s.flt.notices.engine = true →
    ∃ t, exec .safeNoticeEngine s = .next t ∧ t.flt.notices.engine = false ∧ t.mem = s.mem ∧
      (∀ n, 0 < n → n < 16 → t.seatState n =
        if s.seatState n = seatReady ∨ s.seatState n = seatWaiting then seatHalted else s.seatState n) ∧
      (s.flag FLT_SAFE_VEC.VLD = true → t.seatState 0 = seatReady ∧ (t.seat 0).pc = 8 * s.fld FLT_SAFE_VEC.ADDR ∧
        t.flag ICF_SEAT_STS.INTRAP 0 = false) ∧
      (s.flag FLT_SAFE_VEC.VLD = false → t.seatState 0 = seatHalted)) ∧
  (∀ s : State, ∃ t, exec .safeNoticeBay s = .next t ∧ t.flt.notices.bay = false ∧ t.flt.notices.engine = s.flt.notices.engine ∧
    { t with flt := s.flt } = s) ∧
  (∀ (n : Fin 16) (rd : Fin 32) (w : Word) (q : List Word) (s : State), s.seatState n.val ≠ seatIdle → s.priv n.val = true →
    (fifoPop s.flt.faultQ = some (w, q) → ∃ t, exec (.faultQueuePop n rd) s = .next t ∧ t.flt.faultQ = q ∧
      WritesReg s t n.val rd.val w ∧ t.fld FLT_FQ_CNT.COUNT = q.length % 2 ^ 11 ∧ t.mem = s.mem) ∧
    (fifoPop s.flt.safeQ = some (w, q) → ∃ t, exec (.safeQueuePop n rd) s = .next t ∧ t.flt.safeQ = q ∧
      WritesReg s t n.val rd.val w ∧ t.fld FLT_SQ_CNT.COUNT = q.length % 2 ^ 11 ∧ t.mem = s.mem))

/-- The parts FaultReportsAreClassified and TheSafeStateIsTaken together. -/
def Obligations.FaultsAndTheSafeState : Prop :=
  Sys2Proof.Claims.FaultReportsAreClassified ∧ Sys2Proof.Claims.TheSafeStateIsTaken

/-! The performance monitor (spec/20) -/

/-- PMC_FREEZE sets or clears FRZ and FROZEN. PMC_FLUSH asks every island to send; PMC_CLEAR_ALL makes every counter 0 and discards what
is accumulated. ACCUMULATOR_SEND adds what an island has accumulated to its counter, empties it and answers a flush. PMC_COUNTER_CLEAR
makes its counter 0 (R494, R501, R502). -/
def Obligations.CountersFreezeFlushAndClear : Prop :=
  (∀ (who : Requester) (f : Bool) (s : State), s.Writes who ⟨.PMC_CTL, 0, 0⟩ →
    (∃ t, exec (.pmcFreeze who f) s = .next t ∧ t.flag PMC_CTL.FRZ = f ∧ t.flag PMC_STS.FROZEN = f ∧ t.pmc = s.pmc ∧ t.mem = s.mem ∧
      RegsBut s t (fun k => k = ⟨.PMC_CTL, 0, 0⟩ ∨ k = ⟨.PMC_STS, 0, 0⟩)) ∧
    (∃ t, exec (.pmcFlush who f) s = .next t ∧ t.flag PMC_CTL.FRZ = f ∧ t.pmc.flushing = List.range 0x9D ∧
      t.flag PMC_STS.FLUSH_BUSY = true ∧ t.mem = s.mem) ∧
    (∃ t, exec (.pmcClearAll who f) s = .next t ∧ t.flag PMC_CTL.FRZ = f ∧ t.pmc.acc = [] ∧ t.mem = s.mem ∧
      ∀ k, k.r = .PMC_GCNT ∨ k.r = .PMC_PCNT ∨ k.r = .PMC_SCNT → t.rd k = RKey.reset k)) ∧
  (∀ (i : Fin 157) (s : State),
    (∀ stale obs, ∃ t, exec (.accumulatorSend i stale obs) s = .next t ∧ t.pmc.flushing = s.pmc.flushing.filter (· != i.val) ∧
      t.flag PMC_STS.FLUSH_BUSY = !(s.pmc.flushing.filter (· != i.val)).isEmpty ∧ t.mem = s.mem ∧
      ∀ e ∈ t.pmc.acc, e.1.island ≠ i.val) ∧
    (∀ k n, s.pmc.acc.filter (fun e => e.1.island == i.val) = [(k, n)] → ∃ t, exec (.accumulatorSend i false []) s = .next t ∧
      t.rd k.count = wordOf (((s.rd k.count).toNat + n) % 2 ^ 64))) ∧
  (∀ (who : Requester) (bank : Fin 3) (i : Fin 1024) (j : Fin 8) (v : Word) (s : State),
    s.Writes who (counterKey bank i.val j.val) →
    ∃ t, exec (.pmcCounterClear who bank i j v) s = .next t ∧ t.rd (counterKey bank i.val j.val) = 0 ∧ t.mem = s.mem ∧
      RegsBut s t (fun k => k = counterKey bank i.val j.val))

/-! Resets, clocks, fuse load and boot (spec/21, spec/22) -/

/-- Resets. POWER_ON_RESET, and COLD_RESET and GLB_COLD_RESET_REQUEST while no burn and no commit runs, leave an empty scratchpad, the
boot ROM to run, and every register outside the fused and the retained ones at its reset value; LAST names the cause. WARM_RESET and
GLB_WARM_RESET_REQUEST keep the scratchpad and the bays, count and record the safe state. A reset in a burn or a commit waits. The queue
of commands stays (R9, R513 to R517). -/
def Sys2Proof.Claims.ResetsLeaveTheirState : Prop :=
  (∀ (c : Instr) (k : ResetKind) (s : State),
    ((∃ b, c = .powerOnReset b ∧ k = .powerOn) ∨ (s.chip.burn = none ∧ s.chip.target = none ∧
      ((c = .coldReset ∧ k = .coldPin) ∨
        ∃ who, c = .glbColdResetRequest who ∧ k = .coldReg who.resetReq ∧ s.Writes who ⟨.GLB_RST_CTL, 0, 0⟩))) →
    ∃ t, exec c s = .next t ∧ t.mem = [] ∧ t.bays = [] ∧ t.ports = [] ∧ t.flt.reports = [] ∧ t.chip.boot = .rom ∧
      t.chip.dead = false ∧ t.chip.fuses = s.chip.fuses ∧ t.chip.life = s.chip.life ∧ t.chip.keys = (match s.chip.burn with
        | some (1, slot, _) => (s.rowBad 1 slot).chip.keys
        | _ => s.chip.keys) ∧
      t.fld GLB_RST_STS.LAST = k.last ∧ t.fld GLB_RST_STS.REQ = k.req % 16 ∧ t.pending = s.pending ∧ t.out = s.out ∧
      ∀ x : RKey, x.r.row.domain ≠ .fuse →
        x.r ∉ [Reg.SPD_DBG_CTL, .GLB_RST_STS, .GLB_PWR_STS, .GLB_THERM_STS, .GLB_LIFECYCLE, .LN_STS] → t.rd x = RKey.reset x) ∧
  (∀ (c : Instr) (k : ResetKind) (s : State), s.chip.burn = none → s.chip.target = none → s.chip.dead = false →
    ((c = .warmReset ∧ k = .warmPin) ∨
      ∃ who, c = .glbWarmResetRequest who ∧ k = .warmReg who.resetReq ∧ s.Writes who ⟨.GLB_RST_CTL, 0, 0⟩) →
    ∃ t, exec c s = .next t ∧ t.mem = s.mem ∧ t.bays = s.bays ∧ t.ports = [] ∧ t.chip.boot = .rom ∧ t.chip.keys = s.chip.keys ∧
      t.fld GLB_RST_STS.LAST = k.last ∧ t.fld GLB_RST_STS.REQ = k.req % 16 ∧ t.flag GLB_RST_STS.SAFE = s.safe ∧
      t.fld GLB_RST_STS.WARM_CNT = min 0xFFFF (s.fld GLB_RST_STS.WARM_CNT + 1) ∧ t.pending = s.pending ∧ t.out = s.out) ∧
  (∀ s : State, s.chip.burn.isSome = true ∨ s.chip.target.isSome = true → s.chip.resetHeld = none →
    exec .coldReset s = .next { s with chip := { s.chip with resetHeld := some .coldPin } } ∧
    (s.chip.dead = false → exec .warmReset s = .next { s with chip := { s.chip with resetHeld := some .warmPin } }))

/-- Clocks and fuse load. REFCLK_LOSS marks its reference lost and not good, REFCLK_GOOD as good, HKCLK_LOSS sets HK_LOST. FUSE_LOAD of
good rows sets DONE, gives CODE by the lifecycle bits and lets the bridges train; of a bad one it stops the device in boot with row and cause, as does a core die's PLL; a
port island's PLL is recorded. RAIL_OUT_OF_TOLERANCE takes the lanes' locks and the links (R385, R510, R511, R518, R537). -/
def Sys2Proof.Claims.ClocksAndFusesAreRecorded : Prop :=
  (∀ (d : Fin 8) (s : State),
    (∃ t, exec (.refclkLoss d) s = .next t ∧ (t.fld GLB_CLK_STS.REF_LOST).testBit d.val = true ∧
      (t.fld GLB_CLK_STS.REF_OK).testBit d.val = false ∧ t.mem = s.mem) ∧
    (∃ t, exec (.refclkGood d) s = .next t ∧ (t.fld GLB_CLK_STS.REF_OK).testBit d.val = true ∧
      t.fld GLB_CLK_STS.REF_LOST = s.fld GLB_CLK_STS.REF_LOST ∧ t.mem = s.mem ∧ RegsBut s t (fun k => k = ⟨.GLB_CLK_STS, 0, 0⟩))) ∧
  (∀ s : State, ∃ t, exec .hkclkLoss s = .next t ∧ t.flag GLB_CLK_STS.HK_LOST = true ∧ t.mem = s.mem ∧
    RegsBut s t (fun k => k = ⟨.GLB_CLK_STS, 0, 0⟩)) ∧
  (∀ (row : Fin 256) (keyBad : List (Fin 4)) (fw user pwr : Bool) (s : State),
    s.flag FUSE_STS.DONE = false → s.flag FUSE_STS.FAIL = false →
    (fuseCause s.chip.fuses = 0 →
      ∃ t, exec (.fuseLoad 0 row keyBad fw user pwr) s = .next t ∧ t.flag FUSE_STS.DONE = true ∧
        t.chip.dead = s.chip.dead ∧ (∀ b, b < 18 → t.flag NOC_BR_STS.UP b = true) ∧ t.flag GLB_PWR_STS.FUSE_PWR = pwr ∧
        t.lifecycle = s.chip.life.code ∧ (∀ k ∈ keyBad, (t.keySlot k.val).revoked = true) ∧ t.mem = s.mem) ∧
    (∀ (c : Fin 5) (n : Nat), n = (if c.val ≠ 0 then c.val else fuseCause s.chip.fuses) → n ≠ 0 →
      ∃ t, exec (.fuseLoad c row keyBad fw user pwr) s = .next t ∧ t.flag FUSE_STS.FAIL = true ∧
      t.flag FUSE_STS.DONE = false ∧ t.fld FUSE_STS.ROW = row.val ∧ t.fld FUSE_STS.CAUSE = n ∧ t.chip.dead = true ∧
      t.mem = s.mem)) ∧
  (∀ s : State, (∃ t, exec (.pllLockTimeout none) s = .next t ∧ t.flag FUSE_STS.FAIL = true ∧ t.fld FUSE_STS.CAUSE = 5 ∧
      t.chip.dead = true ∧ t.mem = s.mem) ∧
    (∀ o : Fin 64, ∃ t, exec (.pllLockTimeout (some o)) s = .next t ∧ t.flag GLB_CLK_STS.PLL_FAIL = true ∧ o.val ∈ t.chip.pllFail ∧
      t.chip.dead = s.chip.dead ∧ t.mem = s.mem)) ∧
  (∀ s : State, exec .railOutOfTolerance s =
    .next ((s.each (List.range 576) (fun s n => s.loseLock n)).pcieDown (fun _ => true)))

/-- BOOT_SEQUENCE after a good fuse load. After a warm reset with the privileged region unchanged the firmware is entered again. Else slot a
is tried where BOOT_SEL names the flash, then slot b; a good image is entered with its source recorded, seat 0 Ready at its entry. With no
good slot the ROM halts for BOOT_SEL 0 and 3, and turns to the host for 1, as it does at once for 2. BOOT_HOST_GO hands it the host's image
(R520, R521). -/
def Sys2Proof.Claims.TheRomBoots : Prop :=
  (∀ (sel : Fin 4) (a b : List Byte) (s : State), s.chip.dead = false → s.chip.boot = .rom → s.flag FUSE_STS.DONE = true →
    (3 ≤ s.fld GLB_RST_STS.LAST → s.chip.digest = some s.regionDigest →
      ∃ t, exec (.bootSequence sel a b) s = .next t ∧ t.chip.boot = .firmware ∧ t.flag GLB_BOOT_STS.DONE = true ∧
        t.fld GLB_BOOT_STS.SOURCE = 3 ∧ t.seatState 0 = seatReady ∧ (t.seat 0).pc = s.chip.entry ∧ t.mem = s.mem) ∧
    (s.fld GLB_RST_STS.LAST < 3 → sel ≠ 2 →
      ∃ t, exec (.bootSequence sel a b) s = .next t ∧
        ((s.trySlot GLB_BOOT_STS.RES_A a).1 = 0 →
          t.chip.boot = .firmware ∧ t.flag GLB_BOOT_STS.DONE = true ∧ t.fld GLB_BOOT_STS.SOURCE = 0 ∧
          t.fld GLB_BOOT_STS.RES_A = 0 ∧ t.seatState 0 = seatReady ∧ (t.seat 0).pc = t.hdr 0 16 4) ∧
        ((s.trySlot GLB_BOOT_STS.RES_A a).1 ≠ 0 →
          ((s.trySlot GLB_BOOT_STS.RES_A a).2.trySlot GLB_BOOT_STS.RES_B b).1 = 0 →
          t.chip.boot = .firmware ∧ t.fld GLB_BOOT_STS.SOURCE = 1 ∧ t.fld GLB_BOOT_STS.RES_B = 0 ∧
          t.seatState 0 = seatReady ∧ (t.seat 0).pc = t.hdr 0 16 4) ∧
        ((s.trySlot GLB_BOOT_STS.RES_A a).1 ≠ 0 →
          ((s.trySlot GLB_BOOT_STS.RES_A a).2.trySlot GLB_BOOT_STS.RES_B b).1 ≠ 0 →
          (sel = 1 → t.chip.boot = .hostWait ∧ t.flag CORE_FEID_MAP.VLD 0xFFE = true) ∧
          (sel ≠ 1 → t.chip.boot = .halted ∧ t.seatState 0 = seatHalted))) ∧
    (s.fld GLB_RST_STS.LAST < 3 → sel = 2 →
      ∃ t, exec (.bootSequence sel a b) s = .next t ∧ t.chip.boot = .hostWait ∧ t.flag CORE_FEID_MAP.VLD 0xFFE = true)) ∧
  (∀ (who : Requester) (addr : BitVec 32) (len : Fin 1048576) (image : Option (List Byte)) (s u : State),
    s.Writes who ⟨.GLB_BOOT_HOST, 0, 0⟩ →
    u = (s.dropLatch who (RKey.addr ⟨.GLB_BOOT_HOST, 0, 0⟩) true).plainWrite ⟨.GLB_BOOT_HOST, 0, 0⟩
      (fieldAt 63 1 + fieldAt 20 addr.toNat + fieldAt 0 len.val) →
    exec (.bootHostGo who addr len image) s = .next (u.bootGo image) ∧ u.fld GLB_BOOT_HOST.HADDR = addr.toNat ∧
      u.fld GLB_BOOT_HOST.HLEN = len.val)

/-- The parts ResetsLeaveTheirState, ClocksAndFusesAreRecorded and TheRomBoots together. -/
def Obligations.ResetsClocksAndBoot : Prop :=
  Sys2Proof.Claims.ResetsLeaveTheirState ∧ Sys2Proof.Claims.ClocksAndFusesAreRecorded ∧ Sys2Proof.Claims.TheRomBoots

/-! Keys, versions, the lifecycle, temperature (spec/21, spec/22) -/

/-- KEY_SLOT_PROGRAM, KEY_SLOT_REVOKE, FW_MIN_VERSION_RAISE and USER_MIN_VERSION_RAISE while no burn runs: refused with 1, without VDD_FUSE
with 2, else the burn starts. FUSE_BURN_DONE: 0 and the row burnt, or 3 (R523). -/
def Sys2Proof.Claims.FuseBurnsRun : Prop :=
  (∀ (who : Requester) (slot : Fin 4) (src : Fin 131072) (s : State), s.Writes who ⟨.FUSE_PGM, 0, 0⟩ → s.flag FUSE_PGM.BUSY = false →
    ∀ x ∈ [(Instr.keySlotProgram who slot src, 1, slot.val, src.val), (.keySlotRevoke who slot, 2, slot.val, 0),
      (.fwMinVersionRaise who, 3, 0, 0), (.userMinVersionRaise who, 4, 0, 0)],
    ∃ t, exec x.1 s = .next t ∧ t.mem = s.mem ∧ RegsBut s t (fun k => k = ⟨.FUSE_PGM, 0, 0⟩) ∧
      t.fld FUSE_PGM.OP = x.2.1 ∧ t.fld FUSE_PGM.SLOT = x.2.2.1 ∧ t.fld FUSE_PGM.SRC = x.2.2.2 ∧
      (s.burnRefused x.2.1 x.2.2.1 = true → t.fld FUSE_PGM.RESULT = 1 ∧ t.chip = s.chip) ∧
      (s.burnRefused x.2.1 x.2.2.1 = false → s.flag GLB_PWR_STS.FUSE_PWR = false → t.fld FUSE_PGM.RESULT = 2 ∧ t.chip = s.chip) ∧
      (s.burnRefused x.2.1 x.2.2.1 = false → s.flag GLB_PWR_STS.FUSE_PWR = true → t.flag FUSE_PGM.BUSY = true ∧
        t.chip.burn = some (x.2.1, x.2.2.1, s.load (x.2.2.2 * 16) 48))) ∧
  (∀ (op slot hash : Nat) (s : State), s.chip.burn = some (op, slot, hash) → s.chip.resetHeld = none →
    (∃ t, exec (.fuseBurnDone true false) s = .next t ∧ t.fld FUSE_PGM.RESULT = 0 ∧ t.flag FUSE_PGM.BUSY = false ∧
      t.chip.burn = none ∧ (op = 1 → (t.keySlot slot).hash = some hash) ∧ (op = 2 → (t.keySlot slot).revoked = true) ∧
      (op = 3 → t.chip.fwMin = s.chip.fwMin + 1) ∧ (op = 4 → t.chip.userMin = s.chip.userMin + 1) ∧ t.mem = s.mem) ∧
    (∃ t, exec (.fuseBurnDone false false) s = .next t ∧ t.fld FUSE_PGM.RESULT = 3 ∧ t.flag FUSE_PGM.BUSY = false ∧
      t.chip.burn = none ∧ t.chip.keys = s.chip.keys ∧ t.chip.fwMin = s.chip.fwMin ∧ t.mem = s.mem))

/-- LIFECYCLE_TRANSITION while none runs, to the lifecycle g that it names, or that TARGET holds where the code is reserved: refused with 1 outside R524's list, with 2 without VDD_FUSE, with 3 where the burn does not verify;
else the bit is burnt, the commit runs and the secure region is being wiped. LIFECYCLE_COMMIT_DONE: the region is zero, CODE is the target, and a device
turned Returned has every operator key revoked, one turned Production its debug port closed (R366, R524, R525). -/
def Sys2Proof.Claims.LifecycleTransitionsCommit : Prop :=
  (∀ (who : Requester) (target : Fin 16) (v : Bool) (s : State), s.Writes who ⟨.GLB_LIFECYCLE, 0, 0⟩ →
    s.flag GLB_LIFECYCLE.BUSY = false →
    ∀ g, g = (if target.val ≤ lcReturned then target.val else s.fld GLB_LIFECYCLE.TARGET) →
    ∃ t, exec (.lifecycleTransition who target v) s = .next t ∧ t.lifecycle = s.lifecycle ∧ t.mem = s.mem ∧
      RegsBut s t (fun k => k = ⟨.GLB_LIFECYCLE, 0, 0⟩ ∨ k = ⟨.SPD_TAMP_STS, 0, 0⟩) ∧
      (transitionOk s.lifecycle g = false → t.fld GLB_LIFECYCLE.RESULT = 1 ∧ t.chip = s.chip) ∧
      (transitionOk s.lifecycle g = true →
        (s.flag GLB_PWR_STS.FUSE_PWR = false → t.fld GLB_LIFECYCLE.RESULT = 2 ∧ t.chip = s.chip) ∧
        (s.flag GLB_PWR_STS.FUSE_PWR = true → v = false → t.fld GLB_LIFECYCLE.RESULT = 3 ∧ t.chip = s.chip) ∧
        (s.flag GLB_PWR_STS.FUSE_PWR = true → v = true → t.flag GLB_LIFECYCLE.BUSY = true ∧
          t.chip.target = some g ∧ t.chip.life = s.chip.life.burn g ∧ t.flag SPD_TAMP_STS.BUSY = true ∧ t.flag SPD_TAMP_STS.LC_WIPE = true))) ∧
  (∀ (target : Nat) (s : State), s.chip.target = some target → target < 16 → s.chip.resetHeld = none →
    ∃ t, exec .lifecycleCommitDone s = .next t ∧ t.lifecycle = target ∧ t.fld GLB_LIFECYCLE.RESULT = 0 ∧
      t.flag GLB_LIFECYCLE.BUSY = false ∧ t.flag SPD_TAMP_STS.BUSY = false ∧ t.chip.target = none ∧
      (∀ a, t.byte a = if secureBase ≤ a then 0 else s.byte a) ∧
      (target = lcReturned → ∀ k, k < 4 → (t.keySlot k).revoked = true) ∧
      (target = lcProduction → t.flag SPD_DBG_CTL.EN = false))

/-- The parts FuseBurnsRun and LifecycleTransitionsCommit together. -/
def Obligations.FusesAndTheLifecycle : Prop :=
  Sys2Proof.Claims.FuseBurnsRun ∧ Sys2Proof.Claims.LifecycleTransitionsCommit

/-- THERMAL_SAMPLE records each die's hottest sensor, the hottest die and its peak, and sets WARN at its threshold and clears it below
the lower one; THERMTRIP sets TRIP (R541 to R543, R546). -/
def Obligations.TemperaturesAreRecorded : Prop :=
  (∀ (r : List (Fin 1024)) (s : State), ∃ t, exec (.thermalSample r) s = .next t ∧ t.mem = s.mem ∧
    RegsBut s t (fun k => k.r = .GLB_TEMP ∨ k = ⟨.GLB_THERM_STS, 0, 0⟩) ∧
    (∀ i v, i < 11 → r[i]? = some v → t.fld GLB_TEMP.TEMP i = v.val ∧ t.flag GLB_TEMP.VLD i = true) ∧
    t.fld GLB_THERM_STS.HOT = t.hottest.2 ∧ t.fld GLB_THERM_STS.PEAK = max (s.fld GLB_THERM_STS.PEAK) t.hottest.1 ∧
    (s.warnLimits.1 ≤ t.hottest.1 → t.flag GLB_THERM_STS.WARN = true ∧
      (s.flag GLB_THERM_STS.WARN = false → t.flag GLB_THERM_STS.WARN_STK = true)) ∧
    (t.hottest.1 < s.warnLimits.2 → t.flag GLB_THERM_STS.WARN = false) ∧
    (s.warnLimits.2 ≤ t.hottest.1 → t.hottest.1 < s.warnLimits.1 →
      t.flag GLB_THERM_STS.WARN = s.flag GLB_THERM_STS.WARN)) ∧
  (∀ s : State, ∃ t, exec .thermtrip s = .next t ∧ t.flag GLB_THERM_STS.TRIP = true ∧ t.mem = s.mem ∧
    RegsBut s t (fun k => k = ⟨.GLB_THERM_STS, 0, 0⟩))

/-! The scratchpad's writers -/

/-- The commands that may write the scratchpad: stores and atomics, a register write (of its window), the DMA engines' moves and what
stops them, host and debug accesses of the window, wipes, resets and the boot ROM. -/
def Sys2Proof.Claims.mayWriteScratchpad : Instr → Bool
  | .registerWrite .. | .st8 .. | .st16 .. | .st32 .. | .st64 .. | .stp .. | .cas .. | .fadd .. | .dmaDone .. | .dmaReadCompletion ..
  | .wipeComplete .. | .debugAccess .. | .bar0Request .. | .initiateFlr .. | .busMasterEnableClear .. | .d3hotEntry ..
  | .hostConfigurationWrite .. | .powerOnReset .. | .coldReset | .glbColdResetRequest .. | .bootSequence .. | .bootHostGo ..
  | .fuseBurnDone .. | .lifecycleCommitDone => true
  | _ => false

/-- Every other command leaves each byte of the scratchpad as it is, whatever the state and its operands (spec/14). -/
def Obligations.OtherCommandsLeaveTheScratchpad : Prop :=
  ∀ (c : Instr) (s t : State), Sys2Proof.Claims.mayWriteScratchpad c = false → exec c s = .next t → t.mem = s.mem

end
end

