-- ==== Sys2Proof/Laws/Bits.lean ====
section
/-! SUPPORT. Fields of words: a field read after it is put, another field left alone. -/

namespace Sys2Proof.Machine

/-- Bit i of a mask. -/
theorem maskOf_bit (hi lo i : Nat) (h : hi < 64) : (maskOf hi lo).getLsbD i = (decide (lo ≤ i) && decide (i ≤ hi)) := by
  unfold maskOf
  rw [BitVec.getLsbD_ofNat, Nat.testBit_mul_two_pow, Nat.testBit_two_pow_sub_one]
  by_cases h1 : lo ≤ i <;> by_cases h2 : i ≤ hi <;> simp [h1, h2] <;> omega

/-- Bit i of a word with a field put. -/
theorem putBits_bit (w : Word) (hi lo n i : Nat) (h : hi < 64) :
    (putBits w hi lo n).getLsbD i = if lo ≤ i ∧ i ≤ hi then n.testBit (i - lo) else w.getLsbD i := by
  unfold putBits
  rw [BitVec.getLsbD_or, BitVec.getLsbD_and, BitVec.getLsbD_and, BitVec.getLsbD_not, maskOf_bit hi lo i h,
    BitVec.getLsbD_ofNat, Nat.testBit_two_pow_mul]
  by_cases h1 : lo ≤ i <;> by_cases h2 : i ≤ hi <;> simp [h1, h2]
  · omega
  · intro hw; by_contra hc; simp [BitVec.getLsbD_of_ge w i (by omega)] at hw
  · intro hw; by_contra hc; simp [BitVec.getLsbD_of_ge w i (by omega)] at hw
  · intro hw; by_contra hc; simp [BitVec.getLsbD_of_ge w i (by omega)] at hw

/-- Bit i of the number in a field. -/
theorem bitsOf_testBit (w : Word) (hi lo i : Nat) :
    (bitsOf w hi lo).testBit i = (decide (i < hi + 1 - lo) && w.getLsbD (lo + i)) := by
  unfold bitsOf
  rw [Nat.testBit_mod_two_pow, Nat.testBit_div_two_pow, BitVec.getLsbD, Nat.add_comm i lo]

/-- A field read after it is put. -/
theorem bitsOf_putBits (w : Word) (hi lo n : Nat) (h : hi < 64) :
    bitsOf (putBits w hi lo n) hi lo = n % 2 ^ (hi + 1 - lo) := by
  apply Nat.eq_of_testBit_eq
  intro i
  rw [bitsOf_testBit, Nat.testBit_mod_two_pow, putBits_bit w hi lo n _ h]
  by_cases h1 : i < hi + 1 - lo
  · have : lo ≤ lo + i ∧ lo + i ≤ hi := by omega
    simp [h1, this]
  · simp [h1]

/-- A field read after another one is put. -/
theorem bitsOf_putBits_ne (w : Word) (hi lo hi' lo' n : Nat) (h : hi' < 64) (hd : hi < lo' ∨ hi' < lo) :
    bitsOf (putBits w hi' lo' n) hi lo = bitsOf w hi lo := by
  apply Nat.eq_of_testBit_eq
  intro i
  rw [bitsOf_testBit, bitsOf_testBit, putBits_bit w hi' lo' n _ h]
  by_cases h1 : i < hi + 1 - lo
  · have : ¬ (lo' ≤ lo + i ∧ lo + i ≤ hi') := by omega
    simp [this]
  · simp [h1]

/-- A field is below the power of its width. -/
theorem bitsOf_lt (w : Word) (hi lo : Nat) : bitsOf w hi lo < 2 ^ (hi + 1 - lo) := Nat.mod_lt _ (Nat.two_pow_pos _)

/-- A field of a word that holds one field shifted into place. -/
theorem bitOf_putBits (w : Word) (hi lo n i : Nat) (h : hi < 64) :
    bitOf (putBits w hi lo n) i = if lo ≤ i ∧ i ≤ hi then n.testBit (i - lo) else bitOf w i := putBits_bit w hi lo n i h

end Sys2Proof.Machine
end

