-- ==== Sys2Proof/Laws/Kept0.lean ====
section
/-! SUPPORT. What the primitive updates leave alone: the scratchpad and the queue of commands. -/

namespace Sys2Proof.Machine

@[simp] theorem State.mem_ite {c : Prop} [Decidable c] (a b : State) : (if c then a else b).mem = if c then a.mem else b.mem := by
  split <;> rfl

@[simp] theorem State.pending_ite {c : Prop} [Decidable c] (a b : State) :
    (if c then a else b).pending = if c then a.pending else b.pending := by split <;> rfl

/-- A fold of operations that keep both keeps both. -/
@[simp] theorem State.each_kept {α : Type} {f : State → α → State} (h : ∀ s x, (f s x).mem = s.mem ∧ (f s x).pending = s.pending)
    (s : State) (l : List α) : (s.each l f).mem = s.mem ∧ (s.each l f).pending = s.pending := by
  unfold State.each
  induction l generalizing s with
  | nil => exact ⟨rfl, rfl⟩
  | cons a l ih => simp only [List.foldl_cons]; exact ⟨(ih _).1.trans (h s a).1, (ih _).2.trans (h s a).2⟩

end Sys2Proof.Machine
end

