-- ==== Sys2Proof/Laws/Kept.lean ====
section
/-! SUPPORT. What each shared operation leaves alone: the scratchpad's bytes and the queue of commands, for every operation that
does not write the scratchpad. -/

namespace Sys2Proof.Machine

@[simp] theorem State.wr_kept (s : State) (k : RKey) (v : Word) :
    (State.wr s k v).mem = s.mem ∧ (State.wr s k v).pending = s.pending := ⟨rfl, rfl⟩

@[simp] theorem State.setFld_kept (s : State) (f : Fld) (n : Nat) (i : Nat) (j : Nat) :
    (State.setFld s f n i j).mem = s.mem ∧ (State.setFld s f n i j).pending = s.pending := ⟨rfl, rfl⟩

@[simp] theorem State.count_kept (s : State) (f : Fld) (n : Nat) (i : Nat) (j : Nat) :
    (State.count s f n i j).mem = s.mem ∧ (State.count s f n i j).pending = s.pending := ⟨rfl, rfl⟩

@[simp] theorem State.countWrap_kept (s : State) (f : Fld) (n : Nat) (i : Nat) (j : Nat) :
    (State.countWrap s f n i j).mem = s.mem ∧ (State.countWrap s f n i j).pending = s.pending := ⟨rfl, rfl⟩

@[simp] theorem State.capture64_kept (s : State) (k : RKey) (v : Word) :
    (State.capture64 s k v).mem = s.mem ∧ (State.capture64 s k v).pending = s.pending := by
  simp [State.capture64]

@[simp] theorem State.capture32_kept (s : State) (k : RKey) (v : Word) :
    (State.capture32 s k v).mem = s.mem ∧ (State.capture32 s k v).pending = s.pending := by
  simp [State.capture32]

@[simp] theorem State.setPort_kept (s : State) (p : Nat) (v : Port) :
    (State.setPort s p v).mem = s.mem ∧ (State.setPort s p v).pending = s.pending := ⟨rfl, rfl⟩

@[simp] theorem State.modPort_kept (s : State) (p : Nat) (f : Port → Port) :
    (State.modPort s p f).mem = s.mem ∧ (State.modPort s p f).pending = s.pending := ⟨rfl, rfl⟩

@[simp] theorem State.setSlice_kept (s : State) (d : Nat) (v : Slice) :
    (State.setSlice s d v).mem = s.mem ∧ (State.setSlice s d v).pending = s.pending := ⟨rfl, rfl⟩

@[simp] theorem State.modSlice_kept (s : State) (d : Nat) (f : Slice → Slice) :
    (State.modSlice s d f).mem = s.mem ∧ (State.modSlice s d f).pending = s.pending := ⟨rfl, rfl⟩

@[simp] theorem State.setCoreIn_kept (s : State) (e : Nat) (v : CoreIn) :
    (State.setCoreIn s e v).mem = s.mem ∧ (State.setCoreIn s e v).pending = s.pending := ⟨rfl, rfl⟩

@[simp] theorem State.setCoreOut_kept (s : State) (e : Nat) (v : CoreOut) :
    (State.setCoreOut s e v).mem = s.mem ∧ (State.setCoreOut s e v).pending = s.pending := ⟨rfl, rfl⟩

@[simp] theorem State.setPlane_kept (s : State) (p : Nat) (v : Plane) :
    (State.setPlane s p v).mem = s.mem ∧ (State.setPlane s p v).pending = s.pending := ⟨rfl, rfl⟩

@[simp] theorem State.setQueue_kept (s : State) (q : Nat) (v : EQueue) :
    (State.setQueue s q v).mem = s.mem ∧ (State.setQueue s q v).pending = s.pending := ⟨rfl, rfl⟩

@[simp] theorem State.setHalf_kept (s : State) (i : Nat) (v : Half) :
    (State.setHalf s i v).mem = s.mem ∧ (State.setHalf s i v).pending = s.pending := ⟨rfl, rfl⟩

@[simp] theorem State.modHalf_kept (s : State) (i : Nat) (f : Half → Half) :
    (State.modHalf s i f).mem = s.mem ∧ (State.modHalf s i f).pending = s.pending := ⟨rfl, rfl⟩

@[simp] theorem State.setLane_kept (s : State) (p : Nat) (v : LaneSt) :
    (State.setLane s p v).mem = s.mem ∧ (State.setLane s p v).pending = s.pending := ⟨rfl, rfl⟩

@[simp] theorem State.modLane_kept (s : State) (p : Nat) (f : LaneSt → LaneSt) :
    (State.modLane s p f).mem = s.mem ∧ (State.modLane s p f).pending = s.pending := ⟨rfl, rfl⟩

@[simp] theorem State.setHsf_kept (s : State) (p : Nat) (v : Hsf) :
    (State.setHsf s p v).mem = s.mem ∧ (State.setHsf s p v).pending = s.pending := ⟨rfl, rfl⟩

@[simp] theorem State.modHsf_kept (s : State) (p : Nat) (f : Hsf → Hsf) :
    (State.modHsf s p f).mem = s.mem ∧ (State.modHsf s p f).pending = s.pending := ⟨rfl, rfl⟩

@[simp] theorem State.setBay_kept (s : State) (k : Nat) (v : Bay) :
    (State.setBay s k v).mem = s.mem ∧ (State.setBay s k v).pending = s.pending := ⟨rfl, rfl⟩

@[simp] theorem State.modBay_kept (s : State) (k : Nat) (f : Bay → Bay) :
    (State.modBay s k f).mem = s.mem ∧ (State.modBay s k f).pending = s.pending := ⟨rfl, rfl⟩

@[simp] theorem State.setDma_kept (s : State) (e : Nat) (v : DmaSt) :
    (State.setDma s e v).mem = s.mem ∧ (State.setDma s e v).pending = s.pending := ⟨rfl, rfl⟩

@[simp] theorem State.setSeat_kept (s : State) (n : Nat) (v : Seat) :
    (State.setSeat s n v).mem = s.mem ∧ (State.setSeat s n v).pending = s.pending := ⟨rfl, rfl⟩

@[simp] theorem State.modSeat_kept (s : State) (n : Nat) (f : Seat → Seat) :
    (State.modSeat s n f).mem = s.mem ∧ (State.modSeat s n f).pending = s.pending := ⟨rfl, rfl⟩

@[simp] theorem State.setFn_kept (s : State) (fid : Nat) (v : Fn) :
    (State.setFn s fid v).mem = s.mem ∧ (State.setFn s fid v).pending = s.pending := ⟨rfl, rfl⟩

@[simp] theorem State.emit_kept (s : State) (o : Out) :
    (State.emit s o).mem = s.mem ∧ (State.emit s o).pending = s.pending := ⟨rfl, rfl⟩

@[simp] theorem State.draw_kept (s : State) :
    (State.draw s).2.mem = s.mem ∧ (State.draw s).2.pending = s.pending := ⟨rfl, rfl⟩

@[simp] theorem State.drawWord_kept (s : State) :
    (State.drawWord s).2.mem = s.mem ∧ (State.drawWord s).2.pending = s.pending := ⟨rfl, rfl⟩

@[simp] theorem State.report_kept (s : State) (slot : Nat) :
    (State.report s slot).mem = s.mem ∧ (State.report s slot).pending = s.pending := ⟨rfl, rfl⟩

@[simp] theorem State.causeFence_kept (s : State) (f : FenceReq) :
    (State.causeFence s f).mem = s.mem ∧ (State.causeFence s f).pending = s.pending := ⟨rfl, rfl⟩

@[simp] theorem State.event_kept (s : State) (island evt : Nat) (n : Nat) :
    (State.event s island evt n).mem = s.mem ∧ (State.event s island evt n).pending = s.pending := ⟨rfl, rfl⟩

@[simp] theorem State.portEvent_kept (s : State) (p evt : Nat) (n : Nat) :
    (State.portEvent s p evt n).mem = s.mem ∧ (State.portEvent s p evt n).pending = s.pending := ⟨rfl, rfl⟩

@[simp] theorem State.tenantEvent_kept (s : State) (island k evt : Nat) (n : Nat) :
    (State.tenantEvent s island k evt n).mem = s.mem ∧ (State.tenantEvent s island k evt n).pending = s.pending := ⟨rfl, rfl⟩

@[simp] theorem State.nearMiss_kept (s : State) (island : Nat) :
    (State.nearMiss s island).mem = s.mem ∧ (State.nearMiss s island).pending = s.pending := ⟨rfl, rfl⟩

@[simp] theorem State.lateArrival_kept (s : State) (island : Nat) :
    (State.lateArrival s island).mem = s.mem ∧ (State.lateArrival s island).pending = s.pending := ⟨rfl, rfl⟩

@[simp] theorem State.fifoRegs_kept (s : State) (cnt fl : Fld) (cap held : Nat) :
    (State.fifoRegs s cnt fl cap held).mem = s.mem ∧ (State.fifoRegs s cnt fl cap held).pending = s.pending := ⟨rfl, rfl⟩

@[simp] theorem State.postRecord_kept (s : State) (w : Word) :
    (State.postRecord s w).1.mem = s.mem ∧ (State.postRecord s w).1.pending = s.pending := by
  unfold State.postRecord; constructor <;> ((repeat' split) <;> simp)

@[simp] theorem State.post_kept (s : State) (code src detail : Nat) :
    (State.post s code src detail).mem = s.mem ∧ (State.post s code src detail).pending = s.pending := by
  simp [State.post]

@[simp] theorem State.pushFault_kept (s : State) (w : Word) :
    (State.pushFault s w).mem = s.mem ∧ (State.pushFault s w).pending = s.pending := by
  simp [State.pushFault]

@[simp] theorem State.pushSafe_kept (s : State) (w : Word) :
    (State.pushSafe s w).mem = s.mem ∧ (State.pushSafe s w).pending = s.pending := by
  simp [State.pushSafe]

@[simp] theorem State.setAcc_kept (s : State) (n k : Nat) (b : Bool) :
    (State.setAcc s n k b).mem = s.mem ∧ (State.setAcc s n k b).pending = s.pending := ⟨rfl, rfl⟩

@[simp] theorem State.clearAcc_kept (s : State) (n p : Nat) :
    (State.clearAcc s n p).mem = s.mem ∧ (State.clearAcc s n p).pending = s.pending := by
  simp [State.clearAcc]

@[simp] theorem State.skeinErr_kept (s : State) (n cause : Nat) :
    (State.skeinErr s n cause).mem = s.mem ∧ (State.skeinErr s n cause).pending = s.pending := by
  simp [State.skeinErr]

@[simp] theorem State.mark_kept (s : State) (n : Nat) (m : Option Mark) :
    (State.mark s n m).mem = s.mem ∧ (State.mark s n m).pending = s.pending := ⟨rfl, rfl⟩

@[simp] theorem writeSkeinW0_kept (s : State) (n : Nat) (v : Word) :
    (writeSkeinW0 s n v).mem = s.mem ∧ (writeSkeinW0 s n v).pending = s.pending := by
  unfold writeSkeinW0; constructor <;> (simp; (repeat' split) <;> simp_all)

@[simp] theorem writeSkeinW1_kept (s : State) (n : Nat) (v : Word) :
    (writeSkeinW1 s n v).mem = s.mem ∧ (writeSkeinW1 s n v).pending = s.pending := ⟨rfl, rfl⟩

@[simp] theorem writeSkeinOwners_kept (s : State) (k : RKey) (v : Word) :
    (writeSkeinOwners s k v).mem = s.mem ∧ (writeSkeinOwners s k v).pending = s.pending := by
  simp [writeSkeinOwners]

@[simp] theorem State.holdSkein_kept (s : State) (n cause : Nat) :
    (State.holdSkein s n cause).mem = s.mem ∧ (State.holdSkein s n cause).pending = s.pending := ⟨rfl, rfl⟩

@[simp] theorem State.holdCrew_kept (s : State) (c : Nat) :
    (State.holdCrew s c).mem = s.mem ∧ (State.holdCrew s c).pending = s.pending := by
  simp [State.holdCrew]

@[simp] theorem State.stopScrub_kept (s : State) (p : Nat) :
    (State.stopScrub s p).mem = s.mem ∧ (State.stopScrub s p).pending = s.pending := by
  simp [State.stopScrub]

@[simp] theorem State.holdPort_kept (s : State) (p : Nat) :
    (State.holdPort s p).mem = s.mem ∧ (State.holdPort s p).pending = s.pending := by
  simp [State.holdPort]

@[simp] theorem State.dcRecord_kept (s : State) (p : Nat) (r : DcRecord) :
    (State.dcRecord s p r).mem = s.mem ∧ (State.dcRecord s p r).pending = s.pending := ⟨rfl, rfl⟩

@[simp] theorem State.dcTaken_kept (s : State) (p op : Nat) (x : Bool × Nat) :
    (State.dcTaken s p op x).mem = s.mem ∧ (State.dcTaken s p op x).pending = s.pending := by
  unfold State.dcTaken; constructor <;> ((repeat' split) <;> simp)

@[simp] theorem writeDce_kept (s : State) (p : Nat) (v : Word) :
    (writeDce s p v).mem = s.mem ∧ (writeDce s p v).pending = s.pending := by
  simp [writeDce]

@[simp] theorem writeRdce_kept (s : State) (p : Nat) (v : Word) :
    (writeRdce s p v).mem = s.mem ∧ (writeRdce s p v).pending = s.pending := by
  simp [writeRdce]

@[simp] theorem State.accept_kept (s : State) (p : Nat) (x : Bool × Nat) :
    (State.accept s p x).mem = s.mem ∧ (State.accept s p x).pending = s.pending := by
  unfold State.accept; constructor <;> (simp; (repeat' split) <;> simp_all)

@[simp] theorem State.release_kept (s : State) (p : Nat) (x : Bool × Nat) :
    (State.release s p x).mem = s.mem ∧ (State.release s p x).pending = s.pending := by
  simp [State.release]

@[simp] theorem State.activate_kept (s : State) (p : Nat) :
    (State.activate s p).mem = s.mem ∧ (State.activate s p).pending = s.pending := by
  simp [State.activate]

@[simp] theorem State.feedScrub_kept (s : State) (p : Nat) :
    (State.feedScrub s p).mem = s.mem ∧ (State.feedScrub s p).pending = s.pending := by
  unfold State.feedScrub; constructor <;> ((repeat' split) <;> simp)

@[simp] theorem writeScrb_kept (s : State) (p : Nat) (v : Word) :
    (writeScrb s p v).mem = s.mem ∧ (writeScrb s p v).pending = s.pending := by
  simp [writeScrb]

@[simp] theorem State.scrubAck_kept (s : State) (p mark : Nat) :
    (State.scrubAck s p mark).mem = s.mem ∧ (State.scrubAck s p mark).pending = s.pending := by
  unfold State.scrubAck; constructor <;> ((repeat' split) <;> simp)

@[simp] theorem State.scrubFail_kept (s : State) (p mark : Nat) :
    (State.scrubFail s p mark).mem = s.mem ∧ (State.scrubFail s p mark).pending = s.pending := by
  simp [State.scrubFail]

@[simp] theorem State.setGreg_kept (s : State) (n r : Nat) (v : Word) :
    (State.setGreg s n r v).mem = s.mem ∧ (State.setGreg s n r v).pending = s.pending := by
  simp [State.setGreg]

@[simp] theorem State.setSeatState_kept (s : State) (n st : Nat) :
    (State.setSeatState s n st).mem = s.mem ∧ (State.setSeatState s n st).pending = s.pending := ⟨rfl, rfl⟩

@[simp] theorem State.finishWait_kept (s : State) (n rd : Nat) (v : Word) :
    (State.finishWait s n rd v).mem = s.mem ∧ (State.finishWait s n rd v).pending = s.pending := by
  simp [State.finishWait]

@[simp] theorem State.finishOpt_kept (s : State) (seat : Option Nat) (rd : Nat) (v : Word) :
    (State.finishOpt s seat rd v).mem = s.mem ∧ (State.finishOpt s seat rd v).pending = s.pending := by
  unfold State.finishOpt; constructor <;> ((repeat' split) <;> simp)

@[simp] theorem State.stopDone_kept (s : State) (fid : Nat) (v : Word) (keepOwner : Bool) :
    (State.stopDone s fid v keepOwner).mem = s.mem ∧ (State.stopDone s fid v keepOwner).pending = s.pending := by
  simp [State.stopDone]

@[simp] theorem State.clearMem_kept (s : State) (c : Nat) :
    (State.clearMem s c).mem = s.mem ∧ (State.clearMem s c).pending = s.pending := ⟨rfl, rfl⟩

@[simp] theorem State.cmdErr_kept (s : State) (c : Nat) :
    (State.cmdErr s c).mem = s.mem ∧ (State.cmdErr s c).pending = s.pending := ⟨rfl, rfl⟩

@[simp] theorem writeCrewCmd_kept (s : State) (c : Nat) (v : Word) :
    (writeCrewCmd s c v).mem = s.mem ∧ (writeCrewCmd s c v).pending = s.pending := by
  unfold writeCrewCmd; constructor <;> ((repeat' split) <;> simp)

@[simp] theorem writeCrewCtl_kept (s : State) (c : Nat) (v : Word) :
    (writeCrewCtl s c v).mem = s.mem ∧ (writeCrewCtl s c v).pending = s.pending := by
  simp [writeCrewCtl]

@[simp] theorem writeCrewMem_kept (s : State) (c k : Nat) (v : Word) :
    (writeCrewMem s c k v).mem = s.mem ∧ (writeCrewMem s c k v).pending = s.pending := by
  simp [writeCrewMem]

@[simp] theorem State.send_kept (s : State) (m : Msg) :
    (State.send s m).mem = s.mem ∧ (State.send s m).pending = s.pending := ⟨rfl, rfl⟩

@[simp] theorem State.setFenced_kept (s : State) (p : Nat) (f : Nat → Nat → Bool) :
    (State.setFenced s p f).mem = s.mem ∧ (State.setFenced s p f).pending = s.pending := by
  simp [State.setFenced]

@[simp] theorem State.fenceCrew_kept (s : State) (c cause : Nat) (slice : Option Nat) (feid : Nat) :
    (State.fenceCrew s c cause slice feid).mem = s.mem ∧ (State.fenceCrew s c cause slice feid).pending = s.pending := by
  simp [State.fenceCrew]

@[simp] theorem State.takeFence_kept (s : State) (f : FenceReq) :
    (State.takeFence s f).mem = s.mem ∧ (State.takeFence s f).pending = s.pending := by
  simp [State.takeFence]

@[simp] theorem State.setMeter_kept (s : State) (m : Nat) (v : Meter) :
    (State.setMeter s m v).mem = s.mem ∧ (State.setMeter s m v).pending = s.pending := ⟨rfl, rfl⟩

@[simp] theorem State.meter_kept (s : State) (p : Nat) (slice : Option Nat) (cls dt : Nat) :
    (State.meter s p slice cls dt).2.mem = s.mem ∧ (State.meter s p slice cls dt).2.pending = s.pending := by
  unfold State.meter; constructor <;> ((repeat' split) <;> simp)

@[simp] theorem writeMeterRate_kept (s : State) (m : Nat) (v : Word) :
    (writeMeterRate s m v).mem = s.mem ∧ (writeMeterRate s m v).pending = s.pending := ⟨rfl, rfl⟩

@[simp] theorem State.applyMeter_kept (s : State) (m : Nat) :
    (State.applyMeter s m).mem = s.mem ∧ (State.applyMeter s m).pending = s.pending := ⟨rfl, rfl⟩

@[simp] theorem State.fillMeter_kept (s : State) (m : Nat) :
    (State.fillMeter s m).mem = s.mem ∧ (State.fillMeter s m).pending = s.pending := ⟨rfl, rfl⟩

@[simp] theorem State.reply_kept (s : State) (p : Nat) (e : OutEntry) (r : Reply) :
    (State.reply s p e r).mem = s.mem ∧ (State.reply s p e r).pending = s.pending := by
  unfold State.reply; constructor <;> ((repeat' split) <;> simp)

@[simp] theorem State.setCredits_kept (s : State) (p d n : Nat) :
    (State.setCredits s p d n).mem = s.mem ∧ (State.setCredits s p d n).pending = s.pending := ⟨rfl, rfl⟩

@[simp] theorem State.setEntry_kept (s : State) (p : Nat) (e : OutEntry) :
    (State.setEntry s p e).mem = s.mem ∧ (State.setEntry s p e).pending = s.pending := ⟨rfl, rfl⟩

@[simp] theorem State.dropEntry_kept (s : State) (p tag : Nat) :
    (State.dropEntry s p tag).mem = s.mem ∧ (State.dropEntry s p tag).pending = s.pending := ⟨rfl, rfl⟩

@[simp] theorem State.spend_kept (s : State) (p : Nat) (e : OutEntry) :
    (State.spend s p e).2.mem = s.mem ∧ (State.spend s p e).2.pending = s.pending := by
  unfold State.spend; constructor <;> ((repeat' split) <;> simp)

@[simp] theorem State.sendEntry_kept (s : State) (p : Nat) (e : OutEntry) :
    (State.sendEntry s p e).mem = s.mem ∧ (State.sendEntry s p e).pending = s.pending := by
  simp [State.sendEntry]

@[simp] theorem State.releasePort_kept (s : State) (p : Nat) :
    (State.releasePort s p).mem = s.mem ∧ (State.releasePort s p).pending = s.pending := by
  simp [State.releasePort]

@[simp] theorem State.creditBack_kept (s : State) (p d : Nat) :
    (State.creditBack s p d).mem = s.mem ∧ (State.creditBack s p d).pending = s.pending := by
  simp [State.creditBack]

@[simp] theorem State.releaseAll_kept (s : State) :
    (State.releaseAll s).mem = s.mem ∧ (State.releaseAll s).pending = s.pending := by
  simp [State.releaseAll]

@[simp] theorem State.takeEntry_kept (s : State) (p : Nat) (e : OutEntry) :
    (State.takeEntry s p e).mem = s.mem ∧ (State.takeEntry s p e).pending = s.pending := by
  simp [State.takeEntry]

@[simp] theorem State.signalViral_kept (s : State) (p : Nat) :
    (State.signalViral s p).mem = s.mem ∧ (State.signalViral s p).pending = s.pending := ⟨rfl, rfl⟩

@[simp] theorem State.accessFault_kept (s : State) (p cause hpa : Nat) (wr : Bool) :
    (State.accessFault s p cause hpa wr).mem = s.mem ∧ (State.accessFault s p cause hpa wr).pending = s.pending := by
  simp [State.accessFault]

@[simp] theorem State.answerHost_kept (s : State) (p : Nat) (r : HostReq) (a : Reply) :
    (State.answerHost s p r a).mem = s.mem ∧ (State.answerHost s p r a).pending = s.pending := by
  simp [State.answerHost]

@[simp] theorem State.holdIngress_kept (s : State) (p : Nat) (h : Held) :
    (State.holdIngress s p h).mem = s.mem ∧ (State.holdIngress s p h).pending = s.pending := ⟨rfl, rfl⟩

@[simp] theorem State.admitLocal_kept (s : State) (p : Nat) (r : HostReq) (a : ActExt) (dpa : Nat) :
    (State.admitLocal s p r a dpa).mem = s.mem ∧ (State.admitLocal s p r a dpa).pending = s.pending := by
  unfold State.admitLocal; constructor <;> (simp; (repeat' split) <;> simp_all)

@[simp] theorem State.admitRemote_kept (s : State) (p : Nat) (r : HostReq) (a : ActRext) (dpa : Nat) :
    (State.admitRemote s p r a dpa).mem = s.mem ∧ (State.admitRemote s p r a dpa).pending = s.pending := by
  unfold State.admitRemote; constructor <;> (simp; (repeat' split) <;> simp_all)

@[simp] theorem State.ingress_kept (s : State) (p : Nat) (r : HostReq) :
    (State.ingress s p r).mem = s.mem ∧ (State.ingress s p r).pending = s.pending := by
  unfold State.ingress; constructor <;> (simp; (repeat' split) <;> simp_all)

@[simp] theorem State.ackConflicts_kept (s : State) (p : Nat) :
    (State.ackConflicts s p).mem = s.mem ∧ (State.ackConflicts s p).pending = s.pending := by
  simp [State.ackConflicts]

@[simp] theorem State.drawBackoff_kept (s : State) (c : Nat) :
    (State.drawBackoff s c).2.mem = s.mem ∧ (State.drawBackoff s c).2.pending = s.pending := ⟨rfl, rfl⟩

@[simp] theorem State.sendAnswer_kept (s : State) (p : Nat) (x : SnpEntry) (a : Ans) :
    (State.sendAnswer s p x a).mem = s.mem ∧ (State.sendAnswer s p x a).pending = s.pending := by
  unfold State.sendAnswer; constructor <;> (simp; (repeat' split) <;> simp_all)

@[simp] theorem State.addSnoop_kept (s : State) (p : Nat) (x : SnpEntry) :
    (State.addSnoop s p x).mem = s.mem ∧ (State.addSnoop s p x).pending = s.pending := ⟨rfl, rfl⟩

@[simp] theorem State.deliverHost_kept (s : State) (p : Nat) (m : Msg) (k : Snp) :
    (State.deliverHost s p m k).mem = s.mem ∧ (State.deliverHost s p m k).pending = s.pending := by
  simp [State.deliverHost]

@[simp] theorem State.deliverFabric_kept (s : State) (p : Nat) (m : Msg) (k : Snp) (f : Nat) :
    (State.deliverFabric s p m k f).mem = s.mem ∧ (State.deliverFabric s p m k f).pending = s.pending := by
  simp [State.deliverFabric]

@[simp] theorem State.dropSnoop_kept (s : State) (p n : Nat) :
    (State.dropSnoop s p n).mem = s.mem ∧ (State.dropSnoop s p n).pending = s.pending := ⟨rfl, rfl⟩

@[simp] theorem State.takeAnswer_kept (s : State) (p n : Nat) (a : Ans) (tie : Bool) :
    (State.takeAnswer s p n a tie).mem = s.mem ∧ (State.takeAnswer s p n a tie).pending = s.pending := by
  unfold State.takeAnswer; constructor <;> ((repeat' split) <;> simp)

@[simp] theorem State.dropEntries_kept (s : State) (p : Nat) (f : OutEntry → Bool) :
    (State.dropEntries s p f).mem = s.mem ∧ (State.dropEntries s p f).pending = s.pending := by
  simp [State.dropEntries]

@[simp] theorem State.endEntries_kept (s : State) (p : Nat) (f : OutEntry → Bool) :
    (State.endEntries s p f).mem = s.mem ∧ (State.endEntries s p f).pending = s.pending := by
  simp [State.endEntries]

@[simp] theorem State.fenceAgent_kept (s : State) (p c : Nat) :
    (State.fenceAgent s p c).mem = s.mem ∧ (State.fenceAgent s p c).pending = s.pending := by
  simp [State.fenceAgent]

@[simp] theorem State.entCount_kept (s : State) (c : Nat) (up : Bool) :
    (State.entCount s c up).mem = s.mem ∧ (State.entCount s c up).pending = s.pending := by
  simp [State.entCount]

@[simp] theorem State.setDirEntry_kept (s : State) (d set way : Nat) (e : DirEntry) :
    (State.setDirEntry s d set way e).mem = s.mem ∧ (State.setDirEntry s d set way e).pending = s.pending := ⟨rfl, rfl⟩

@[simp] theorem State.freeWay_kept (s : State) (d set way : Nat) :
    (State.freeWay s d set way).mem = s.mem ∧ (State.freeWay s d set way).pending = s.pending := by
  simp [State.freeWay]

@[simp] theorem State.settle_kept (s : State) (d set way : Nat) :
    (State.settle s d set way).mem = s.mem ∧ (State.settle s d set way).pending = s.pending := by
  simp [State.settle]

@[simp] theorem State.nack_kept (s : State) (d : Nat) (m : Msg) :
    (State.nack s d m).mem = s.mem ∧ (State.nack s d m).pending = s.pending := ⟨rfl, rfl⟩

@[simp] theorem State.issueRead_kept (s : State) (d : Nat) (m : Msg) (g : MetaVal) :
    (State.issueRead s d m g).mem = s.mem ∧ (State.issueRead s d m g).pending = s.pending := ⟨rfl, rfl⟩

@[simp] theorem State.grant_kept (s : State) (d : Nat) (m : Msg) (g : MetaVal) :
    (State.grant s d m g).mem = s.mem ∧ (State.grant s d m g).pending = s.pending := ⟨rfl, rfl⟩

@[simp] theorem State.issueWrite_kept (s : State) (d : Nat) (m : Msg) :
    (State.issueWrite s d m).mem = s.mem ∧ (State.issueWrite s d m).pending = s.pending := ⟨rfl, rfl⟩

@[simp] theorem State.closeLine_kept (s : State) (d set way tag line : Nat) (l : LineState) :
    (State.closeLine s d set way tag line l).mem = s.mem ∧ (State.closeLine s d set way tag line l).pending = s.pending := by
  simp [State.closeLine]

@[simp] theorem State.keepTxn_kept (s : State) (d : Nat) (t : Txn) (st : TxnStage) :
    (State.keepTxn s d t st).mem = s.mem ∧ (State.keepTxn s d t st).pending = s.pending := ⟨rfl, rfl⟩

@[simp] theorem State.closeTxn_kept (s : State) (d : Nat) (t : Txn) (l : LineState) :
    (State.closeTxn s d t l).mem = s.mem ∧ (State.closeTxn s d t l).pending = s.pending := by
  simp [State.closeTxn]

@[simp] theorem State.proceed_kept (s : State) (d : Nat) (t : Txn) :
    (State.proceed s d t).mem = s.mem ∧ (State.proceed s d t).pending = s.pending := by
  unfold State.proceed; constructor <;> ((repeat' split) <;> simp)

@[simp] theorem State.resume_kept (s : State) (d : Nat) :
    (State.resume s d).mem = s.mem ∧ (State.resume s d).pending = s.pending := by
  simp [State.resume]

@[simp] theorem State.sendSnoop_kept (s : State) (d c mport addr : Nat) (k : Snp) (agents : List Nat) :
    (State.sendSnoop s d c mport addr k agents).mem = s.mem ∧ (State.sendSnoop s d c mport addr k agents).pending = s.pending := by
  simp [State.sendSnoop]

@[simp] theorem State.openTxn_kept (s : State) (d : Nat) (t : Txn) (agents : List Nat) :
    (State.openTxn s d t agents).mem = s.mem ∧ (State.openTxn s d t agents).pending = s.pending := by
  simp [State.openTxn]

@[simp] theorem State.startEvict_kept (s : State) (d set way : Nat) (flush : Bool) :
    (State.startEvict s d set way flush).mem = s.mem ∧ (State.startEvict s d set way flush).pending = s.pending := by
  simp [State.startEvict]

@[simp] theorem State.scanCount_kept (s : State) (n : Nat) :
    (State.scanCount s n).mem = s.mem ∧ (State.scanCount s n).pending = s.pending := by
  unfold State.scanCount; constructor <;> ((repeat' split) <;> simp)

@[simp] theorem State.eccWay_kept (s : State) (d set : Nat) (o : Nat × EccObs) :
    (State.eccWay s d set o).mem = s.mem ∧ (State.eccWay s d set o).pending = s.pending := by
  unfold State.eccWay; constructor <;> ((repeat' split) <;> simp)

@[simp] theorem State.eccCheck_kept (s : State) (d set : Nat) (os : List (Fin 16 × EccObs)) :
    (State.eccCheck s d set os).mem = s.mem ∧ (State.eccCheck s d set os).pending = s.pending := by
  simp [State.eccCheck]

@[simp] theorem State.admitBare_kept (s : State) (d : Nat) (m : Msg) (x : Intent) :
    (State.admitBare s d m x).mem = s.mem ∧ (State.admitBare s d m x).pending = s.pending := by
  simp [State.admitBare]

@[simp] theorem State.admitAt_kept (s : State) (d : Nat) (m : Msg) (x : Intent) (w : Nat) :
    (State.admitAt s d m x w).mem = s.mem ∧ (State.admitAt s d m x w).pending = s.pending := by
  simp [State.admitAt]

@[simp] theorem State.allocWay_kept (s : State) (d : Nat) (m : Msg) (w : Nat) :
    (State.allocWay s d m w).mem = s.mem ∧ (State.allocWay s d m w).pending = s.pending := by
  simp [State.allocWay]

@[simp] theorem State.creditAdmitted_kept (s : State) (m : Msg) :
    (State.creditAdmitted s m).mem = s.mem ∧ (State.creditAdmitted s m).pending = s.pending := by
  unfold State.creditAdmitted; constructor <;> ((repeat' split) <;> simp)

@[simp] theorem State.serve_kept (s : State) (d : Nat) (m : Msg) (x : Intent) (fresh : Bool) :
    (State.serve s d m x fresh).1.mem = s.mem ∧ (State.serve s d m x fresh).1.pending = s.pending := by
  unfold State.serve; constructor <;> ((repeat' split) <;> simp)

@[simp] theorem State.slot_kept (s : State) (d n : Nat) :
    (State.slot s d n).mem = s.mem ∧ (State.slot s d n).pending = s.pending := by
  simp [State.slot]

@[simp] theorem State.park_kept (s : State) (d : Nat) (m : Msg) (w : ParkWait) :
    (State.park s d m w).mem = s.mem ∧ (State.park s d m w).pending = s.pending := ⟨rfl, rfl⟩

@[simp] theorem State.cmpWriter_kept (s : State) (d : Nat) (m : Msg) :
    (State.cmpWriter s d m).mem = s.mem ∧ (State.cmpWriter s d m).pending = s.pending := ⟨rfl, rfl⟩

@[simp] theorem State.stray_kept (s : State) (d : Nat) (m : Msg) :
    (State.stray s d m).mem = s.mem ∧ (State.stray s d m).pending = s.pending := ⟨rfl, rfl⟩

@[simp] theorem State.writebackWrite_kept (s : State) (d : Nat) (m : Msg) :
    (State.writebackWrite s d m).mem = s.mem ∧ (State.writebackWrite s d m).pending = s.pending := by
  simp [State.writebackWrite]

@[simp] theorem State.applyWriteback_kept (s : State) (d : Nat) (m : Msg) :
    (State.applyWriteback s d m).mem = s.mem ∧ (State.applyWriteback s d m).pending = s.pending := by
  unfold State.applyWriteback; constructor <;> (simp; (repeat' split) <;> simp_all)

@[simp] theorem State.writeDone_kept (s : State) (d mport addr : Nat) :
    (State.writeDone s d mport addr).mem = s.mem ∧ (State.writeDone s d mport addr).pending = s.pending := by
  unfold State.writeDone; constructor <;> ((repeat' split) <;> simp)

@[simp] theorem State.readDone_kept (s : State) (d port tag : Nat) :
    (State.readDone s d port tag).mem = s.mem ∧ (State.readDone s d port tag).pending = s.pending := by
  unfold State.readDone; constructor <;> ((repeat' split) <;> simp)

@[simp] theorem State.purgeReport_kept (s : State) (d c : Nat) :
    (State.purgeReport s d c).mem = s.mem ∧ (State.purgeReport s d c).pending = s.pending := by
  simp [State.purgeReport]

@[simp] theorem State.setScanLeft_kept (s : State) (d pipe n : Nat) :
    (State.setScanLeft s d pipe n).mem = s.mem ∧ (State.setScanLeft s d pipe n).pending = s.pending := by
  unfold State.setScanLeft; constructor <;> ((repeat' split) <;> simp)

@[simp] theorem State.startScans_kept (s : State) (x0 : List Scan) :
    (State.startScans s x0).mem = s.mem ∧ (State.startScans s x0).pending = s.pending := by
  induction x0 generalizing s with
  | nil => simp [State.startScans]
  | cons c cs ih => unfold State.startScans; split <;> simp [ih]

@[simp] theorem State.endScan_kept (s : State) (c : Scan) (code : Nat) :
    (State.endScan s c code).mem = s.mem ∧ (State.endScan s c code).pending = s.pending := by
  simp [State.endScan]

@[simp] theorem writeDirEidx_kept (s : State) (d : Nat) (v : Word) :
    (writeDirEidx s d v).mem = s.mem ∧ (writeDirEidx s d v).pending = s.pending := by
  simp [writeDirEidx]

@[simp] theorem State.setEdata_kept (s : State) (d n : Nat) :
    (State.setEdata s d n).mem = s.mem ∧ (State.setEdata s d n).pending = s.pending := ⟨rfl, rfl⟩

@[simp] theorem State.elapse_kept (s : State) (d cycles back : Nat) :
    (State.elapse s d cycles back).mem = s.mem ∧ (State.elapse s d cycles back).pending = s.pending := by
  simp [State.elapse]

@[simp] theorem writeTdCtl_kept (s : State) (d : Nat) (v : Word) :
    (writeTdCtl s d v).mem = s.mem ∧ (writeTdCtl s d v).pending = s.pending := by
  simp [writeTdCtl]

@[simp] theorem State.setSched_kept (s : State) (p : Nat) (v : Sched) :
    (State.setSched s p v).mem = s.mem ∧ (State.setSched s p v).pending = s.pending := ⟨rfl, rfl⟩

@[simp] theorem State.enqueue_kept (s : State) (p : Nat) (m : Msg) :
    (State.enqueue s p m).mem = s.mem ∧ (State.enqueue s p m).pending = s.pending := ⟨rfl, rfl⟩

@[simp] theorem State.addRounds_kept (s : State) (p k : Nat) (x0 : List Nat) (x1 : Nat) :
    (State.addRounds s p k x0 x1).mem = s.mem ∧ (State.addRounds s p k x0 x1).pending = s.pending := by
  induction x0 generalizing s with
  | nil => simp [State.addRounds]
  | cons c cs ih => unfold State.addRounds; simp only []; split <;> simp [ih]

@[simp] theorem State.choose_kept (s : State) (p : Nat) (blocked : List (Fin 64)) :
    (State.choose s p blocked).2.mem = s.mem ∧ (State.choose s p blocked).2.pending = s.pending := by
  unfold State.choose; constructor <;> (simp; (repeat' split) <;> simp_all)

@[simp] theorem State.toSlice_kept (s : State) (p : Nat) (r : DevReq) :
    (State.toSlice s p r).mem = s.mem ∧ (State.toSlice s p r).pending = s.pending := by
  simp [State.toSlice]

@[simp] theorem State.readAnswer_kept (s : State) (p : Nat) (r : DevReq) (poison : Bool) :
    (State.readAnswer s p r poison).mem = s.mem ∧ (State.readAnswer s p r poison).pending = s.pending := by
  simp [State.readAnswer]

@[simp] theorem State.writeAnswer_kept (s : State) (p : Nat) (r : DevReq) :
    (State.writeAnswer s p r).mem = s.mem ∧ (State.writeAnswer s p r).pending = s.pending := by
  simp [State.writeAnswer]

@[simp] theorem State.sweepDev_kept (s : State) (p : Nat) (down : Bool) (r : DevReq) :
    (State.sweepDev s p down r).mem = s.mem ∧ (State.sweepDev s p down r).pending = s.pending := by
  simp [State.sweepDev]

@[simp] theorem State.sweepMsg_kept (s : State) (p : Nat) (down : Bool) (m : Msg) :
    (State.sweepMsg s p down m).mem = s.mem ∧ (State.sweepMsg s p down m).pending = s.pending := by
  unfold State.sweepMsg; constructor <;> ((repeat' split) <;> simp)

@[simp] theorem State.sweepQueues_kept (s : State) (p : Nat) :
    (State.sweepQueues s p).mem = s.mem ∧ (State.sweepQueues s p).pending = s.pending := by
  simp [State.sweepQueues]

@[simp] theorem State.toDevice_kept (s : State) (p : Nat) (m : Msg) :
    (State.toDevice s p m).mem = s.mem ∧ (State.toDevice s p m).pending = s.pending := by
  unfold State.toDevice; constructor <;> ((repeat' split) <;> simp)

@[simp] theorem State.lossFence_kept (s : State) (unit : Nat) :
    (State.lossFence s unit).mem = s.mem ∧ (State.lossFence s unit).pending = s.pending := ⟨rfl, rfl⟩

@[simp] theorem State.passOn_kept (s : State) (p : Nat) (m : Msg) (o : Option TmObs) :
    (State.passOn s p m o).mem = s.mem ∧ (State.passOn s p m o).pending = s.pending := by
  unfold State.passOn; constructor <;> ((repeat' split) <;> simp)

@[simp] theorem State.parity_kept (s : State) (p : Nat) (o : Option TmObs) :
    (State.parity s p o).mem = s.mem ∧ (State.parity s p o).pending = s.pending := by
  unfold State.parity; constructor <;> ((repeat' split) <;> simp)

@[simp] theorem writeTmCtl_kept (s : State) (v : Word) :
    (writeTmCtl s v).mem = s.mem ∧ (writeTmCtl s v).pending = s.pending := by
  simp [writeTmCtl]

@[simp] theorem writeQueueRate_kept (s : State) (q : Nat) (v : Word) :
    (writeQueueRate s q v).mem = s.mem ∧ (writeQueueRate s q v).pending = s.pending := ⟨rfl, rfl⟩

@[simp] theorem State.applyQueue_kept (s : State) (n : Nat) :
    (State.applyQueue s n).mem = s.mem ∧ (State.applyQueue s n).pending = s.pending := ⟨rfl, rfl⟩

@[simp] theorem State.coreErr_kept (s : State) (cause plane src dst cls ssn : Nat) :
    (State.coreErr s cause plane src dst cls ssn).mem = s.mem ∧ (State.coreErr s cause plane src dst cls ssn).pending = s.pending := by
  simp [State.coreErr]

@[simp] theorem State.coreBad_kept (s : State) (cause plane src dst cls : Nat) (ssn : Nat) :
    (State.coreBad s cause plane src dst cls ssn).mem = s.mem ∧ (State.coreBad s cause plane src dst cls ssn).pending = s.pending := by
  simp [State.coreBad]

@[simp] theorem State.placeUnicast_kept (s : State) (e : Nat) (m : Msg) (dst : Nat) :
    (State.placeUnicast s e m dst).mem = s.mem ∧ (State.placeUnicast s e m dst).pending = s.pending := ⟨rfl, rfl⟩

@[simp] theorem State.placeMulticast_kept (s : State) (e : Nat) (m : Msg) (dsts : List Nat) :
    (State.placeMulticast s e m dsts).mem = s.mem ∧ (State.placeMulticast s e m dsts).pending = s.pending := ⟨rfl, rfl⟩

@[simp] theorem State.placeMsg_kept (s : State) (e : Nat) (m : Msg) :
    (State.placeMsg s e m).mem = s.mem ∧ (State.placeMsg s e m).pending = s.pending := by
  unfold State.placeMsg
  constructor
  · refine (State.each_kept ?_ _ _).1.trans (by simp)
    intro s x; split <;> simp
  · refine (State.each_kept ?_ _ _).2.trans (by simp)
    intro s x; split <;> simp

@[simp] theorem State.freeNotices_kept (s : State) (e : Nat) :
    (State.freeNotices s e).mem = s.mem ∧ (State.freeNotices s e).pending = s.pending := by
  simp [State.freeNotices]

@[simp] theorem State.closeEager_kept (s : State) :
    (State.closeEager s).mem = s.mem ∧ (State.closeEager s).pending = s.pending := by
  simp [State.closeEager]

@[simp] theorem State.notice_kept (s : State) (n : Notice) (o : Nat) (tie : Bool) :
    (State.notice s n o tie).mem = s.mem ∧ (State.notice s n o tie).pending = s.pending := by
  simp [State.notice]

@[simp] theorem writeOqLim_kept (s : State) (v : Word) :
    (writeOqLim s v).mem = s.mem ∧ (writeOqLim s v).pending = s.pending := by
  simp [writeOqLim]

@[simp] theorem State.storeItem_kept (s : State) (p : Nat) (x : Item) (tie : Bool) :
    (State.storeItem s p x tie).mem = s.mem ∧ (State.storeItem s p x tie).pending = s.pending := by
  simp [State.storeItem]

@[simp] theorem State.planeTakes_kept (s : State) (p : Nat) (x : Item) (obs : TagObs) (tie : Bool) :
    (State.planeTakes s p x obs tie).mem = s.mem ∧ (State.planeTakes s p x obs tie).pending = s.pending := by
  unfold State.planeTakes; constructor <;> ((repeat' split) <;> simp)

@[simp] theorem State.deliverPort_kept (s : State) (p : Nat) (m : Msg) :
    (State.deliverPort s p m).mem = s.mem ∧ (State.deliverPort s p m).pending = s.pending := by
  unfold State.deliverPort; constructor <;> ((repeat' split) <;> simp)

@[simp] theorem State.deliver_kept (s : State) (e : Nat) (m : Msg) :
    (State.deliver s e m).mem = s.mem ∧ (State.deliver s e m).pending = s.pending := by
  unfold State.deliver; constructor <;> ((repeat' split) <;> simp)

@[simp] theorem State.stripeDone_kept (s : State) (src cls e ssn : Nat) :
    (State.stripeDone s src cls e ssn).mem = s.mem ∧ (State.stripeDone s src cls e ssn).pending = s.pending := ⟨rfl, rfl⟩

@[simp] theorem State.releaseStripe_kept (s : State) (e : Nat) (w : Window) :
    (State.releaseStripe s e w).mem = s.mem ∧ (State.releaseStripe s e w).pending = s.pending := by
  unfold State.releaseStripe; constructor <;> ((repeat' split) <;> simp)

@[simp] theorem State.passLost_kept (s : State) (e : Nat) (w : Window) :
    (State.passLost s e w).mem = s.mem ∧ (State.passLost s e w).pending = s.pending := ⟨rfl, rfl⟩

@[simp] theorem State.releaseWindow_kept (s : State) (e : Nat) (x0 : List Window) :
    (State.releaseWindow s e x0).mem = s.mem ∧ (State.releaseWindow s e x0).pending = s.pending := by
  induction x0 generalizing s with
  | nil => simp [State.releaseWindow]
  | cons c cs ih => unfold State.releaseWindow; split <;> simp [ih]

@[simp] theorem State.loseStripe_kept (s : State) (e src cls ssn cause plane : Nat) :
    (State.loseStripe s e src cls ssn cause plane).mem = s.mem ∧ (State.loseStripe s e src cls ssn cause plane).pending = s.pending := by
  simp [State.loseStripe]

@[simp] theorem State.discardCells_kept (s : State) (e : Nat) (ns : List Notice) :
    (State.discardCells s e ns).mem = s.mem ∧ (State.discardCells s e ns).pending = s.pending := by
  simp [State.discardCells]

@[simp] theorem State.writeFails_kept (s : State) (p : Nat) (r : DevReq) :
    (State.writeFails s p r).mem = s.mem ∧ (State.writeFails s p r).pending = s.pending := by
  simp [State.writeFails]

@[simp] theorem State.requestFails_kept (s : State) (p : Nat) (r : DevReq) :
    (State.requestFails s p r).mem = s.mem ∧ (State.requestFails s p r).pending = s.pending := by
  simp [State.requestFails]

@[simp] theorem State.scrubFails_kept (s : State) (p : Nat) (m : Msg) :
    (State.scrubFails s p m).mem = s.mem ∧ (State.scrubFails s p m).pending = s.pending := by
  simp [State.scrubFails]

@[simp] theorem State.response_kept (s : State) (p : Nat) (r : DevReq) (a : DevResp) :
    (State.response s p r a).mem = s.mem ∧ (State.response s p r a).pending = s.pending := by
  unfold State.response; constructor <;> ((repeat' split) <;> simp)

@[simp] theorem State.sweepDevs_kept (s : State) (p : Nat) (down : Bool) :
    (State.sweepDevs s p down).mem = s.mem ∧ (State.sweepDevs s p down).pending = s.pending := by
  simp [State.sweepDevs]

@[simp] theorem State.sweepHost_kept (s : State) (p : Nat) :
    (State.sweepHost s p).mem = s.mem ∧ (State.sweepHost s p).pending = s.pending := by
  simp [State.sweepHost]

@[simp] theorem State.rxFree_kept (s : State) (p vc : Nat) (m : Msg) :
    (State.rxFree s p vc m).mem = s.mem ∧ (State.rxFree s p vc m).pending = s.pending := ⟨rfl, rfl⟩

@[simp] theorem State.alert_kept (s : State) (a : Alert) :
    (State.alert s a).mem = s.mem ∧ (State.alert s a).pending = s.pending := ⟨rfl, rfl⟩

theorem State.sendBypass_kept {s t : State} {node dswid : Nat} {m : BypMsg} (h : s.sendBypass node dswid m = some t) :
    t.mem = s.mem ∧ t.pending = s.pending := by
  unfold State.sendBypass at h
  split at h
  · split at h
    · cases h; simp
    · cases h
  · cases h

@[simp] theorem State.requestFence_kept (s : State) (p : Nat) (h : FabHdr) :
    (State.requestFence s p h).mem = s.mem ∧ (State.requestFence s p h).pending = s.pending := by
  unfold State.requestFence
  simp only []
  generalize hx : s.sendBypass _ _ _ = o
  cases o with
  | none => simp
  | some t => simpa using State.sendBypass_kept hx

@[simp] theorem State.admitFabric_kept (s : State) (p vc : Nat) (m : Msg) (h : FabHdr) (op : HostOp) :
    (State.admitFabric s p vc m h op).mem = s.mem ∧ (State.admitFabric s p vc m h op).pending = s.pending := by
  unfold State.admitFabric; constructor <;> (simp; (repeat' split) <;> simp_all)

@[simp] theorem State.replayHeld_kept (s : State) (p : Nat) (g : Option Nat) :
    (State.replayHeld s p g).mem = s.mem ∧ (State.replayHeld s p g).pending = s.pending := by
  unfold State.replayHeld
  constructor
  · refine (State.each_kept ?_ _ _).1.trans (by simp)
    intro s x
    cases x
    · simp [State.draw]
    · dsimp only; (repeat' split) <;> simp
  · refine (State.each_kept ?_ _ _).2.trans (by simp)
    intro s x
    cases x
    · simp [State.draw]
    · dsimp only; (repeat' split) <;> simp

@[simp] theorem State.replayAll_kept (s : State) (g : Option Nat) :
    (State.replayAll s g).mem = s.mem ∧ (State.replayAll s g).pending = s.pending := by
  simp [State.replayAll]

@[simp] theorem State.endRemote_kept (s : State) (p : Nat) (f : ActRext → Bool) :
    (State.endRemote s p f).mem = s.mem ∧ (State.endRemote s p f).pending = s.pending := by
  simp [State.endRemote]

@[simp] theorem State.fenceRemote_kept (s : State) (p : Nat) (f : Nat → Nat → Bool) :
    (State.fenceRemote s p f).mem = s.mem ∧ (State.fenceRemote s p f).pending = s.pending := by
  simp [State.fenceRemote]

@[simp] theorem State.lossFenceAt_kept (s : State) (p orig peer c : Nat) :
    (State.lossFenceAt s p orig peer c).mem = s.mem ∧ (State.lossFenceAt s p orig peer c).pending = s.pending := by
  unfold State.lossFenceAt; constructor <;> ((repeat' split) <;> simp)

@[simp] theorem State.lossEnd_kept (s : State) (orig peer n : Nat) :
    (State.lossEnd s orig peer n).mem = s.mem ∧ (State.lossEnd s orig peer n).pending = s.pending := by
  simp [State.lossEnd]

@[simp] theorem State.actOnLoss_kept (s : State) (p orig peer seq inc : Nat) :
    (State.actOnLoss s p orig peer seq inc).mem = s.mem ∧ (State.actOnLoss s p orig peer seq inc).pending = s.pending := by
  simp [State.actOnLoss]

@[simp] theorem State.tellLoss_kept (s : State) (p : Nat) (m : BypMsg) :
    (State.tellLoss s p m).mem = s.mem ∧ (State.tellLoss s p m).pending = s.pending := by
  simp [State.tellLoss]

@[simp] theorem State.incarnation_kept (s : State) :
    (State.incarnation s).2.mem = s.mem ∧ (State.incarnation s).2.pending = s.pending := by
  unfold State.incarnation; constructor <;> (simp; (repeat' split) <;> simp_all)

@[simp] theorem State.ownLoss_kept (s : State) (p : Nat) :
    (State.ownLoss s p).mem = s.mem ∧ (State.ownLoss s p).pending = s.pending := by
  simp [State.ownLoss]

@[simp] theorem State.selectSpare_kept (s : State) (i : Nat) (k : Option Nat) :
    (State.selectSpare s i k).mem = s.mem ∧ (State.selectSpare s i k).pending = s.pending := by
  unfold State.selectSpare; constructor <;> ((repeat' split) <;> simp)

@[simp] theorem State.setTxEq_kept (s : State) (n pre post : Nat) :
    (State.setTxEq s n pre post).mem = s.mem ∧ (State.setTxEq s n pre post).pending = s.pending := ⟨rfl, rfl⟩

@[simp] theorem State.eqRequest_kept (s : State) (r op preset pre post : Nat) :
    (State.eqRequest s r op preset pre post).mem = s.mem ∧ (State.eqRequest s r op preset pre post).pending = s.pending := by
  simp [State.eqRequest]

@[simp] theorem State.eqApply_kept (s : State) (n r : Nat) :
    (State.eqApply s n r).mem = s.mem ∧ (State.eqApply s n r).pending = s.pending := by
  unfold State.eqApply; constructor <;> ((repeat' split) <;> simp)

@[simp] theorem State.eqBegin_kept (s : State) (n r : Nat) :
    (State.eqBegin s n r).mem = s.mem ∧ (State.eqBegin s n r).pending = s.pending := by
  simp [State.eqBegin]

@[simp] theorem State.laneOn_kept (s : State) (n rate : Nat) :
    (State.laneOn s n rate).mem = s.mem ∧ (State.laneOn s n rate).pending = s.pending := ⟨rfl, rfl⟩

@[simp] theorem State.laneIdle_kept (s : State) (n : Nat) :
    (State.laneIdle s n).mem = s.mem ∧ (State.laneIdle s n).pending = s.pending := ⟨rfl, rfl⟩

@[simp] theorem State.abandonScan_kept (s : State) (n : Nat) :
    (State.abandonScan s n).mem = s.mem ∧ (State.abandonScan s n).pending = s.pending := by
  simp [State.abandonScan]

@[simp] theorem State.laneOff_kept (s : State) (n : Nat) :
    (State.laneOff s n).mem = s.mem ∧ (State.laneOff s n).pending = s.pending := by
  simp [State.laneOff]

@[simp] theorem State.spareUse_kept (s : State) (i use lane : Nat) :
    (State.spareUse s i use lane).mem = s.mem ∧ (State.spareUse s i use lane).pending = s.pending := ⟨rfl, rfl⟩

@[simp] theorem State.mirror_kept (s : State) (i lane : Nat) :
    (State.mirror s i lane).mem = s.mem ∧ (State.mirror s i lane).pending = s.pending := by
  simp [State.mirror]

@[simp] theorem State.mirrorHome_kept (s : State) (i : Nat) :
    (State.mirrorHome s i).mem = s.mem ∧ (State.mirrorHome s i).pending = s.pending := by
  unfold State.mirrorHome; constructor <;> ((repeat' split) <;> simp)

@[simp] theorem State.settleSpare_kept (s : State) (i : Nat) :
    (State.settleSpare s i).mem = s.mem ∧ (State.settleSpare s i).pending = s.pending := by
  simp [State.settleSpare]

@[simp] theorem State.closeHeat_kept (s : State) (i result : Nat) :
    (State.closeHeat s i result).mem = s.mem ∧ (State.closeHeat s i result).pending = s.pending := by
  simp [State.closeHeat]

@[simp] theorem State.endHeat_kept (s : State) (i result : Nat) :
    (State.endHeat s i result).mem = s.mem ∧ (State.endHeat s i result).pending = s.pending := by
  simp [State.endHeat]

@[simp] theorem State.setLfl_kept (s : State) (i st : Nat) :
    (State.setLfl s i st).mem = s.mem ∧ (State.setLfl s i st).pending = s.pending := ⟨rfl, rfl⟩

@[simp] theorem State.idleHalf_kept (s : State) (i : Nat) :
    (State.idleHalf s i).mem = s.mem ∧ (State.idleHalf s i).pending = s.pending := by
  simp [State.idleHalf]

@[simp] theorem State.clearHalf_kept (s : State) (i : Nat) :
    (State.clearHalf s i).mem = s.mem ∧ (State.clearHalf s i).pending = s.pending := ⟨rfl, rfl⟩

@[simp] theorem State.releaseSpare_kept (s : State) (i : Nat) (started : Bool) :
    (State.releaseSpare s i started).mem = s.mem ∧ (State.releaseSpare s i started).pending = s.pending := by
  unfold State.releaseSpare; constructor <;> ((repeat' split) <;> simp)

@[simp] theorem State.expireRemote_kept (s : State) (p : Nat) :
    (State.expireRemote s p).mem = s.mem ∧ (State.expireRemote s p).pending = s.pending := by
  simp [State.expireRemote]

@[simp] theorem State.lflDown_kept (s : State) (i cause : Nat) :
    (State.lflDown s i cause).mem = s.mem ∧ (State.lflDown s i cause).pending = s.pending := by
  simp [State.lflDown]

@[simp] theorem State.lflFail_kept (s : State) (i cause : Nat) :
    (State.lflFail s i cause).mem = s.mem ∧ (State.lflFail s i cause).pending = s.pending := by
  simp [State.lflFail]

@[simp] theorem State.lflDetectEnter_kept (s : State) (i : Nat) :
    (State.lflDetectEnter s i).mem = s.mem ∧ (State.lflDetectEnter s i).pending = s.pending := by
  simp [State.lflDetectEnter]

@[simp] theorem State.lflStart_kept (s : State) (i : Nat) :
    (State.lflStart s i).mem = s.mem ∧ (State.lflStart s i).pending = s.pending := by
  simp [State.lflStart]

@[simp] theorem State.setOrder_kept (s : State) (i : Nat) :
    (State.setOrder s i).mem = s.mem ∧ (State.setOrder s i).pending = s.pending := by
  simp [State.setOrder]

@[simp] theorem State.setSpareMap_kept (s : State) (i : Nat) :
    (State.setSpareMap s i).mem = s.mem ∧ (State.setSpareMap s i).pending = s.pending := by
  simp [State.setSpareMap]

@[simp] theorem State.startEq_kept (s : State) (i : Nat) :
    (State.startEq s i).mem = s.mem ∧ (State.startEq s i).pending = s.pending := by
  simp [State.startEq]

@[simp] theorem State.advance_kept (s : State) (i : Nat) :
    (State.advance s i).mem = s.mem ∧ (State.advance s i).pending = s.pending := by
  unfold State.advance; constructor <;> ((repeat' split) <;> simp)

@[simp] theorem State.takeBlock_kept (s : State) (i n : Nat) (b : Ltb) (skewOk : Bool) :
    (State.takeBlock s i n b skewOk).mem = s.mem ∧ (State.takeBlock s i n b skewOk).pending = s.pending := by
  simp [State.takeBlock]

@[simp] theorem State.lflUp_kept (s : State) (i : Nat) (m : InitMsg) (grants : List Nat) :
    (State.lflUp s i m grants).mem = s.mem ∧ (State.lflUp s i m grants).pending = s.pending := by
  simp [State.lflUp]

@[simp] theorem State.takeInit_kept (s : State) (i : Nat) (m : InitMsg) (grants : List Nat) :
    (State.takeInit s i m grants).mem = s.mem ∧ (State.takeInit s i m grants).pending = s.pending := by
  simp [State.takeInit]

@[simp] theorem State.badFlit_kept (s : State) (i : Nat) :
    (State.badFlit s i).mem = s.mem ∧ (State.badFlit s i).pending = s.pending := by
  simp [State.badFlit]

@[simp] theorem State.packet_kept (s : State) (i : Nat) (x : Nat × Msg) :
    (State.packet s i x).mem = s.mem ∧ (State.packet s i x).pending = s.pending := by
  unfold State.packet; constructor <;> ((repeat' split) <;> simp)

@[simp] theorem State.dropBypass_kept (s : State) (i : Nat) :
    (State.dropBypass s i).mem = s.mem ∧ (State.dropBypass s i).pending = s.pending := ⟨rfl, rfl⟩

@[simp] theorem State.bypass_kept (s : State) (i : Nat) (m : BypMsg) :
    (State.bypass s i m).mem = s.mem ∧ (State.bypass s i m).pending = s.pending := by
  unfold State.bypass; constructor <;> ((repeat' split) <;> simp)

@[simp] theorem State.steerSwitch_kept (s : State) (i : Nat) :
    (State.steerSwitch s i).mem = s.mem ∧ (State.steerSwitch s i).pending = s.pending := by
  unfold State.steerSwitch; constructor <;> (simp; (repeat' split) <;> simp_all)

@[simp] theorem State.accept'_kept (s : State) (i : Nat) (f : Flit) (ms : List Msg) :
    (State.accept' s i f ms).mem = s.mem ∧ (State.accept' s i f ms).pending = s.pending := by
  unfold State.accept'; constructor <;> ((repeat' split) <;> simp)

@[simp] theorem State.sequenced_kept (s : State) (i : Nat) (f : Flit) (ms : List Msg) :
    (State.sequenced s i f ms).mem = s.mem ∧ (State.sequenced s i f ms).pending = s.pending := by
  simp [State.sequenced]

@[simp] theorem State.creditInit_kept (s : State) (i : Nat) :
    (State.creditInit s i).mem = s.mem ∧ (State.creditInit s i).pending = s.pending := ⟨rfl, rfl⟩

@[simp] theorem State.goodFlit_kept (s : State) (i : Nat) (f : Flit) (ms : List Msg) :
    (State.goodFlit s i f ms).mem = s.mem ∧ (State.goodFlit s i f ms).pending = s.pending := by
  unfold State.goodFlit; constructor <;> (simp; (repeat' split) <;> simp_all)

@[simp] theorem State.takeFlit_kept (s : State) (i k v : Nat) (ms : List Msg) :
    (State.takeFlit s i k v ms).mem = s.mem ∧ (State.takeFlit s i k v ms).pending = s.pending := by
  simp [State.takeFlit]

@[simp] theorem State.lostFlit_kept (s : State) (i : Nat) :
    (State.lostFlit s i).mem = s.mem ∧ (State.lostFlit s i).pending = s.pending := by
  simp [State.lostFlit]

@[simp] theorem State.startReplay_kept (s : State) (i : Nat) :
    (State.startReplay s i).mem = s.mem ∧ (State.startReplay s i).pending = s.pending := by
  unfold State.startReplay; constructor <;> (simp; (repeat' split) <;> simp_all)

@[simp] theorem State.sendFlit_kept (s : State) (i : Nat) (f : Flit) :
    (State.sendFlit s i f).mem = s.mem ∧ (State.sendFlit s i f).pending = s.pending := ⟨rfl, rfl⟩

@[simp] theorem State.sendLtb_kept (s : State) (i n r k : Nat) :
    (State.sendLtb s i n r k).mem = s.mem ∧ (State.sendLtb s i n r k).pending = s.pending := by
  simp [State.sendLtb]

@[simp] theorem State.sendBlocks_kept (s : State) (i : Nat) :
    (State.sendBlocks s i).mem = s.mem ∧ (State.sendBlocks s i).pending = s.pending := by
  simp [State.sendBlocks]

@[simp] theorem State.sendFreed_kept (s : State) (i : Nat) :
    (State.sendFreed s i).mem = s.mem ∧ (State.sendFreed s i).pending = s.pending := by
  unfold State.sendFreed; constructor <;> ((repeat' split) <;> simp)

@[simp] theorem State.sendIdle_kept (s : State) (i ftype : Nat) :
    (State.sendIdle s i ftype).mem = s.mem ∧ (State.sendIdle s i ftype).pending = s.pending := ⟨rfl, rfl⟩

@[simp] theorem State.startSnoops_kept (s : State) (p : Nat) (xs : List FlitSlot) :
    (State.startSnoops s p xs).mem = s.mem ∧ (State.startSnoops s p xs).pending = s.pending := by
  simp [State.startSnoops]

@[simp] theorem State.newFlit_kept (s : State) (i : Nat) :
    (State.newFlit s i).mem = s.mem ∧ (State.newFlit s i).pending = s.pending := by
  simp [State.newFlit]

@[simp] theorem State.resendFlit_kept (s : State) (i n : Nat) :
    (State.resendFlit s i n).mem = s.mem ∧ (State.resendFlit s i n).pending = s.pending := by
  unfold State.resendFlit; constructor <;> ((repeat' split) <;> simp)

@[simp] theorem State.lflDisable_kept (s : State) (i : Nat) :
    (State.lflDisable s i).mem = s.mem ∧ (State.lflDisable s i).pending = s.pending := by
  simp [State.lflDisable]

@[simp] theorem State.stopLink_kept (s : State) (p : Nat) :
    (State.stopLink s p).mem = s.mem ∧ (State.stopLink s p).pending = s.pending := by
  simp [State.stopLink]

@[simp] theorem writeSsCtl_kept (s : State) (n : Nat) (v : Word) :
    (writeSsCtl s n v).mem = s.mem ∧ (writeSsCtl s n v).pending = s.pending := by
  simp [writeSsCtl]

@[simp] theorem State.laneLost_kept (s : State) (n : Nat) :
    (State.laneLost s n).mem = s.mem ∧ (State.laneLost s n).pending = s.pending := by
  unfold State.laneLost; constructor <;> (simp; (repeat' split) <;> simp_all)

@[simp] theorem State.laneBack_kept (s : State) (n : Nat) :
    (State.laneBack s n).mem = s.mem ∧ (State.laneBack s n).pending = s.pending := by
  unfold State.laneBack; constructor <;> ((repeat' split) <;> simp)

@[simp] theorem State.askFar_kept (s : State) (n : Nat) (x : Nat × Nat) :
    (State.askFar s n x).mem = s.mem ∧ (State.askFar s n x).pending = s.pending := by
  simp [State.askFar]

@[simp] theorem State.eqFinish_kept (s : State) (n : Nat) :
    (State.eqFinish s n).mem = s.mem ∧ (State.eqFinish s n).pending = s.pending := by
  unfold State.eqFinish; constructor <;> ((repeat' split) <;> simp)

@[simp] theorem State.patAdd_kept (s : State) (n bits errors : Nat) :
    (State.patAdd s n bits errors).mem = s.mem ∧ (State.patAdd s n bits errors).pending = s.pending := ⟨rfl, rfl⟩

@[simp] theorem State.patCount_kept (s : State) (n : Nat) :
    (State.patCount s n).mem = s.mem ∧ (State.patCount s n).pending = s.pending := by
  simp [State.patCount]

@[simp] theorem writeLnCtl_kept (s : State) (n : Nat) (v : Word) :
    (writeLnCtl s n v).mem = s.mem ∧ (writeLnCtl s n v).pending = s.pending := by
  simp [writeLnCtl]

@[simp] theorem writeLnTxeq_kept (s : State) (n : Nat) (v : Word) :
    (writeLnTxeq s n v).mem = s.mem ∧ (writeLnTxeq s n v).pending = s.pending := by
  simp [writeLnTxeq]

@[simp] theorem writeLnEqCfg_kept (s : State) (n : Nat) (v : Word) :
    (writeLnEqCfg s n v).mem = s.mem ∧ (writeLnEqCfg s n v).pending = s.pending := by
  simp [writeLnEqCfg]

@[simp] theorem writeLnRxeq_kept (s : State) (n : Nat) (v : Word) :
    (writeLnRxeq s n v).mem = s.mem ∧ (writeLnRxeq s n v).pending = s.pending := by
  simp [writeLnRxeq]

@[simp] theorem writeLnDet_kept (s : State) (n : Nat) (v : Word) :
    (writeLnDet s n v).mem = s.mem ∧ (writeLnDet s n v).pending = s.pending := by
  simp [writeLnDet]

@[simp] theorem writeLnLb_kept (s : State) (n : Nat) (v : Word) :
    (writeLnLb s n v).mem = s.mem ∧ (writeLnLb s n v).pending = s.pending := by
  simp [writeLnLb]

@[simp] theorem writeLnCdr_kept (s : State) (n : Nat) (v : Word) :
    (writeLnCdr s n v).mem = s.mem ∧ (writeLnCdr s n v).pending = s.pending := by
  simp [writeLnCdr]

@[simp] theorem writeLflCtl_kept (s : State) (i : Nat) (v : Word) :
    (writeLflCtl s i v).mem = s.mem ∧ (writeLflCtl s i v).pending = s.pending := by
  simp [writeLflCtl]

@[simp] theorem writeLflCrdTmo_kept (s : State) (i : Nat) (v : Word) :
    (writeLflCrdTmo s i v).mem = s.mem ∧ (writeLflCrdTmo s i v).pending = s.pending := by
  simp [writeLflCrdTmo]

@[simp] theorem writeLflCrdInit_kept (s : State) (i k : Nat) (v : Word) :
    (writeLflCrdInit s i k v).mem = s.mem ∧ (writeLflCrdInit s i k v).pending = s.pending := by
  simp [writeLflCrdInit]

@[simp] theorem State.queueBypass_kept (s : State) (i : Nat) (m : BypMsg) :
    (State.queueBypass s i m).mem = s.mem ∧ (State.queueBypass s i m).pending = s.pending := ⟨rfl, rfl⟩

@[simp] theorem State.steer_kept (s : State) (i lane : Nat) (op : SteerOp) :
    (State.steer s i lane op).mem = s.mem ∧ (State.steer s i lane op).pending = s.pending := ⟨rfl, rfl⟩

@[simp] theorem State.modHeat_kept (s : State) (i : Nat) (f : Heat → Heat) :
    (State.modHeat s i f).mem = s.mem ∧ (State.modHeat s i f).pending = s.pending := ⟨rfl, rfl⟩

@[simp] theorem State.tryOut_kept (s : State) (i : Nat) :
    (State.tryOut s i).mem = s.mem ∧ (State.tryOut s i).pending = s.pending := by
  unfold State.tryOut; constructor <;> ((repeat' split) <;> simp)

@[simp] theorem State.mirrorNext_kept (s : State) (i lane : Nat) :
    (State.mirrorNext s i lane).mem = s.mem ∧ (State.mirrorNext s i lane).pending = s.pending := by
  unfold State.mirrorNext; constructor <;> ((repeat' split) <;> simp)

@[simp] theorem State.startHeat_kept (s : State) (i : Nat) :
    (State.startHeat s i).mem = s.mem ∧ (State.startHeat s i).pending = s.pending := by
  unfold State.startHeat; constructor <;> (simp; (repeat' split) <;> simp_all)

@[simp] theorem State.abortHeat_kept (s : State) (i : Nat) :
    (State.abortHeat s i).mem = s.mem ∧ (State.abortHeat s i).pending = s.pending := ⟨rfl, rfl⟩

@[simp] theorem writeHtCtl_kept (s : State) (i : Nat) (v : Word) :
    (writeHtCtl s i v).mem = s.mem ∧ (writeHtCtl s i v).pending = s.pending := by
  simp [writeHtCtl]

@[simp] theorem State.nextVisit_kept (s : State) (i : Nat) (x : Heat) :
    (State.nextVisit s i x).mem = s.mem ∧ (State.nextVisit s i x).pending = s.pending := by
  unfold State.nextVisit; constructor <;> ((repeat' split) <;> simp)

@[simp] theorem State.retireLane_kept (s : State) (i lane : Nat) :
    (State.retireLane s i lane).mem = s.mem ∧ (State.retireLane s i lane).pending = s.pending := by
  simp [State.retireLane]

@[simp] theorem State.recordMargins_kept (s : State) (i lane : Nat) (near far : Nat × Nat) :
    (State.recordMargins s i lane near far).mem = s.mem ∧ (State.recordMargins s i lane near far).pending = s.pending := ⟨rfl, rfl⟩

@[simp] theorem State.judge_kept (s : State) (i : Nat) :
    (State.judge s i).mem = s.mem ∧ (State.judge s i).pending = s.pending := by
  unfold State.judge; constructor <;> ((repeat' split) <;> simp)

@[simp] theorem State.scanned_kept (s : State) (i : Nat) (m : Nat × Nat) :
    (State.scanned s i m).mem = s.mem ∧ (State.scanned s i m).pending = s.pending := by
  unfold State.scanned; constructor <;> ((repeat' split) <;> simp)

@[simp] theorem State.respond_kept (s : State) (i : Nat) (x : SteerMsg) :
    (State.respond s i x).mem = s.mem ∧ (State.respond s i x).pending = s.pending := by
  simp [State.respond]

@[simp] theorem writeSpCtl_kept (s : State) (o : Nat) (v : Word) :
    (writeSpCtl s o v).mem = s.mem ∧ (writeSpCtl s o v).pending = s.pending := by
  simp [writeSpCtl]

@[simp] theorem State.setBridge_kept (s : State) (h f off v : Nat) :
    (State.setBridge s h f off v).mem = s.mem ∧ (State.setBridge s h f off v).pending = s.pending := ⟨rfl, rfl⟩

@[simp] theorem State.vppbs_kept (old new : State) :
    (State.vppbs old new).mem = new.mem ∧ (State.vppbs old new).pending = new.pending := by
  unfold State.vppbs
  exact State.each_kept (by intro s x; split <;> simp) _ _

@[simp] theorem State.sweep_kept (s : State) (p role : Nat) :
    (State.sweep s p role).mem = s.mem ∧ (State.sweep s p role).pending = s.pending := by
  unfold State.sweep; constructor <;> ((repeat' split) <;> simp)

@[simp] theorem State.linkOff_kept (s : State) (p cause : Nat) :
    (State.linkOff s p cause).mem = s.mem ∧ (State.linkOff s p cause).pending = s.pending := by
  simp [State.linkOff]

@[simp] theorem State.linkDrop_kept (s : State) (p cause : Nat) :
    (State.linkDrop s p cause).mem = s.mem ∧ (State.linkDrop s p cause).pending = s.pending := by
  simp [State.linkDrop]

@[simp] theorem State.setPortState_kept (s : State) (p st : Nat) :
    (State.setPortState s p st).mem = s.mem ∧ (State.setPortState s p st).pending = s.pending := by
  simp [State.setPortState]

@[simp] theorem State.trainFail_kept (s : State) (p cause : Nat) :
    (State.trainFail s p cause).mem = s.mem ∧ (State.trainFail s p cause).pending = s.pending := ⟨rfl, rfl⟩

@[simp] theorem State.train_kept (s : State) (p : Nat) :
    (State.train s p).mem = s.mem ∧ (State.train s p).pending = s.pending := by
  simp [State.train]

@[simp] theorem State.portUp_kept (s : State) (p : Nat) :
    (State.portUp s p).mem = s.mem ∧ (State.portUp s p).pending = s.pending := by
  simp [State.portUp]

@[simp] theorem State.enumerate_kept (s : State) (p : Nat) :
    (State.enumerate s p).mem = s.mem ∧ (State.enumerate s p).pending = s.pending := ⟨rfl, rfl⟩

@[simp] theorem State.portStart_kept (s : State) (p : Nat) :
    (State.portStart s p).mem = s.mem ∧ (State.portStart s p).pending = s.pending := by
  simp [State.portStart]

@[simp] theorem State.pcieAsk_kept (s : State) (n : Nat) (fast : Bool) (a : EqAsk) :
    (State.pcieAsk s n fast a).mem = s.mem ∧ (State.pcieAsk s n fast a).pending = s.pending := by
  unfold State.pcieAsk; constructor <;> ((repeat' split) <;> simp)

@[simp] theorem State.setLanes_kept (s : State) (p rate w : Nat) (rev : Bool) (ls : List LaneTrained) :
    (State.setLanes s p rate w rev ls).mem = s.mem ∧ (State.setLanes s p rate w rev ls).pending = s.pending := by
  simp [State.setLanes]

@[simp] theorem State.portDown_kept (s : State) (p cause : Nat) :
    (State.portDown s p cause).mem = s.mem ∧ (State.portDown s p cause).pending = s.pending := by
  simp [State.portDown]

@[simp] theorem State.enumFail_kept (s : State) (p err : Nat) :
    (State.enumFail s p err).mem = s.mem ∧ (State.enumFail s p err).pending = s.pending := by
  simp [State.enumFail]

@[simp] theorem State.enumStep_kept (s : State) (p : Nat) (e : EnumSt) :
    (State.enumStep s p e).mem = s.mem ∧ (State.enumStep s p e).pending = s.pending := ⟨rfl, rfl⟩

@[simp] theorem State.enumDone_kept (s : State) (p : Nat) (e : EnumSt) :
    (State.enumDone s p e).mem = s.mem ∧ (State.enumDone s p e).pending = s.pending := by
  simp [State.enumDone]

@[simp] theorem State.enumTimedOut_kept (s : State) (p err : Nat) :
    (State.enumTimedOut s p err).mem = s.mem ∧ (State.enumTimedOut s p err).pending = s.pending := by
  simp [State.enumTimedOut]

@[simp] theorem State.setWidth_kept (s : State) (p w : Nat) :
    (State.setWidth s p w).mem = s.mem ∧ (State.setWidth s p w).pending = s.pending := by
  simp [State.setWidth]

@[simp] theorem State.busReset_kept (s : State) (h v : Nat) :
    (State.busReset s h v).mem = s.mem ∧ (State.busReset s h v).pending = s.pending := by
  simp [State.busReset]

@[simp] theorem State.bridgeWrite_kept (s : State) (h f off v : Nat) (enable : Fin 16) :
    (State.bridgeWrite s h f off v enable).mem = s.mem ∧ (State.bridgeWrite s h f off v enable).pending = s.pending := by
  simp [State.bridgeWrite]

@[simp] theorem State.portStop_kept (s : State) (p : Nat) :
    (State.portStop s p).mem = s.mem ∧ (State.portStop s p).pending = s.pending := by
  simp [State.portStop]

@[simp] theorem State.mbx_kept (s : State) (p : Nat) (code : MbxCode) (data : List Nat) :
    (State.mbx s p code data).mem = s.mem ∧ (State.mbx s p code data).pending = s.pending := by
  simp [State.mbx]

@[simp] theorem State.fm_kept (s : State) (tag : Nat) (code : FmCode) (data : List Nat) :
    (State.fm s tag code data).mem = s.mem ∧ (State.fm s tag code data).pending = s.pending := by
  simp [State.fm]

@[simp] theorem writeBind_kept (s : State) (p : Nat) (v : Word) :
    (writeBind s p v).mem = s.mem ∧ (writeBind s p v).pending = s.pending := by
  simp [writeBind]

@[simp] theorem State.violate_kept (s : State) (who : Requester) (mgmt : Bool) (acc : Acc) (r : Nat × Nat) :
    (State.violate s who mgmt acc r).mem = s.mem ∧ (State.violate s who mgmt acc r).pending = s.pending := by
  simp [State.violate]

@[simp] theorem State.spadUe_kept (s : State) (a : Nat) (merge : Bool) :
    (State.spadUe s a merge).mem = s.mem ∧ (State.spadUe s a merge).pending = s.pending := by
  simp [State.spadUe]

@[simp] theorem State.spadRead_kept (s : State) (a n : Nat) (o : SpadObs) :
    (State.spadRead s a n o).2.1.mem = s.mem ∧ (State.spadRead s a n o).2.1.pending = s.pending := by
  unfold State.spadRead; constructor <;> (simp; (repeat' split) <;> simp_all)

@[simp] theorem State.setCfg_kept (s : State) (p off v : Nat) :
    (State.setCfg s p off v).mem = s.mem ∧ (State.setCfg s p off v).pending = s.pending := ⟨rfl, rfl⟩

@[simp] theorem State.cfgWrite_kept (s : State) (p off v : Nat) (enable : Fin 16) :
    (State.cfgWrite s p off v enable).mem = s.mem ∧ (State.cfgWrite s p off v enable).pending = s.pending := ⟨rfl, rfl⟩

@[simp] theorem State.aer_kept (s : State) (p b : Nat) :
    (State.aer s p b).mem = s.mem ∧ (State.aer s p b).pending = s.pending := by
  simp [State.aer]

@[simp] theorem State.aerAdvisory_kept (s : State) (p b : Nat) :
    (State.aerAdvisory s p b).mem = s.mem ∧ (State.aerAdvisory s p b).pending = s.pending := by
  simp [State.aerAdvisory]

@[simp] theorem State.hsfLog_kept (s : State) (p cause addr : Nat) :
    (State.hsfLog s p cause addr).mem = s.mem ∧ (State.hsfLog s p cause addr).pending = s.pending := by
  simp [State.hsfLog]

@[simp] theorem State.hsfDrain_kept (s : State) (p : Nat) :
    (State.hsfDrain s p).mem = s.mem ∧ (State.hsfDrain s p).pending = s.pending := by
  simp [State.hsfDrain]

@[simp] theorem State.hsfHand_kept (s : State) (p : Nat) (t : HsfTlp) :
    (State.hsfHand s p t).mem = s.mem ∧ (State.hsfHand s p t).pending = s.pending := ⟨rfl, rfl⟩

@[simp] theorem State.sendVec_kept (s : State) (p v : Nat) :
    (State.sendVec s p v).mem = s.mem ∧ (State.sendVec s p v).pending = s.pending := by
  simp [State.sendVec]

@[simp] theorem State.raise_kept (s : State) (p v : Nat) :
    (State.raise s p v).mem = s.mem ∧ (State.raise s p v).pending = s.pending := by
  simp [State.raise]

@[simp] theorem State.dmaEnd_kept (s : State) (e status : Nat) :
    (State.dmaEnd s e status).mem = s.mem ∧ (State.dmaEnd s e status).pending = s.pending := by
  simp [State.dmaEnd]

@[simp] theorem State.clearMailbox_kept (s : State) (k : Nat) :
    (State.clearMailbox s k).mem = s.mem ∧ (State.clearMailbox s k).pending = s.pending := ⟨rfl, rfl⟩

@[simp] theorem State.flrReset_kept (s : State) (p : Nat) :
    (State.flrReset s p).mem = s.mem ∧ (State.flrReset s p).pending = s.pending := by
  simp [State.flrReset]

@[simp] theorem writeHsfCmd_kept (s : State) (p : Nat) (v : Word) :
    (writeHsfCmd s p v).mem = s.mem ∧ (writeHsfCmd s p v).pending = s.pending := by
  simp [writeHsfCmd]

@[simp] theorem writeHsfCtl_kept (s : State) (p : Nat) (v : Word) :
    (writeHsfCtl s p v).mem = s.mem ∧ (writeHsfCtl s p v).pending = s.pending := by
  simp [writeHsfCtl]

@[simp] theorem writeHsfSubsys_kept (s : State) (p : Nat) (v : Word) :
    (writeHsfSubsys s p v).mem = s.mem ∧ (writeHsfSubsys s p v).pending = s.pending := by
  simp [writeHsfSubsys]

@[simp] theorem State.setClaims_kept (s : State) (k : Nat) (l : List Nat) :
    (State.setClaims s k l).mem = s.mem ∧ (State.setClaims s k l).pending = s.pending := ⟨rfl, rfl⟩

@[simp] theorem State.sliceErr_kept (s : State) (k cause meter : Nat) :
    (State.sliceErr s k cause meter).mem = s.mem ∧ (State.sliceErr s k cause meter).pending = s.pending := by
  simp [State.sliceErr]

@[simp] theorem State.applySsel_kept (s : State) (k : Nat) :
    (State.applySsel s k).mem = s.mem ∧ (State.applySsel s k).pending = s.pending := ⟨rfl, rfl⟩

@[simp] theorem writeSlcCmd_kept (s : State) (k : Nat) (v : Word) :
    (writeSlcCmd s k v).mem = s.mem ∧ (writeSlcCmd s k v).pending = s.pending := by
  unfold writeSlcCmd; constructor <;> ((repeat' split) <;> simp)

@[simp] theorem State.sliceStart_kept (s : State) (k : Nat) :
    (State.sliceStart s k).mem = s.mem ∧ (State.sliceStart s k).pending = s.pending := by
  simp [State.sliceStart]

@[simp] theorem State.doorbell_kept (s : State) (k tag : Nat) :
    (State.doorbell s k tag).mem = s.mem ∧ (State.doorbell s k tag).pending = s.pending := by
  simp [State.doorbell]

@[simp] theorem State.commandWrite_kept (s : State) (k off : Nat) (bs : List Byte) :
    (State.commandWrite s k off bs).mem = s.mem ∧ (State.commandWrite s k off bs).pending = s.pending := by
  simp [State.commandWrite]

@[simp] theorem writeMbDone_kept (s : State) (k : Nat) (v : Word) :
    (writeMbDone s k v).mem = s.mem ∧ (writeMbDone s k v).pending = s.pending := by
  simp [writeMbDone]

@[simp] theorem writeSlcSetting_kept (s : State) (key : RKey) (v : Word) :
    (writeSlcSetting s key v).mem = s.mem ∧ (writeSlcSetting s key v).pending = s.pending := by
  simp [writeSlcSetting]

@[simp] theorem State.bayApply_kept (s : State) (k : Nat) :
    (State.bayApply s k).mem = s.mem ∧ (State.bayApply s k).pending = s.pending := by
  simp [State.bayApply]

@[simp] theorem State.bayEvent_kept (s : State) (k reason cause new old : Nat) :
    (State.bayEvent s k reason cause new old).mem = s.mem ∧ (State.bayEvent s k reason cause new old).pending = s.pending := by
  simp [State.bayEvent]

@[simp] theorem State.bayNote_kept (s : State) (k reason : Nat) :
    (State.bayNote s k reason).mem = s.mem ∧ (State.bayNote s k reason).pending = s.pending := by
  simp [State.bayNote]

@[simp] theorem State.bayNm_kept (s : State) (k : Nat) (tie : Bool) :
    (State.bayNm s k tie).mem = s.mem ∧ (State.bayNm s k tie).pending = s.pending := by
  simp [State.bayNm]

@[simp] theorem State.setGate_kept (s : State) (k f : Nat) (on : Bool) :
    (State.setGate s k f on).mem = s.mem ∧ (State.setGate s k f on).pending = s.pending := by
  unfold State.setGate; constructor <;> ((repeat' split) <;> simp)

@[simp] theorem State.gatesOff_kept (s : State) (k : Nat) :
    (State.gatesOff s k).mem = s.mem ∧ (State.gatesOff s k).pending = s.pending := ⟨rfl, rfl⟩

@[simp] theorem State.bayMove_kept (s : State) (k st : Nat) :
    (State.bayMove s k st).mem = s.mem ∧ (State.bayMove s k st).pending = s.pending := ⟨rfl, rfl⟩

@[simp] theorem State.bayTurnOff_kept (s : State) (k why : Nat) :
    (State.bayTurnOff s k why).mem = s.mem ∧ (State.bayTurnOff s k why).pending = s.pending := ⟨rfl, rfl⟩

@[simp] theorem State.sample_kept (s : State) (k : Nat) (o : BayObs) :
    (State.sample s k o).mem = s.mem ∧ (State.sample s k o).pending = s.pending := by
  unfold State.sample; constructor <;> (simp; (repeat' split) <;> simp_all)

@[simp] theorem State.trip_kept (s : State) (k cause : Nat) :
    (State.trip s k cause).mem = s.mem ∧ (State.trip s k cause).pending = s.pending := by
  simp [State.trip]

@[simp] theorem State.setSource_kept (s : State) (k : Nat) (f : Fld) (src : Nat) :
    (State.setSource s k f src).mem = s.mem ∧ (State.setSource s k f src).pending = s.pending := by
  simp [State.setSource]

@[simp] theorem State.rampBegin_kept (s : State) (k : Nat) :
    (State.rampBegin s k).mem = s.mem ∧ (State.rampBegin s k).pending = s.pending := by
  simp [State.rampBegin]

@[simp] theorem State.bayOffByFault_kept (s : State) (k : Nat) :
    (State.bayOffByFault s k).mem = s.mem ∧ (State.bayOffByFault s k).pending = s.pending := by
  simp [State.bayOffByFault]

@[simp] theorem State.bayEnable_kept (s : State) (k : Nat) :
    (State.bayEnable s k).mem = s.mem ∧ (State.bayEnable s k).pending = s.pending := by
  simp [State.bayEnable]

@[simp] theorem State.bayOffCmd_kept (s : State) (k : Nat) :
    (State.bayOffCmd s k).mem = s.mem ∧ (State.bayOffCmd s k).pending = s.pending := by
  simp [State.bayOffCmd]

@[simp] theorem State.bayCommand_kept (s : State) (k cmd : Nat) (clean : Bool) :
    (State.bayCommand s k cmd clean).2.mem = s.mem ∧ (State.bayCommand s k cmd clean).2.pending = s.pending := by
  unfold State.bayCommand; constructor <;> (simp; (repeat' split) <;> simp_all)

@[simp] theorem State.bayCmd_kept (s : State) (k cmd arg : Nat) (clean : Bool) :
    (State.bayCmd s k cmd arg clean).2.mem = s.mem ∧ (State.bayCmd s k cmd arg clean).2.pending = s.pending := by
  unfold State.bayCmd; constructor <;> ((repeat' split) <;> simp)

@[simp] theorem State.resetBays_kept (s : State) :
    (State.resetBays s).mem = s.mem ∧ (State.resetBays s).pending = s.pending := ⟨rfl, rfl⟩

@[simp] theorem State.linkDownByFault_kept (s : State) (p : Nat) :
    (State.linkDownByFault s p).mem = s.mem ∧ (State.linkDownByFault s p).pending = s.pending := by
  simp [State.linkDownByFault]

@[simp] theorem State.portDownByFault_kept (s : State) (p : Nat) :
    (State.portDownByFault s p).mem = s.mem ∧ (State.portDownByFault s p).pending = s.pending := by
  unfold State.portDownByFault; constructor <;> (simp; (repeat' split) <;> simp_all)

@[simp] theorem State.fire_kept (s : State) (n : Nat) :
    (State.fire s n).mem = s.mem ∧ (State.fire s n).pending = s.pending := by
  unfold State.fire; constructor <;> ((repeat' split) <;> simp)

@[simp] theorem State.openWindow_kept (s : State) (n : Nat) :
    (State.openWindow s n).mem = s.mem ∧ (State.openWindow s n).pending = s.pending := by
  simp [State.openWindow]

@[simp] theorem State.closeWindow_kept (s : State) (n : Nat) :
    (State.closeWindow s n).mem = s.mem ∧ (State.closeWindow s n).pending = s.pending := ⟨rfl, rfl⟩

@[simp] theorem State.classify_kept (s : State) (n : Nat) :
    (State.classify s n).mem = s.mem ∧ (State.classify s n).pending = s.pending := by
  simp [State.classify]

@[simp] theorem State.takeReport_kept (s : State) (n : Nat) (tie : Bool) :
    (State.takeReport s n tie).mem = s.mem ∧ (State.takeReport s n tie).pending = s.pending := by
  simp [State.takeReport]

@[simp] theorem writeSrcStatus_kept (s : State) (n : Nat) (v : Word) :
    (writeSrcStatus s n v).mem = s.mem ∧ (writeSrcStatus s n v).pending = s.pending := by
  simp [writeSrcStatus]

@[simp] theorem writeSrcCfg_kept (s : State) (n : Nat) (v : Word) :
    (writeSrcCfg s n v).mem = s.mem ∧ (writeSrcCfg s n v).pending = s.pending := by
  simp [writeSrcCfg]

@[simp] theorem State.safeCause_kept (s : State) (cause addr : Nat) :
    (State.safeCause s cause addr).mem = s.mem ∧ (State.safeCause s cause addr).pending = s.pending := by
  simp [State.safeCause]

@[simp] theorem writeFltCtl_kept (s : State) (v : Word) :
    (writeFltCtl s v).mem = s.mem ∧ (writeFltCtl s v).pending = s.pending := by
  simp [writeFltCtl]

@[simp] theorem writeSafeVec_kept (s : State) (v : Word) :
    (writeSafeVec s v).mem = s.mem ∧ (writeSafeVec s v).pending = s.pending := by
  simp [writeSafeVec]

@[simp] theorem State.abandonWait_kept (s : State) (n : Nat) :
    (State.abandonWait s n).mem = s.mem ∧ (State.abandonWait s n).pending = s.pending := by
  simp [State.abandonWait]

@[simp] theorem State.safeHalt_kept (s : State) (n : Nat) :
    (State.safeHalt s n).mem = s.mem ∧ (State.safeHalt s n).pending = s.pending := by
  simp [State.safeHalt]

@[simp] theorem State.popFault_kept (s : State) :
    (State.popFault s).2.mem = s.mem ∧ (State.popFault s).2.pending = s.pending := by
  unfold State.popFault; constructor <;> ((repeat' split) <;> simp)

@[simp] theorem State.popSafe_kept (s : State) :
    (State.popSafe s).2.mem = s.mem ∧ (State.popSafe s).2.pending = s.pending := by
  unfold State.popSafe; constructor <;> ((repeat' split) <;> simp)

@[simp] theorem writeSel_kept (s : State) (k : RKey) (v : Word) :
    (writeSel s k v).mem = s.mem ∧ (writeSel s k v).pending = s.pending := by
  simp [writeSel]

@[simp] theorem State.pmcClear_kept (s : State) (k : AccKey) :
    (State.pmcClear s k).mem = s.mem ∧ (State.pmcClear s k).pending = s.pending := ⟨rfl, rfl⟩

@[simp] theorem State.pmcClearAll_kept (s : State) :
    (State.pmcClearAll s).mem = s.mem ∧ (State.pmcClearAll s).pending = s.pending := ⟨rfl, rfl⟩

@[simp] theorem writePmcCtl_kept (s : State) (v : Word) :
    (writePmcCtl s v).mem = s.mem ∧ (writePmcCtl s v).pending = s.pending := by
  simp [writePmcCtl]

@[simp] theorem State.pmcAdd_kept (s : State) (k : AccKey) (gen n : Nat) :
    (State.pmcAdd s k gen n).mem = s.mem ∧ (State.pmcAdd s k gen n).pending = s.pending := by
  simp [State.pmcAdd]

@[simp] theorem State.countCycles_kept (s : State) (island : Nat) (o : CycleObs) :
    (State.countCycles s island o).mem = s.mem ∧ (State.countCycles s island o).pending = s.pending := by
  simp [State.countCycles]

@[simp] theorem State.pmcSend_kept (s : State) (k : AccKey) (stale : Bool) :
    (State.pmcSend s k stale).mem = s.mem ∧ (State.pmcSend s k stale).pending = s.pending := by
  simp [State.pmcSend]

@[simp] theorem State.nocError_kept (s : State) (cause src dst die router : Nat) :
    (State.nocError s cause src dst die router).mem = s.mem ∧ (State.nocError s cause src dst die router).pending = s.pending := by
  simp [State.nocError]

@[simp] theorem State.nocInject_kept (s : State) (n bytes : Nat) :
    (State.nocInject s n bytes).mem = s.mem ∧ (State.nocInject s n bytes).pending = s.pending := by
  simp [State.nocInject]

@[simp] theorem State.nocTrip_kept (s : State) (n : Nat) :
    (State.nocTrip s n).mem = s.mem ∧ (State.nocTrip s n).pending = s.pending := by
  simp [State.nocTrip]

@[simp] theorem State.nocNoEntry_kept (s : State) (n target : Nat) :
    (State.nocNoEntry s n target).mem = s.mem ∧ (State.nocNoEntry s n target).pending = s.pending := by
  simp [State.nocNoEntry]

@[simp] theorem State.nocTimedOut_kept (s : State) (n target : Nat) :
    (State.nocTimedOut s n target).mem = s.mem ∧ (State.nocTimedOut s n target).pending = s.pending := by
  simp [State.nocTimedOut]

@[simp] theorem State.nocTry_kept (s : State) (who : Requester) (a : Nat) (wide write : Bool) (o : NocObs) :
    (State.nocTry s who a wide write o).2.mem = s.mem ∧ (State.nocTry s who a wide write o).2.pending = s.pending := by
  unfold State.nocTry; constructor <;> (simp; (repeat' split) <;> simp_all)

@[simp] theorem State.nocWait_kept (s : State) (who : Requester) (a : Nat) (wide write : Bool) (late : Bool) :
    (State.nocWait s who a wide write late).mem = s.mem ∧ (State.nocWait s who a wide write late).pending = s.pending := ⟨rfl, rfl⟩

@[simp] theorem State.nocLate_kept (s : State) (n : Nat) :
    (State.nocLate s n).mem = s.mem ∧ (State.nocLate s n).pending = s.pending := ⟨rfl, rfl⟩

@[simp] theorem State.setRailIn_kept (s : State) (n : Nat) (l : List Alert) :
    (State.setRailIn s n l).mem = s.mem ∧ (State.setRailIn s n l).pending = s.pending := ⟨rfl, rfl⟩

@[simp] theorem State.handAlert_kept (s : State) (n : Nat) (a : Alert) :
    (State.handAlert s n a).mem = s.mem ∧ (State.handAlert s n a).pending = s.pending := by
  unfold State.handAlert; constructor <;> ((repeat' split) <;> simp)

@[simp] theorem State.stopBegins_kept (s : State) (fid : Nat) :
    (State.stopBegins s fid).mem = s.mem ∧ (State.stopBegins s fid).pending = s.pending := by
  simp [State.stopBegins]

@[simp] theorem State.stopf_kept (s : State) (seat rd v : Nat) :
    (State.stopf s seat rd v).2.mem = s.mem ∧ (State.stopf s seat rd v).2.pending = s.pending := by
  unfold State.stopf; constructor <;> (simp; (repeat' split) <;> simp_all)

@[simp] theorem State.stopped_kept (s : State) (fid : Nat) :
    (State.stopped s fid).mem = s.mem ∧ (State.stopped s fid).pending = s.pending := by
  unfold State.stopped; constructor <;> ((repeat' split) <;> simp)

@[simp] theorem State.portGo_kept (s : State) (p : Nat) :
    (State.portGo s p).mem = s.mem ∧ (State.portGo s p).pending = s.pending := by
  simp [State.portGo]

@[simp] theorem State.restart_kept (s : State) (fid : Nat) :
    (State.restart s fid).mem = s.mem ∧ (State.restart s fid).pending = s.pending := by
  simp [State.restart]

@[simp] theorem State.crewGo_kept (s : State) (c : Nat) :
    (State.crewGo s c).mem = s.mem ∧ (State.crewGo s c).pending = s.pending := by
  simp [State.crewGo]

theorem State.placeAll_kept {s t : State} {l : List Nat} (h : s.placeAll l = .ok t) :
    t.mem = s.mem ∧ t.pending = s.pending := by
  induction l generalizing s with
  | nil => unfold State.placeAll at h; cases h; simp
  | cons n ns ih =>
    unfold State.placeAll at h
    simp only [] at h
    split at h
    · cases h
    · simpa using ih h

@[simp] theorem State.copyPlaces_kept (s : State) (ns : List Nat) :
    (State.copyPlaces s ns).mem = s.mem ∧ (State.copyPlaces s ns).pending = s.pending := by
  simp [State.copyPlaces]

@[simp] theorem State.groupStart_kept (s : State) (g : Nat) :
    (State.groupStart s g).2.mem = s.mem ∧ (State.groupStart s g).2.pending = s.pending := by
  unfold State.groupStart
  simp only []
  split
  · simp
  · rename_i h
    have h := State.placeAll_kept h
    simp at h
    simp [h]

@[simp] theorem State.sliceGo_kept (s : State) (d : Nat) :
    (State.sliceGo s d).mem = s.mem ∧ (State.sliceGo s d).pending = s.pending := by
  simp [State.sliceGo]

@[simp] theorem State.shaperGo_kept (s : State) (p : Nat) :
    (State.shaperGo s p).mem = s.mem ∧ (State.shaperGo s p).pending = s.pending := by
  simp [State.shaperGo]

@[simp] theorem State.startChecked_kept (s : State) (v : Nat) :
    (State.startChecked s v).2.mem = s.mem ∧ (State.startChecked s v).2.pending = s.pending := by
  unfold State.startChecked; constructor <;> (simp; (repeat' split) <;> simp_all)

@[simp] theorem State.startf_kept (s : State) (seat v : Nat) (tie : Bool) :
    (State.startf s seat v tie).2.mem = s.mem ∧ (State.startf s seat v tie).2.pending = s.pending := by
  unfold State.startf; constructor <;> (simp; (repeat' split) <;> simp_all)

@[simp] theorem State.setInstr_kept (s : State) (k : Nat) (v : Word) :
    (State.setInstr s k v).mem = s.mem ∧ (State.setInstr s k v).pending = s.pending := ⟨rfl, rfl⟩

@[simp] theorem State.setKeySlot_kept (s : State) (k : Nat) (v : KeySlot) :
    (State.setKeySlot s k v).mem = s.mem ∧ (State.setKeySlot s k v).pending = s.pending := ⟨rfl, rfl⟩

@[simp] theorem State.putCode_kept (s : State) (l : LoadSt) (zero : Bool) :
    (State.putCode s l zero).mem = s.mem ∧ (State.putCode s l zero).pending = s.pending := by
  simp [State.putCode]

@[simp] theorem State.finishLoad_kept (s : State) (l : LoadSt) (ue : Bool) :
    (State.finishLoad s l ue).2.mem = s.mem ∧ (State.finishLoad s l ue).2.pending = s.pending := by
  unfold State.finishLoad; constructor <;> (simp; (repeat' split) <;> simp_all)

@[simp] theorem writeLoadCtl_kept (s : State) (v : Word) :
    (writeLoadCtl s v).mem = s.mem ∧ (writeLoadCtl s v).pending = s.pending := by
  simp [writeLoadCtl]

@[simp] theorem writeFusePgm_kept (s : State) (v : Word) :
    (writeFusePgm s v).mem = s.mem ∧ (writeFusePgm s v).pending = s.pending := by
  simp [writeFusePgm]

@[simp] theorem State.burnt_kept (s : State) (op slot hash : Nat) :
    (State.burnt s op slot hash).mem = s.mem ∧ (State.burnt s op slot hash).pending = s.pending := by
  unfold State.burnt; constructor <;> ((repeat' split) <;> simp)

@[simp] theorem State.rowBad_kept (s : State) (op slot : Nat) :
    (State.rowBad s op slot).mem = s.mem ∧ (State.rowBad s op slot).pending = s.pending := by
  unfold State.rowBad; constructor <;> ((repeat' split) <;> simp)

@[simp] theorem State.burnDone_kept (s : State) (verified bad : Bool) :
    (State.burnDone s verified bad).mem = s.mem ∧ (State.burnDone s verified bad).pending = s.pending := by
  unfold State.burnDone; constructor <;> ((repeat' split) <;> simp)

@[simp] theorem writeLifecycle_kept (s : State) (v : Word) (verified : Bool) :
    (writeLifecycle s v verified).mem = s.mem ∧ (writeLifecycle s v verified).pending = s.pending := by
  simp [writeLifecycle]

@[simp] theorem State.debugReset_kept (s : State) :
    (State.debugReset s).mem = s.mem ∧ (State.debugReset s).pending = s.pending := ⟨rfl, rfl⟩

@[simp] theorem State.loadFuses_kept (s : State) :
    (State.loadFuses s).mem = s.mem ∧ (State.loadFuses s).pending = s.pending := by
  simp [State.loadFuses]

@[simp] theorem State.showRepairs_kept (s : State) :
    (State.showRepairs s).mem = s.mem ∧ (State.showRepairs s).pending = s.pending := by
  simp [State.showRepairs]

@[simp] theorem State.fuseFail_kept (s : State) (cause row : Nat) :
    (State.fuseFail s cause row).mem = s.mem ∧ (State.fuseFail s cause row).pending = s.pending := ⟨rfl, rfl⟩

@[simp] theorem State.pcieDown_kept (s : State) (f : Nat → Bool) :
    (State.pcieDown s f).mem = s.mem ∧ (State.pcieDown s f).pending = s.pending := by
  simp [State.pcieDown]

@[simp] theorem writeThermSts_kept (s : State) (v : Word) :
    (writeThermSts s v).mem = s.mem ∧ (writeThermSts s v).pending = s.pending := by
  simp [writeThermSts]

@[simp] theorem State.enterFirmware_kept (s : State) (source entry : Nat) :
    (State.enterFirmware s source entry).mem = s.mem ∧ (State.enterFirmware s source entry).pending = s.pending := ⟨rfl, rfl⟩

@[simp] theorem State.bootHost_kept (s : State) :
    (State.bootHost s).mem = s.mem ∧ (State.bootHost s).pending = s.pending := by
  simp [State.bootHost]

@[simp] theorem State.bootHalt_kept (s : State) :
    (State.bootHalt s).mem = s.mem ∧ (State.bootHalt s).pending = s.pending := ⟨rfl, rfl⟩

@[simp] theorem State.readReg_kept (s : State) (k : RKey) :
    (State.readReg s k).2.mem = s.mem ∧ (State.readReg s k).2.pending = s.pending := by
  unfold State.readReg; constructor <;> (simp; (repeat' split) <;> simp_all)

@[simp] theorem State.dropLatch_kept (s : State) (who : Requester) (addr : Nat) (low : Bool) :
    (State.dropLatch s who addr low).mem = s.mem ∧ (State.dropLatch s who addr low).pending = s.pending := ⟨rfl, rfl⟩

@[simp] theorem State.setLatch_kept (s : State) (who : Requester) (addr : Nat) (low : Bool) (v : Word) :
    (State.setLatch s who addr low v).mem = s.mem ∧ (State.setLatch s who addr low v).pending = s.pending := ⟨rfl, rfl⟩

@[simp] theorem State.readPop_kept (s : State) (who : Requester) (k : RKey) :
    (State.readPop s who k).2.mem = s.mem ∧ (State.readPop s who k).2.pending = s.pending := by
  unfold State.readPop; constructor <;> ((repeat' split) <;> simp)

@[simp] theorem State.read32_kept (s : State) (who : Requester) (a : Nat) :
    (State.read32 s who a).2.mem = s.mem ∧ (State.read32 s who a).2.pending = s.pending := by
  unfold State.read32; constructor <;> (simp; (repeat' split) <;> simp_all)

@[simp] theorem State.read64_kept (s : State) (who : Requester) (a : Nat) :
    (State.read64 s who a).2.mem = s.mem ∧ (State.read64 s who a).2.pending = s.pending := by
  unfold State.read64; constructor <;> (simp; (repeat' split) <;> simp_all)

@[simp] theorem State.readSpace_kept (s : State) (who : Requester) (a : Nat) (wide : Bool) (o : SpadObs) :
    (State.readSpace s who a wide o).2.1.mem = s.mem ∧ (State.readSpace s who a wide o).2.1.pending = s.pending := by
  unfold State.readSpace; constructor <;> (simp; (repeat' split) <;> simp_all)

@[simp] theorem State.beginRead_kept (s : State) (n a : Nat) (wide : Bool) (o : SpadObs) (r : NocObs) :
    (State.beginRead s n a wide o r).2.mem = s.mem ∧ (State.beginRead s n a wide o r).2.pending = s.pending := by
  unfold State.beginRead; constructor <;> (simp; (repeat' split) <;> simp_all)

@[simp] theorem State.beginEpoch_kept (s : State) (n rd p : Nat) :
    (State.beginEpoch s n rd p).2.mem = s.mem ∧ (State.beginEpoch s n rd p).2.pending = s.pending := by
  unfold State.beginEpoch; constructor <;> ((repeat' split) <;> simp)

@[simp] theorem State.beginFence_kept (s : State) (c : Nat) :
    (State.beginFence s c).2.mem = s.mem ∧ (State.beginFence s c).2.pending = s.pending := by
  unfold State.beginFence; constructor <;> (simp; (repeat' split) <;> simp_all)

@[simp] theorem State.beginScan_kept (s : State) (n rd : Nat) (flush : Bool) (c : Nat) (skein : Option Nat) :
    (State.beginScan s n rd flush c skein).2.mem = s.mem ∧ (State.beginScan s n rd flush c skein).2.pending = s.pending := by
  unfold State.beginScan; constructor <;> (simp; (repeat' split) <;> simp_all)

@[simp] theorem State.beginHeat_kept (s : State) (n p mask : Nat) (abort : Bool) :
    (State.beginHeat s n p mask abort).2.mem = s.mem ∧ (State.beginHeat s n p mask abort).2.pending = s.pending := by
  unfold State.beginHeat; constructor <;> (simp; (repeat' split) <;> simp_all)

@[simp] theorem State.beginOp_kept (s : State) (n rd : Nat) (op : FOp) :
    (State.beginOp s n rd op).2.mem = s.mem ∧ (State.beginOp s n rd op).2.pending = s.pending := by
  unfold State.beginOp; constructor <;> (simp; (repeat' split) <;> simp_all)

@[simp] theorem State.runOp_kept (s : State) (n rd : Nat) (op : FOp) :
    (State.runOp s n rd op).mem = s.mem ∧ (State.runOp s n rd op).pending = s.pending := by
  unfold State.runOp; constructor <;> (simp; (repeat' split) <;> simp_all)

@[simp] theorem State.startOp_kept (s : State) (n rd : Nat) (op : FOp) :
    (State.startOp s n rd op).mem = s.mem ∧ (State.startOp s n rd op).pending = s.pending := by
  simp [State.startOp]

@[simp] theorem State.unblock_kept (s : State) (n : Nat) :
    (State.unblock s n).mem = s.mem ∧ (State.unblock s n).pending = s.pending := by
  unfold State.unblock; constructor <;> ((repeat' split) <;> simp)

@[simp] theorem State.injectWrite_kept (s : State) (n a : Nat) (wide : Bool) (v : Word) (o : NocObs) :
    (State.injectWrite s n a wide v o).mem = s.mem ∧ (State.injectWrite s n a wide v o).pending = s.pending := by
  unfold State.injectWrite; constructor <;> (simp; (repeat' split) <;> simp_all)

@[simp] theorem State.releaseWrites_kept (s : State) (n : Nat) :
    (State.releaseWrites s n).mem = s.mem ∧ (State.releaseWrites s n).pending = s.pending := by
  simp [State.releaseWrites]

@[simp] theorem State.releaseNi_kept (s : State) :
    (State.releaseNi s).mem = s.mem ∧ (State.releaseNi s).pending = s.pending := by
  simp [State.releaseNi]

@[simp] theorem State.plainWrite_kept (s : State) (k : RKey) (v : Word) :
    (State.plainWrite s k v).mem = s.mem ∧ (State.plainWrite s k v).pending = s.pending := by
  simp [State.plainWrite]

@[simp] theorem writeFifoStatus_kept (s : State) (k : RKey) (v : Word) :
    (writeFifoStatus s k v).mem = s.mem ∧ (writeFifoStatus s k v).pending = s.pending := by
  simp [writeFifoStatus]

@[simp] theorem writePortCtl_kept (s : State) (p : Nat) (v : Word) :
    (writePortCtl s p v).mem = s.mem ∧ (writePortCtl s p v).pending = s.pending := by
  simp [writePortCtl]

@[simp] theorem writePortSetting_kept (s : State) (k : RKey) (v : Word) :
    (writePortSetting s k v).mem = s.mem ∧ (writePortSetting s k v).pending = s.pending := by
  simp [writePortSetting]

@[simp] theorem writeRext_kept (s : State) (k : RKey) (v : Word) :
    (writeRext s k v).mem = s.mem ∧ (writeRext s k v).pending = s.pending := by
  simp [writeRext]

@[simp] theorem writeCoreCtl_kept (s : State) (v : Word) :
    (writeCoreCtl s v).mem = s.mem ∧ (writeCoreCtl s v).pending = s.pending := by
  simp [writeCoreCtl]

@[simp] theorem writeFabId_kept (s : State) (v : Word) :
    (writeFabId s v).mem = s.mem ∧ (writeFabId s v).pending = s.pending := by
  simp [writeFabId]

@[simp] theorem writeFeidMap_kept (s : State) (f : Nat) (v : Word) :
    (writeFeidMap s f v).mem = s.mem ∧ (writeFeidMap s f v).pending = s.pending := by
  simp [writeFeidMap]

@[simp] theorem writeRcred_kept (s : State) (k : RKey) (v : Word) :
    (writeRcred s k v).mem = s.mem ∧ (writeRcred s k v).pending = s.pending := by
  simp [writeRcred]

@[simp] theorem writeIcfCtl_kept (s : State) (v : Word) :
    (writeIcfCtl s v).mem = s.mem ∧ (writeIcfCtl s v).pending = s.pending := by
  simp [writeIcfCtl]

@[simp] theorem writeSeatCtl_kept (s : State) (n : Nat) (v : Word) :
    (writeSeatCtl s n v).mem = s.mem ∧ (writeSeatCtl s n v).pending = s.pending := by
  simp [writeSeatCtl]

@[simp] theorem State.seatStart_kept (s : State) (n pc : Nat) :
    (State.seatStart s n pc).mem = s.mem ∧ (State.seatStart s n pc).pending = s.pending := by
  simp [State.seatStart]

@[simp] theorem State.seatStop_kept (s : State) (n : Nat) :
    (State.seatStop s n).mem = s.mem ∧ (State.seatStop s n).pending = s.pending := by
  simp [State.seatStop]

@[simp] theorem writeSeatCmd_kept (s : State) (who : Requester) (n : Nat) (v : Word) :
    (writeSeatCmd s who n v).mem = s.mem ∧ (writeSeatCmd s who n v).pending = s.pending := by
  unfold writeSeatCmd; constructor <;> ((repeat' split) <;> simp)

@[simp] theorem writeGrant_kept (s : State) (k : RKey) (v : Word) :
    (writeGrant s k v).mem = s.mem ∧ (writeGrant s k v).pending = s.pending := by
  simp [writeGrant]

@[simp] theorem writeLoad_kept (s : State) (v : Word) :
    (writeLoad s v).mem = s.mem ∧ (writeLoad s v).pending = s.pending := by
  simp [writeLoad]

@[simp] theorem clearPattern_kept (s : State) (n : Nat) :
    (clearPattern s n).mem = s.mem ∧ (clearPattern s n).pending = s.pending := ⟨rfl, rfl⟩

@[simp] theorem clearDowns_kept (s : State) (b : Nat) :
    (clearDowns s b).mem = s.mem ∧ (clearDowns s b).pending = s.pending := ⟨rfl, rfl⟩

@[simp] theorem writeRoute_kept (s : State) (k : RKey) (v : Word) :
    (writeRoute s k v).mem = s.mem ∧ (writeRoute s k v).pending = s.pending := by
  simp [writeRoute]

@[simp] theorem State.dropPosted_kept (s : State) (n a : Nat) (wide : Bool) (v : Word) :
    (State.dropPosted s n a wide v).mem = s.mem ∧ (State.dropPosted s n a wide v).pending = s.pending := by
  unfold State.dropPosted; constructor <;> ((repeat' split) <;> simp)

@[simp] theorem State.passOver_kept (s : State) (n dt : Nat) :
    (State.passOver s n dt).mem = s.mem ∧ (State.passOver s n dt).pending = s.pending := by
  simp [State.passOver]

@[simp] theorem State.trapAt_kept (s : State) (n cause pc : Nat) :
    (State.trapAt s n cause pc).mem = s.mem ∧ (State.trapAt s n cause pc).pending = s.pending := by
  simp [State.trapAt]

@[simp] theorem State.atDispatch_kept (s : State) (d : Disp) :
    (State.atDispatch s d).mem = s.mem ∧ (State.atDispatch s d).pending = s.pending := by
  simp [State.atDispatch]

@[simp] theorem State.cost_kept (s : State) (n c : Nat) :
    (State.cost s n c).mem = s.mem ∧ (State.cost s n c).pending = s.pending := ⟨rfl, rfl⟩

@[simp] theorem State.advancePc_kept (s : State) (n : Nat) :
    (State.advancePc s n).mem = s.mem ∧ (State.advancePc s n).pending = s.pending := ⟨rfl, rfl⟩

@[simp] theorem State.giveRecord_kept (s : State) (n : Nat) (w : Word) (nm : Bool) :
    (State.giveRecord s n w nm).mem = s.mem ∧ (State.giveRecord s n w nm).pending = s.pending := by
  simp [State.giveRecord]

@[simp] theorem State.markUe_kept (s : State) (n : Nat) (ue : Bool) :
    (State.markUe s n ue).mem = s.mem ∧ (State.markUe s n ue).pending = s.pending := by
  simp [State.markUe]

@[simp] theorem State.pumpReads_kept (s : State) (e : Nat) (d : Desc) (x0 : Nat) :
    (State.pumpReads s e d x0).mem = s.mem ∧ (State.pumpReads s e d x0).pending = s.pending := by
  induction x0 generalizing s with
  | zero => simp [State.pumpReads]
  | succ n ih => unfold State.pumpReads; simp only []; split <;> simp [ih]

@[simp] theorem State.dmaReadWords_kept (s : State) (e a : Nat) (b : DmaObs) (x0 : Nat) :
    (State.dmaReadWords s e a b x0).2.1.mem = s.mem ∧ (State.dmaReadWords s e a b x0).2.1.pending = s.pending := by
  induction x0 generalizing s a with
  | zero => simp [State.dmaReadWords]
  | succ n ih =>
    unfold State.dmaReadWords
    constructor <;> (simp only []; (repeat' split) <;> simp_all)

@[simp] theorem State.dmaFetch_kept (s : State) (e : Nat) (d : Desc) (o n : Nat) (b : DmaObs) :
    (State.dmaFetch s e d o n b).2.1.mem = s.mem ∧ (State.dmaFetch s e d o n b).2.1.pending = s.pending := by
  unfold State.dmaFetch; constructor <;> (simp; (repeat' split) <;> simp_all)

@[simp] theorem State.dmaGather_kept (s : State) (e : Nat) (d : Desc) (b : DmaObs) (x0 : Nat) (x1 : Nat) (x2 : Nat) :
    (State.dmaGather s e d b x0 x1 x2).2.1.mem = s.mem ∧ (State.dmaGather s e d b x0 x1 x2).2.1.pending = s.pending := by
  induction x0 generalizing s x1 x2 with
  | zero => simp [State.dmaGather]
  | succ n ih =>
    unfold State.dmaGather
    constructor <;> (simp only []; (repeat' split) <;> simp_all)

@[simp] theorem State.dmaPause_kept (s : State) (e p : Nat) :
    (State.dmaPause s e p).mem = s.mem ∧ (State.dmaPause s e p).pending = s.pending := by
  simp [State.dmaPause]

@[simp] theorem State.dmaBegin_kept (s : State) (e : Nat) (d : Desc) :
    (State.dmaBegin s e d).mem = s.mem ∧ (State.dmaBegin s e d).pending = s.pending := by
  simp [State.dmaBegin]

@[simp] theorem State.dmaLate_kept (s : State) (e : Nat) (d : Desc) :
    (State.dmaLate s e d).mem = s.mem ∧ (State.dmaLate s e d).pending = s.pending := ⟨rfl, rfl⟩

@[simp] theorem State.dmaStart_kept (s : State) (n e : Nat) (d : Desc) (ok : Bool) :
    (State.dmaStart s n e d ok).2.mem = s.mem ∧ (State.dmaStart s n e d ok).2.pending = s.pending := by
  unfold State.dmaStart; constructor <;> ((repeat' split) <;> simp)

@[simp] theorem State.barAnswer_kept (s : State) (p : Nat) (r : BarReq) (a : BarAnswer) :
    (State.barAnswer s p r a).mem = s.mem ∧ (State.barAnswer s p r a).pending = s.pending := by
  simp [State.barAnswer]

@[simp] theorem State.barError_kept (s : State) (p : Nat) (r : BarReq) (b : Nat) :
    (State.barError s p r b).mem = s.mem ∧ (State.barError s p r b).pending = s.pending := by
  simp [State.barError]

@[simp] theorem State.barAbort_kept (s : State) (p : Nat) (r : BarReq) :
    (State.barAbort s p r).mem = s.mem ∧ (State.barAbort s p r).pending = s.pending := by
  simp [State.barAbort]

@[simp] theorem State.pageWrite_kept (s : State) (slice : Option Nat) (off : Nat) (bs : List Byte) :
    (State.pageWrite s slice off bs).mem = s.mem ∧ (State.pageWrite s slice off bs).pending = s.pending := by
  unfold State.pageWrite; constructor <;> ((repeat' split) <;> simp)

@[simp] theorem State.msixWrite_kept (s : State) (p off v : Nat) :
    (State.msixWrite s p off v).mem = s.mem ∧ (State.msixWrite s p off v).pending = s.pending := by
  simp [State.msixWrite]

@[simp] theorem State.bar2Run_kept (s : State) (p : Nat) (r : BarReq) :
    (State.bar2Run s p r).mem = s.mem ∧ (State.bar2Run s p r).pending = s.pending := by
  unfold State.bar2Run; constructor <;> ((repeat' split) <;> simp)

@[simp] theorem State.dropLost_kept (s : State) (n a : Nat) :
    (State.dropLost s n a).mem = s.mem ∧ (State.dropLost s n a).pending = s.pending := by
  unfold State.dropLost; constructor <;> ((repeat' split) <;> simp)

@[simp] theorem State.nocExpire_kept (s : State) (q : NocReq) :
    (State.nocExpire s q).mem = s.mem ∧ (State.nocExpire s q).pending = s.pending := by
  unfold State.nocExpire; constructor <;> ((repeat' split) <;> simp)

@[simp] theorem popRead_kept (k : RKey) (n rd : Nat) (s : State) :
    (popRead k n rd s).mem = s.mem ∧ (popRead k n rd s).pending = s.pending := by
  simp [popRead]

end Sys2Proof.Machine
end

