-- ==== Sys2Proof/Laws/Dispatched.lean ====
section
/-! SUPPORT. What holds over a dispatch, over the accesses of instructions, and over a wait, for a property of the scratchpad and
the queue of commands alone. -/

namespace Sys2Proof.Machine

/-- A property that depends on the scratchpad's bytes and the queue of commands alone. -/
def Calm (P : State → Prop) : Prop := ∀ s t : State, t.mem = s.mem → t.pending = s.pending → P s → P t

/-- Where an instruction's own part keeps the property, its dispatch does. -/
theorem dispatch_keeps {P : State → Prop} (hc : Calm P) (d : Disp) (c : Nat) (ok : Bool) (run : State → Ran)
    (h : ∀ s, P s → match run s with
      | .done t => P t
      | .trap _ t => P t) (s : State) (hs : P s) : P (s.dispatch d c ok run) := by
  unfold State.dispatch
  simp only []
  have h0 : P ((s.atDispatch d).cost d.seat.val c) := hc s _ (by simp) (by simp) hs
  split
  · exact hs
  split
  · exact hc _ _ (by simp) (by simp) h0
  split
  · exact hc _ _ (by simp) (by simp) h0
  split
  · exact hc _ _ (by simp) (by simp) h0
  have h2 := h _ h0
  revert h2
  cases run ((s.atDispatch d).cost d.seat.val c) with
  | done t => exact fun h2 => h2
  | trap k t => exact fun h2 => hc _ _ (by simp) (by simp) h2

/-- The fetch of an instruction keeps what its meaning keeps. -/
theorem fetching_keeps {P : State → Prop} (hc : Calm P) (d : Disp) (f : Format) (op : Nat) {run : State → State}
    (h : ∀ s, P s → P (run s)) (s : State) (hs : P s) : P (fetching d f op run s) := by
  unfold fetching
  split
  · exact dispatch_keeps hc d 1 false _ (fun t ht => ht) s hs
  split
  · exact h s hs
  · exact hs

theorem compute_keeps {P : State → Prop} (hc : Calm P) (d : Disp) (c : Nat) (ok : Bool) (f : State → Word) (s : State)
    (hs : P s) : P (s.compute d c ok f) :=
  dispatch_keeps hc d c ok _ (fun t ht => hc t _ (by simp) (by simp) ht) s hs

theorem spadAccess_keeps {P : State → Prop} (hc : Calm P) (d : Disp) (c n align : Nat) (acc : Acc) (ok : Bool)
    (run : State → Nat → State) (h : ∀ s a, P s → P (run s a)) (s : State) (hs : P s) :
    P (spadAccess d c n align acc ok run s) := by
  unfold spadAccess
  simp only []
  split
  · exact hs
  · refine dispatch_keeps hc d c ok _ (fun t ht => ?_) s hs
    have key : ∀ u : State, u.mem = t.mem → u.pending = t.pending → P u := fun u h1 h2 => hc t u h1 h2 ht
    split
    · rename_i u hu
      split at hu
      · cases hu
      · split at hu
        · cases hu
        · cases hu
          refine hc (run _ _) _ (State.advancePc_kept _ _).1 (State.advancePc_kept _ _).2 (h _ _ (key _ (by simp) (by simp)))
    · rename_i u hu
      split at hu
      · cases hu; exact ht
      · split at hu
        · cases hu; exact key _ (by simp) (by simp)
        · cases hu

theorem mgmtAccess_keeps {P : State → Prop} (hc : Calm P) (d : Disp) (c : Nat) (wide : Bool) (acc : Acc) (ok : Bool)
    (run : State → Nat → State) (h : ∀ s a, P s → P (run s a)) (s : State) (hs : P s) :
    P (mgmtAccess d c wide acc ok run s) := by
  unfold mgmtAccess
  generalize (if wide = true then 8 else 4) = n
  simp only []
  split
  · exact hs
  · refine dispatch_keeps hc d c ok _ (fun t ht => ?_) s hs
    split
    · rename_i u hu
      split at hu
      · cases hu
      · split at hu
        · cases hu
        · cases hu; exact h _ _ ht
    · rename_i u hu
      split at hu
      · cases hu; exact ht
      · split at hu
        · cases hu; exact hc t _ (by simp) (by simp) ht
        · cases hu

theorem waitInstr_keeps {P : State → Prop} (hc : Calm P) (d : Disp) (ok priv : Bool) (op : State → Option FOp) (s : State)
    (hs : P s) : P (waitInstr d ok priv op s) := by
  unfold waitInstr
  refine dispatch_keeps hc d 1 ok _ (fun t ht => ?_) s hs
  split
  · rename_i u hu
    split at hu
    · cases hu
    · split at hu
      · cases hu
      · cases hu; exact hc t _ (by simp) (by simp) ht
  · rename_i u hu
    split at hu
    · cases hu; exact ht
    · split at hu
      · cases hu; exact ht
      · cases hu

theorem divide_keeps {P : State → Prop} (hc : Calm P) (d : Disp) (f : Word → Word → Word) (s : State) (hs : P s) :
    P (divide d f s) := by
  unfold divide
  refine dispatch_keeps hc d 34 _ _ (fun t ht => ?_) s hs
  simp only []
  split
  · exact hc t _ (by simp) (by simp) ht
  · exact hc t _ (by simp) (by simp) ht

theorem condBranch_keeps {P : State → Prop} (hc : Calm P) (d : Disp) (ok : Bool) (taken : State → Bool) (s : State)
    (hs : P s) : P (condBranch d ok taken s) := by
  unfold condBranch
  refine dispatch_keeps hc d 1 _ _ (fun t ht => ?_) s hs
  split
  · rename_i u hu
    split at hu <;> (cases hu; exact hc t _ (by simp) (by simp) ht)
  · rename_i u hu
    split at hu <;> cases hu

theorem loadOp_keeps {P : State → Prop} (hc : Calm P) (d : Disp) (n : Nat) (s : State) (hs : P s) : P (loadOp d n s) := by
  unfold loadOp
  exact spadAccess_keeps hc d 3 n 1 .read _ _ (fun t _ ht => hc t _ (by simp) (by simp) ht) s hs

theorem frdOp_keeps {P : State → Prop} (hc : Calm P) (d : Disp) (wide : Bool) (s : State) (hs : P s) : P (frdOp d wide s) := by
  unfold frdOp
  exact mgmtAccess_keeps hc d 1 wide .read _ _ (fun t _ ht => hc t _ (by simp) (by simp) ht) s hs

theorem fwrOp_keeps {P : State → Prop} (hc : Calm P) (d : Disp) (wide : Bool) (s : State) (hs : P s) : P (fwrOp d wide s) := by
  unfold fwrOp
  refine mgmtAccess_keeps hc d 2 wide .write _ _ (fun t a ht => ?_) s hs
  simp only []
  split <;> exact hc t _ (by simp) (by simp) ht

/-! Messages taken from a queue -/

theorem State.takeInbox_kept {s t : State} {p : Nat} {f : Msg → Bool} {m : Msg} (h : s.takeInbox p f = some (m, t)) :
    t.mem = s.mem ∧ t.pending = s.pending := by
  unfold State.takeInbox at h
  split at h <;> cases h
  simp

theorem State.takeLane_kept {s t : State} {d pipe : Nat} {f : Msg → Bool} {m : Msg} (h : s.takeLane d pipe f = some (m, t)) :
    t.mem = s.mem ∧ t.pending = s.pending := by
  unfold State.takeLane at h
  simp only [] at h
  split at h
  · cases h
  · split at h
    · split at h <;> cases h
      simp
    · cases h

theorem State.takeDev_kept {s t : State} {p n : Nat} {r : DevReq} (h : s.takeDev p n = some (r, t)) :
    t.mem = s.mem ∧ t.pending = s.pending := by
  unfold State.takeDev at h
  cases hx : (s.port p).dev[n]? with
  | none => simp [hx] at h
  | some x => simp only [hx, Option.map_some, Option.some.injEq, Prod.mk.injEq] at h; rw [← h.2]; simp

theorem State.takeRx_kept {s t : State} {p vc : Nat} {f : Msg → FabHdr → Bool} {m : Msg} {x : FabHdr}
    (h : s.takeRx p f = some (vc, m, x, t)) : t.mem = s.mem ∧ t.pending = s.pending := by
  unfold State.takeRx at h
  simp only [] at h
  split at h
  · rename_i m' r hx
    cases hf : m'.fab with
    | none => simp [hf] at h
    | some y =>
      simp only [hf, Option.map_some, Option.some.injEq, Prod.mk.injEq] at h
      rw [← h.2.2.2]; simp
  · cases h

theorem State.takeSteer_kept {s t : State} {i : Nat} {f : SteerOp → Bool} {x : SteerMsg} (h : s.takeSteer i f = some (x, t)) :
    t.mem = s.mem ∧ t.pending = s.pending := by
  unfold State.takeSteer at h
  split at h <;> cases h
  simp

theorem State.barStopped_kept {s t : State} {p : Nat} {r : BarReq} (h : s.barStopped p r = some t) :
    t.mem = s.mem ∧ t.pending = s.pending := by
  unfold State.barStopped at h
  (repeat' split at h) <;> cases h <;> simp

end Sys2Proof.Machine
end

