-- ==== Sys2Proof/Laws/Tab.lean ====
section
/-! SUPPORT. What sparse tables do: reads after writes, and that a write keeps the canonical form. -/

namespace Sys2Proof.Machine

section
variable {κ β : Type} [DecidableEq κ] {ord : κ → Nat} {d : κ → β} {t : List (κ × β)} {k k' : κ} {v : β}

@[simp] theorem tabGet_nil : tabGet d [] k = d k := rfl

@[simp] theorem tabGet_erase_same (d : κ → β) (t : List (κ × β)) (k : κ) : tabGet d (tabErase t k) k = d k := by
  induction t with
  | nil => rfl
  | cons e t ih =>
    obtain ⟨k', v⟩ := e
    by_cases h : k' = k <;> simp [tabErase, tabGet, h, ih]

theorem tabGet_erase_ne (d : κ → β) (t : List (κ × β)) (h : k' ≠ k) : tabGet d (tabErase t k) k' = tabGet d t k' := by
  induction t with
  | nil => rfl
  | cons e t ih =>
    obtain ⟨a, v⟩ := e
    by_cases h1 : a = k
    · subst h1
      simp [tabErase, tabGet, ih, Ne.symm h]
    · rw [tabErase, if_neg h1, tabGet, tabGet, ih]

/-- The keys of a table. -/
theorem tabErase_keys (t : List (κ × β)) (k : κ) : ∀ e ∈ tabErase t k, e ∈ t ∧ e.1 ≠ k := by
  induction t with
  | nil => intro e h; simp [tabErase] at h
  | cons a t ih =>
    obtain ⟨a, v⟩ := a
    intro e h
    by_cases h1 : a = k
    · simp [tabErase, h1] at h
      have := ih e h
      exact ⟨List.mem_cons_of_mem _ this.1, this.2⟩
    · simp [tabErase, h1] at h
      rcases h with h | h
      · subst h
        exact ⟨by simp, h1⟩
      · have := ih e h
        exact ⟨List.mem_cons_of_mem _ this.1, this.2⟩

theorem tabGet_insert_same (ord : κ → Nat) (d : κ → β) (t : List (κ × β)) (h : ∀ e ∈ t, e.1 ≠ k) :
    tabGet d (tabInsert ord t k v) k = v := by
  induction t with
  | nil => simp [tabInsert, tabGet]
  | cons e t ih =>
    obtain ⟨a, w⟩ := e
    have ha : a ≠ k := h (a, w) (by simp)
    have ht : ∀ e ∈ t, e.1 ≠ k := fun e he => h e (List.mem_cons_of_mem _ he)
    by_cases h1 : ord k < ord a <;> simp [tabInsert, tabGet, h1, ha, ih ht]

theorem tabGet_insert_ne (ord : κ → Nat) (d : κ → β) (t : List (κ × β)) (h : k' ≠ k) :
    tabGet d (tabInsert ord t k v) k' = tabGet d t k' := by
  induction t with
  | nil => simp [tabInsert, tabGet, Ne.symm h]
  | cons e t ih =>
    obtain ⟨a, w⟩ := e
    by_cases h1 : ord k < ord a
    · rw [tabInsert, if_pos h1, tabGet, if_neg (Ne.symm h)]
    · rw [tabInsert, if_neg h1, tabGet, tabGet, ih]

/-- A read of the key written. -/
@[simp] theorem tabGet_set_same [DecidableEq β] (ord : κ → Nat) (d : κ → β) (t : List (κ × β)) (k : κ) (v : β) :
    tabGet d (tabSet ord d t k v) k = v := by
  unfold tabSet
  split
  · rename_i h; simp [h]
  · exact tabGet_insert_same ord d _ (fun e he => (tabErase_keys t k e he).2)

/-- A read of another key. -/
theorem tabGet_set_ne [DecidableEq β] (ord : κ → Nat) (d : κ → β) (t : List (κ × β)) (v : β) (h : k' ≠ k) :
    tabGet d (tabSet ord d t k v) k' = tabGet d t k' := by
  unfold tabSet
  split
  · exact tabGet_erase_ne d t h
  · rw [tabGet_insert_ne ord d _ h, tabGet_erase_ne d t h]

/-! The canonical form -/

/-- Every order of a table's keys lies above a bound. -/
def tabAbove (ord : κ → Nat) (n : Nat) (t : List (κ × β)) : Prop := ∀ e ∈ t, n < ord e.1

omit [DecidableEq κ] in
theorem tabWf_cons [DecidableEq β] : tabWf ord d ((k, v) :: t) = true ↔ v ≠ d k ∧ tabAbove ord (ord k) t ∧ tabWf ord d t = true := by
  induction t generalizing k v with
  | nil => simp [tabWf, tabAbove]
  | cons e t ih =>
    obtain ⟨a, w⟩ := e
    simp only [tabWf, Bool.and_eq_true, decide_eq_true_eq]
    constructor
    · rintro ⟨⟨h1, h2⟩, h3⟩
      refine ⟨h1, ?_, h3⟩
      intro e he
      rcases List.mem_cons.mp he with h | h
      · subst h; exact h2
      · exact lt_trans h2 ((ih.mp h3).2.1 e h)
    · rintro ⟨h1, h2, h3⟩
      exact ⟨⟨h1, h2 (a, w) (by simp)⟩, h3⟩

theorem tabWf_erase [DecidableEq β] (h : tabWf ord d t = true) (k : κ) : tabWf ord d (tabErase t k) = true := by
  induction t with
  | nil => simp [tabErase, tabWf]
  | cons e t ih =>
    obtain ⟨a, w⟩ := e
    have hc := tabWf_cons.mp h
    by_cases h1 : a = k
    · simp [tabErase, h1, ih hc.2.2]
    · simp only [tabErase, h1, if_false]
      exact tabWf_cons.mpr ⟨hc.1, fun e he => hc.2.1 e (tabErase_keys t k e he).1, ih hc.2.2⟩

omit [DecidableEq κ] in
theorem tabInsert_mem (ord : κ → Nat) (t : List (κ × β)) (k : κ) (v : β) :
    ∀ e ∈ tabInsert ord t k v, e = (k, v) ∨ e ∈ t := by
  induction t with
  | nil => intro e h; simp [tabInsert] at h; exact .inl h
  | cons a t ih =>
    obtain ⟨a, w⟩ := a
    intro e h
    by_cases h1 : ord k < ord a
    · simp only [tabInsert, h1, if_true] at h
      rcases List.mem_cons.mp h with h | h
      · exact .inl h
      · exact .inr h
    · simp only [tabInsert, h1, if_false] at h
      rcases List.mem_cons.mp h with h | h
      · exact .inr (by simp [h])
      · rcases ih e h with h | h
        · exact .inl h
        · exact .inr (List.mem_cons_of_mem _ h)

omit [DecidableEq κ] in
theorem tabWf_insert [DecidableEq β] (h : tabWf ord d t = true) (hv : v ≠ d k) (hk : ∀ e ∈ t, ord e.1 ≠ ord k) :
    tabWf ord d (tabInsert ord t k v) = true := by
  induction t with
  | nil => simpa [tabInsert, tabWf] using hv
  | cons e t ih =>
    obtain ⟨a, w⟩ := e
    have hc := tabWf_cons.mp h
    by_cases h1 : ord k < ord a
    · simp only [tabInsert, h1, if_true]
      refine tabWf_cons.mpr ⟨hv, ?_, h⟩
      intro e he
      rcases List.mem_cons.mp he with h2 | h2
      · subst h2; exact h1
      · exact lt_trans h1 (hc.2.1 e h2)
    · simp only [tabInsert, h1, if_false]
      have hne : ord a ≠ ord k := hk (a, w) (by simp)
      refine tabWf_cons.mpr ⟨hc.1, ?_, ih hc.2.2 (fun e he => hk e (List.mem_cons_of_mem _ he))⟩
      intro e he
      rcases tabInsert_mem ord t k v e he with h2 | h2
      · subst h2; simp; omega
      · exact hc.2.1 e h2

/-- A write keeps the canonical form, for an order that tells keys apart. -/
theorem tabWf_set [DecidableEq β] (hinj : ∀ a b : κ, ord a = ord b → a = b) (h : tabWf ord d t = true) (k : κ) (v : β) :
    tabWf ord d (tabSet ord d t k v) = true := by
  unfold tabSet
  split
  · exact tabWf_erase h k
  · rename_i hv
    exact tabWf_insert (tabWf_erase h k) hv (fun e he heq => (tabErase_keys t k e he).2 (hinj _ _ heq))

omit [DecidableEq κ] in
/-- The entries that satisfy a test are a canonical table. -/
theorem tabWf_filter [DecidableEq β] (h : tabWf ord d t = true) (f : κ × β → Bool) : tabWf ord d (t.filter f) = true := by
  induction t with
  | nil => simp [tabWf]
  | cons e t ih =>
    obtain ⟨a, w⟩ := e
    have hc := tabWf_cons.mp h
    by_cases h1 : f (a, w)
    · rw [List.filter_cons_of_pos h1]
      exact tabWf_cons.mpr ⟨hc.1, fun e he => hc.2.1 e (List.mem_filter.mp he).1, ih hc.2.2⟩
    · rw [List.filter_cons_of_neg h1]
      exact ih hc.2.2

end

end Sys2Proof.Machine
end

