-- ==== Sys2Proof/Laws/State.lean ====
section
/-! SUPPORT. What each primitive update leaves alone, by field and by accessor, and what it puts. -/

namespace Sys2Proof.Machine

/-! wr -/

@[simp] theorem State.wr_out (s : State) (k : RKey) (v : Word) : (s.wr k v).out = s.out := rfl
@[simp] theorem State.wr_free (s : State) (k : RKey) (v : Word) : (s.wr k v).free = s.free := rfl
@[simp] theorem State.wr_latches (s : State) (k : RKey) (v : Word) : (s.wr k v).latches = s.latches := rfl
@[simp] theorem State.wr_fns (s : State) (k : RKey) (v : Word) : (s.wr k v).fns = s.fns := rfl
@[simp] theorem State.wr_eng (s : State) (k : RKey) (v : Word) : (s.wr k v).eng = s.eng := rfl
@[simp] theorem State.wr_flt (s : State) (k : RKey) (v : Word) : (s.wr k v).flt = s.flt := rfl
@[simp] theorem State.wr_noc (s : State) (k : RKey) (v : Word) : (s.wr k v).noc = s.noc := rfl
@[simp] theorem State.wr_ports (s : State) (k : RKey) (v : Word) : (s.wr k v).ports = s.ports := rfl
@[simp] theorem State.wr_slices (s : State) (k : RKey) (v : Word) : (s.wr k v).slices = s.slices := rfl
@[simp] theorem State.wr_halves (s : State) (k : RKey) (v : Word) : (s.wr k v).halves = s.halves := rfl
@[simp] theorem State.wr_lanes (s : State) (k : RKey) (v : Word) : (s.wr k v).lanes = s.lanes := rfl
@[simp] theorem State.wr_core (s : State) (k : RKey) (v : Word) : (s.wr k v).core = s.core := rfl
@[simp] theorem State.wr_tm (s : State) (k : RKey) (v : Word) : (s.wr k v).tm = s.tm := rfl
@[simp] theorem State.wr_fab (s : State) (k : RKey) (v : Word) : (s.wr k v).fab = s.fab := rfl
@[simp] theorem State.wr_eid (s : State) (k : RKey) (v : Word) : (s.wr k v).eid = s.eid := rfl
@[simp] theorem State.wr_marks (s : State) (k : RKey) (v : Word) : (s.wr k v).marks = s.marks := rfl
@[simp] theorem State.wr_pmc (s : State) (k : RKey) (v : Word) : (s.wr k v).pmc = s.pmc := rfl
@[simp] theorem State.wr_hsfs (s : State) (k : RKey) (v : Word) : (s.wr k v).hsfs = s.hsfs := rfl
@[simp] theorem State.wr_bays (s : State) (k : RKey) (v : Word) : (s.wr k v).bays = s.bays := rfl
@[simp] theorem State.wr_chip (s : State) (k : RKey) (v : Word) : (s.wr k v).chip = s.chip := rfl
@[simp] theorem State.port_wr (s : State) (k : RKey) (v : Word) (a : Nat) : (s.wr k v).port a = s.port a := rfl
@[simp] theorem State.slice_wr (s : State) (k : RKey) (v : Word) (a : Nat) : (s.wr k v).slice a = s.slice a := rfl
@[simp] theorem State.half_wr (s : State) (k : RKey) (v : Word) (a : Nat) : (s.wr k v).half a = s.half a := rfl
@[simp] theorem State.lane_wr (s : State) (k : RKey) (v : Word) (a : Nat) : (s.wr k v).lane a = s.lane a := rfl
@[simp] theorem State.hsf_wr (s : State) (k : RKey) (v : Word) (a : Nat) : (s.wr k v).hsf a = s.hsf a := rfl
@[simp] theorem State.bay_wr (s : State) (k : RKey) (v : Word) (a : Nat) : (s.wr k v).bay a = s.bay a := rfl
@[simp] theorem State.seat_wr (s : State) (k : RKey) (v : Word) (a : Nat) : (s.wr k v).seat a = s.seat a := rfl
@[simp] theorem State.dma_wr (s : State) (k : RKey) (v : Word) (a : Nat) : (s.wr k v).dma a = s.dma a := rfl
@[simp] theorem State.fn_wr (s : State) (k : RKey) (v : Word) (a : Nat) : (s.wr k v).fn a = s.fn a := rfl
@[simp] theorem State.coreIn_wr (s : State) (k : RKey) (v : Word) (a : Nat) : (s.wr k v).coreIn a = s.coreIn a := rfl
@[simp] theorem State.coreOut_wr (s : State) (k : RKey) (v : Word) (a : Nat) : (s.wr k v).coreOut a = s.coreOut a := rfl
@[simp] theorem State.plane_wr (s : State) (k : RKey) (v : Word) (a : Nat) : (s.wr k v).plane a = s.plane a := rfl

/-! setFld -/

@[simp] theorem State.setFld_out (s : State) (f : Fld) (n i j : Nat) : (s.setFld f n i j).out = s.out := rfl
@[simp] theorem State.setFld_free (s : State) (f : Fld) (n i j : Nat) : (s.setFld f n i j).free = s.free := rfl
@[simp] theorem State.setFld_latches (s : State) (f : Fld) (n i j : Nat) : (s.setFld f n i j).latches = s.latches := rfl
@[simp] theorem State.setFld_fns (s : State) (f : Fld) (n i j : Nat) : (s.setFld f n i j).fns = s.fns := rfl
@[simp] theorem State.setFld_eng (s : State) (f : Fld) (n i j : Nat) : (s.setFld f n i j).eng = s.eng := rfl
@[simp] theorem State.setFld_flt (s : State) (f : Fld) (n i j : Nat) : (s.setFld f n i j).flt = s.flt := rfl
@[simp] theorem State.setFld_noc (s : State) (f : Fld) (n i j : Nat) : (s.setFld f n i j).noc = s.noc := rfl
@[simp] theorem State.setFld_ports (s : State) (f : Fld) (n i j : Nat) : (s.setFld f n i j).ports = s.ports := rfl
@[simp] theorem State.setFld_slices (s : State) (f : Fld) (n i j : Nat) : (s.setFld f n i j).slices = s.slices := rfl
@[simp] theorem State.setFld_halves (s : State) (f : Fld) (n i j : Nat) : (s.setFld f n i j).halves = s.halves := rfl
@[simp] theorem State.setFld_lanes (s : State) (f : Fld) (n i j : Nat) : (s.setFld f n i j).lanes = s.lanes := rfl
@[simp] theorem State.setFld_core (s : State) (f : Fld) (n i j : Nat) : (s.setFld f n i j).core = s.core := rfl
@[simp] theorem State.setFld_tm (s : State) (f : Fld) (n i j : Nat) : (s.setFld f n i j).tm = s.tm := rfl
@[simp] theorem State.setFld_fab (s : State) (f : Fld) (n i j : Nat) : (s.setFld f n i j).fab = s.fab := rfl
@[simp] theorem State.setFld_eid (s : State) (f : Fld) (n i j : Nat) : (s.setFld f n i j).eid = s.eid := rfl
@[simp] theorem State.setFld_marks (s : State) (f : Fld) (n i j : Nat) : (s.setFld f n i j).marks = s.marks := rfl
@[simp] theorem State.setFld_pmc (s : State) (f : Fld) (n i j : Nat) : (s.setFld f n i j).pmc = s.pmc := rfl
@[simp] theorem State.setFld_hsfs (s : State) (f : Fld) (n i j : Nat) : (s.setFld f n i j).hsfs = s.hsfs := rfl
@[simp] theorem State.setFld_bays (s : State) (f : Fld) (n i j : Nat) : (s.setFld f n i j).bays = s.bays := rfl
@[simp] theorem State.setFld_chip (s : State) (f : Fld) (n i j : Nat) : (s.setFld f n i j).chip = s.chip := rfl
@[simp] theorem State.port_setFld (s : State) (f : Fld) (n i j : Nat) (a : Nat) : (s.setFld f n i j).port a = s.port a := rfl
@[simp] theorem State.slice_setFld (s : State) (f : Fld) (n i j : Nat) (a : Nat) : (s.setFld f n i j).slice a = s.slice a := rfl
@[simp] theorem State.half_setFld (s : State) (f : Fld) (n i j : Nat) (a : Nat) : (s.setFld f n i j).half a = s.half a := rfl
@[simp] theorem State.lane_setFld (s : State) (f : Fld) (n i j : Nat) (a : Nat) : (s.setFld f n i j).lane a = s.lane a := rfl
@[simp] theorem State.hsf_setFld (s : State) (f : Fld) (n i j : Nat) (a : Nat) : (s.setFld f n i j).hsf a = s.hsf a := rfl
@[simp] theorem State.bay_setFld (s : State) (f : Fld) (n i j : Nat) (a : Nat) : (s.setFld f n i j).bay a = s.bay a := rfl
@[simp] theorem State.seat_setFld (s : State) (f : Fld) (n i j : Nat) (a : Nat) : (s.setFld f n i j).seat a = s.seat a := rfl
@[simp] theorem State.dma_setFld (s : State) (f : Fld) (n i j : Nat) (a : Nat) : (s.setFld f n i j).dma a = s.dma a := rfl
@[simp] theorem State.fn_setFld (s : State) (f : Fld) (n i j : Nat) (a : Nat) : (s.setFld f n i j).fn a = s.fn a := rfl
@[simp] theorem State.coreIn_setFld (s : State) (f : Fld) (n i j : Nat) (a : Nat) : (s.setFld f n i j).coreIn a = s.coreIn a := rfl
@[simp] theorem State.coreOut_setFld (s : State) (f : Fld) (n i j : Nat) (a : Nat) : (s.setFld f n i j).coreOut a = s.coreOut a := rfl
@[simp] theorem State.plane_setFld (s : State) (f : Fld) (n i j : Nat) (a : Nat) : (s.setFld f n i j).plane a = s.plane a := rfl

/-! setPort -/

@[simp] theorem State.setPort_regs (s : State) (p : Nat) (v : Port) : (s.setPort p v).regs = s.regs := rfl
@[simp] theorem State.setPort_out (s : State) (p : Nat) (v : Port) : (s.setPort p v).out = s.out := rfl
@[simp] theorem State.setPort_free (s : State) (p : Nat) (v : Port) : (s.setPort p v).free = s.free := rfl
@[simp] theorem State.setPort_latches (s : State) (p : Nat) (v : Port) : (s.setPort p v).latches = s.latches := rfl
@[simp] theorem State.setPort_fns (s : State) (p : Nat) (v : Port) : (s.setPort p v).fns = s.fns := rfl
@[simp] theorem State.setPort_eng (s : State) (p : Nat) (v : Port) : (s.setPort p v).eng = s.eng := rfl
@[simp] theorem State.setPort_flt (s : State) (p : Nat) (v : Port) : (s.setPort p v).flt = s.flt := rfl
@[simp] theorem State.setPort_noc (s : State) (p : Nat) (v : Port) : (s.setPort p v).noc = s.noc := rfl
@[simp] theorem State.setPort_slices (s : State) (p : Nat) (v : Port) : (s.setPort p v).slices = s.slices := rfl
@[simp] theorem State.setPort_halves (s : State) (p : Nat) (v : Port) : (s.setPort p v).halves = s.halves := rfl
@[simp] theorem State.setPort_lanes (s : State) (p : Nat) (v : Port) : (s.setPort p v).lanes = s.lanes := rfl
@[simp] theorem State.setPort_core (s : State) (p : Nat) (v : Port) : (s.setPort p v).core = s.core := rfl
@[simp] theorem State.setPort_tm (s : State) (p : Nat) (v : Port) : (s.setPort p v).tm = s.tm := rfl
@[simp] theorem State.setPort_fab (s : State) (p : Nat) (v : Port) : (s.setPort p v).fab = s.fab := rfl
@[simp] theorem State.setPort_eid (s : State) (p : Nat) (v : Port) : (s.setPort p v).eid = s.eid := rfl
@[simp] theorem State.setPort_marks (s : State) (p : Nat) (v : Port) : (s.setPort p v).marks = s.marks := rfl
@[simp] theorem State.setPort_pmc (s : State) (p : Nat) (v : Port) : (s.setPort p v).pmc = s.pmc := rfl
@[simp] theorem State.setPort_hsfs (s : State) (p : Nat) (v : Port) : (s.setPort p v).hsfs = s.hsfs := rfl
@[simp] theorem State.setPort_bays (s : State) (p : Nat) (v : Port) : (s.setPort p v).bays = s.bays := rfl
@[simp] theorem State.setPort_chip (s : State) (p : Nat) (v : Port) : (s.setPort p v).chip = s.chip := rfl
@[simp] theorem State.rd_setPort (s : State) (p : Nat) (v : Port) (a : RKey) : (s.setPort p v).rd a = s.rd a := rfl
@[simp] theorem State.fld_setPort (s : State) (p : Nat) (v : Port) (a : Fld) (a1 a2 : Nat) : (s.setPort p v).fld a a1 a2 = s.fld a a1 a2 := rfl
@[simp] theorem State.flag_setPort (s : State) (p : Nat) (v : Port) (a : Fld) (a1 a2 : Nat) : (s.setPort p v).flag a a1 a2 = s.flag a a1 a2 := rfl
@[simp] theorem State.slice_setPort (s : State) (p : Nat) (v : Port) (a : Nat) : (s.setPort p v).slice a = s.slice a := rfl
@[simp] theorem State.half_setPort (s : State) (p : Nat) (v : Port) (a : Nat) : (s.setPort p v).half a = s.half a := rfl
@[simp] theorem State.lane_setPort (s : State) (p : Nat) (v : Port) (a : Nat) : (s.setPort p v).lane a = s.lane a := rfl
@[simp] theorem State.hsf_setPort (s : State) (p : Nat) (v : Port) (a : Nat) : (s.setPort p v).hsf a = s.hsf a := rfl
@[simp] theorem State.bay_setPort (s : State) (p : Nat) (v : Port) (a : Nat) : (s.setPort p v).bay a = s.bay a := rfl
@[simp] theorem State.seat_setPort (s : State) (p : Nat) (v : Port) (a : Nat) : (s.setPort p v).seat a = s.seat a := rfl
@[simp] theorem State.dma_setPort (s : State) (p : Nat) (v : Port) (a : Nat) : (s.setPort p v).dma a = s.dma a := rfl
@[simp] theorem State.fn_setPort (s : State) (p : Nat) (v : Port) (a : Nat) : (s.setPort p v).fn a = s.fn a := rfl
@[simp] theorem State.coreIn_setPort (s : State) (p : Nat) (v : Port) (a : Nat) : (s.setPort p v).coreIn a = s.coreIn a := rfl
@[simp] theorem State.coreOut_setPort (s : State) (p : Nat) (v : Port) (a : Nat) : (s.setPort p v).coreOut a = s.coreOut a := rfl
@[simp] theorem State.plane_setPort (s : State) (p : Nat) (v : Port) (a : Nat) : (s.setPort p v).plane a = s.plane a := rfl

/-! setSlice -/

@[simp] theorem State.setSlice_regs (s : State) (d : Nat) (v : Slice) : (s.setSlice d v).regs = s.regs := rfl
@[simp] theorem State.setSlice_out (s : State) (d : Nat) (v : Slice) : (s.setSlice d v).out = s.out := rfl
@[simp] theorem State.setSlice_free (s : State) (d : Nat) (v : Slice) : (s.setSlice d v).free = s.free := rfl
@[simp] theorem State.setSlice_latches (s : State) (d : Nat) (v : Slice) : (s.setSlice d v).latches = s.latches := rfl
@[simp] theorem State.setSlice_fns (s : State) (d : Nat) (v : Slice) : (s.setSlice d v).fns = s.fns := rfl
@[simp] theorem State.setSlice_eng (s : State) (d : Nat) (v : Slice) : (s.setSlice d v).eng = s.eng := rfl
@[simp] theorem State.setSlice_flt (s : State) (d : Nat) (v : Slice) : (s.setSlice d v).flt = s.flt := rfl
@[simp] theorem State.setSlice_noc (s : State) (d : Nat) (v : Slice) : (s.setSlice d v).noc = s.noc := rfl
@[simp] theorem State.setSlice_ports (s : State) (d : Nat) (v : Slice) : (s.setSlice d v).ports = s.ports := rfl
@[simp] theorem State.setSlice_halves (s : State) (d : Nat) (v : Slice) : (s.setSlice d v).halves = s.halves := rfl
@[simp] theorem State.setSlice_lanes (s : State) (d : Nat) (v : Slice) : (s.setSlice d v).lanes = s.lanes := rfl
@[simp] theorem State.setSlice_core (s : State) (d : Nat) (v : Slice) : (s.setSlice d v).core = s.core := rfl
@[simp] theorem State.setSlice_tm (s : State) (d : Nat) (v : Slice) : (s.setSlice d v).tm = s.tm := rfl
@[simp] theorem State.setSlice_fab (s : State) (d : Nat) (v : Slice) : (s.setSlice d v).fab = s.fab := rfl
@[simp] theorem State.setSlice_eid (s : State) (d : Nat) (v : Slice) : (s.setSlice d v).eid = s.eid := rfl
@[simp] theorem State.setSlice_marks (s : State) (d : Nat) (v : Slice) : (s.setSlice d v).marks = s.marks := rfl
@[simp] theorem State.setSlice_pmc (s : State) (d : Nat) (v : Slice) : (s.setSlice d v).pmc = s.pmc := rfl
@[simp] theorem State.setSlice_hsfs (s : State) (d : Nat) (v : Slice) : (s.setSlice d v).hsfs = s.hsfs := rfl
@[simp] theorem State.setSlice_bays (s : State) (d : Nat) (v : Slice) : (s.setSlice d v).bays = s.bays := rfl
@[simp] theorem State.setSlice_chip (s : State) (d : Nat) (v : Slice) : (s.setSlice d v).chip = s.chip := rfl
@[simp] theorem State.rd_setSlice (s : State) (d : Nat) (v : Slice) (a : RKey) : (s.setSlice d v).rd a = s.rd a := rfl
@[simp] theorem State.fld_setSlice (s : State) (d : Nat) (v : Slice) (a : Fld) (a1 a2 : Nat) : (s.setSlice d v).fld a a1 a2 = s.fld a a1 a2 := rfl
@[simp] theorem State.flag_setSlice (s : State) (d : Nat) (v : Slice) (a : Fld) (a1 a2 : Nat) : (s.setSlice d v).flag a a1 a2 = s.flag a a1 a2 := rfl
@[simp] theorem State.port_setSlice (s : State) (d : Nat) (v : Slice) (a : Nat) : (s.setSlice d v).port a = s.port a := rfl
@[simp] theorem State.half_setSlice (s : State) (d : Nat) (v : Slice) (a : Nat) : (s.setSlice d v).half a = s.half a := rfl
@[simp] theorem State.lane_setSlice (s : State) (d : Nat) (v : Slice) (a : Nat) : (s.setSlice d v).lane a = s.lane a := rfl
@[simp] theorem State.hsf_setSlice (s : State) (d : Nat) (v : Slice) (a : Nat) : (s.setSlice d v).hsf a = s.hsf a := rfl
@[simp] theorem State.bay_setSlice (s : State) (d : Nat) (v : Slice) (a : Nat) : (s.setSlice d v).bay a = s.bay a := rfl
@[simp] theorem State.seat_setSlice (s : State) (d : Nat) (v : Slice) (a : Nat) : (s.setSlice d v).seat a = s.seat a := rfl
@[simp] theorem State.dma_setSlice (s : State) (d : Nat) (v : Slice) (a : Nat) : (s.setSlice d v).dma a = s.dma a := rfl
@[simp] theorem State.fn_setSlice (s : State) (d : Nat) (v : Slice) (a : Nat) : (s.setSlice d v).fn a = s.fn a := rfl
@[simp] theorem State.coreIn_setSlice (s : State) (d : Nat) (v : Slice) (a : Nat) : (s.setSlice d v).coreIn a = s.coreIn a := rfl
@[simp] theorem State.coreOut_setSlice (s : State) (d : Nat) (v : Slice) (a : Nat) : (s.setSlice d v).coreOut a = s.coreOut a := rfl
@[simp] theorem State.plane_setSlice (s : State) (d : Nat) (v : Slice) (a : Nat) : (s.setSlice d v).plane a = s.plane a := rfl

/-! setHalf -/

@[simp] theorem State.setHalf_regs (s : State) (i : Nat) (v : Half) : (s.setHalf i v).regs = s.regs := rfl
@[simp] theorem State.setHalf_out (s : State) (i : Nat) (v : Half) : (s.setHalf i v).out = s.out := rfl
@[simp] theorem State.setHalf_free (s : State) (i : Nat) (v : Half) : (s.setHalf i v).free = s.free := rfl
@[simp] theorem State.setHalf_latches (s : State) (i : Nat) (v : Half) : (s.setHalf i v).latches = s.latches := rfl
@[simp] theorem State.setHalf_fns (s : State) (i : Nat) (v : Half) : (s.setHalf i v).fns = s.fns := rfl
@[simp] theorem State.setHalf_eng (s : State) (i : Nat) (v : Half) : (s.setHalf i v).eng = s.eng := rfl
@[simp] theorem State.setHalf_flt (s : State) (i : Nat) (v : Half) : (s.setHalf i v).flt = s.flt := rfl
@[simp] theorem State.setHalf_noc (s : State) (i : Nat) (v : Half) : (s.setHalf i v).noc = s.noc := rfl
@[simp] theorem State.setHalf_ports (s : State) (i : Nat) (v : Half) : (s.setHalf i v).ports = s.ports := rfl
@[simp] theorem State.setHalf_slices (s : State) (i : Nat) (v : Half) : (s.setHalf i v).slices = s.slices := rfl
@[simp] theorem State.setHalf_lanes (s : State) (i : Nat) (v : Half) : (s.setHalf i v).lanes = s.lanes := rfl
@[simp] theorem State.setHalf_core (s : State) (i : Nat) (v : Half) : (s.setHalf i v).core = s.core := rfl
@[simp] theorem State.setHalf_tm (s : State) (i : Nat) (v : Half) : (s.setHalf i v).tm = s.tm := rfl
@[simp] theorem State.setHalf_fab (s : State) (i : Nat) (v : Half) : (s.setHalf i v).fab = s.fab := rfl
@[simp] theorem State.setHalf_eid (s : State) (i : Nat) (v : Half) : (s.setHalf i v).eid = s.eid := rfl
@[simp] theorem State.setHalf_marks (s : State) (i : Nat) (v : Half) : (s.setHalf i v).marks = s.marks := rfl
@[simp] theorem State.setHalf_pmc (s : State) (i : Nat) (v : Half) : (s.setHalf i v).pmc = s.pmc := rfl
@[simp] theorem State.setHalf_hsfs (s : State) (i : Nat) (v : Half) : (s.setHalf i v).hsfs = s.hsfs := rfl
@[simp] theorem State.setHalf_bays (s : State) (i : Nat) (v : Half) : (s.setHalf i v).bays = s.bays := rfl
@[simp] theorem State.setHalf_chip (s : State) (i : Nat) (v : Half) : (s.setHalf i v).chip = s.chip := rfl
@[simp] theorem State.rd_setHalf (s : State) (i : Nat) (v : Half) (a : RKey) : (s.setHalf i v).rd a = s.rd a := rfl
@[simp] theorem State.fld_setHalf (s : State) (i : Nat) (v : Half) (a : Fld) (a1 a2 : Nat) : (s.setHalf i v).fld a a1 a2 = s.fld a a1 a2 := rfl
@[simp] theorem State.flag_setHalf (s : State) (i : Nat) (v : Half) (a : Fld) (a1 a2 : Nat) : (s.setHalf i v).flag a a1 a2 = s.flag a a1 a2 := rfl
@[simp] theorem State.port_setHalf (s : State) (i : Nat) (v : Half) (a : Nat) : (s.setHalf i v).port a = s.port a := rfl
@[simp] theorem State.slice_setHalf (s : State) (i : Nat) (v : Half) (a : Nat) : (s.setHalf i v).slice a = s.slice a := rfl
@[simp] theorem State.lane_setHalf (s : State) (i : Nat) (v : Half) (a : Nat) : (s.setHalf i v).lane a = s.lane a := rfl
@[simp] theorem State.hsf_setHalf (s : State) (i : Nat) (v : Half) (a : Nat) : (s.setHalf i v).hsf a = s.hsf a := rfl
@[simp] theorem State.bay_setHalf (s : State) (i : Nat) (v : Half) (a : Nat) : (s.setHalf i v).bay a = s.bay a := rfl
@[simp] theorem State.seat_setHalf (s : State) (i : Nat) (v : Half) (a : Nat) : (s.setHalf i v).seat a = s.seat a := rfl
@[simp] theorem State.dma_setHalf (s : State) (i : Nat) (v : Half) (a : Nat) : (s.setHalf i v).dma a = s.dma a := rfl
@[simp] theorem State.fn_setHalf (s : State) (i : Nat) (v : Half) (a : Nat) : (s.setHalf i v).fn a = s.fn a := rfl
@[simp] theorem State.coreIn_setHalf (s : State) (i : Nat) (v : Half) (a : Nat) : (s.setHalf i v).coreIn a = s.coreIn a := rfl
@[simp] theorem State.coreOut_setHalf (s : State) (i : Nat) (v : Half) (a : Nat) : (s.setHalf i v).coreOut a = s.coreOut a := rfl
@[simp] theorem State.plane_setHalf (s : State) (i : Nat) (v : Half) (a : Nat) : (s.setHalf i v).plane a = s.plane a := rfl

/-! setLane -/

@[simp] theorem State.setLane_regs (s : State) (n : Nat) (v : LaneSt) : (s.setLane n v).regs = s.regs := rfl
@[simp] theorem State.setLane_out (s : State) (n : Nat) (v : LaneSt) : (s.setLane n v).out = s.out := rfl
@[simp] theorem State.setLane_free (s : State) (n : Nat) (v : LaneSt) : (s.setLane n v).free = s.free := rfl
@[simp] theorem State.setLane_latches (s : State) (n : Nat) (v : LaneSt) : (s.setLane n v).latches = s.latches := rfl
@[simp] theorem State.setLane_fns (s : State) (n : Nat) (v : LaneSt) : (s.setLane n v).fns = s.fns := rfl
@[simp] theorem State.setLane_eng (s : State) (n : Nat) (v : LaneSt) : (s.setLane n v).eng = s.eng := rfl
@[simp] theorem State.setLane_flt (s : State) (n : Nat) (v : LaneSt) : (s.setLane n v).flt = s.flt := rfl
@[simp] theorem State.setLane_noc (s : State) (n : Nat) (v : LaneSt) : (s.setLane n v).noc = s.noc := rfl
@[simp] theorem State.setLane_ports (s : State) (n : Nat) (v : LaneSt) : (s.setLane n v).ports = s.ports := rfl
@[simp] theorem State.setLane_slices (s : State) (n : Nat) (v : LaneSt) : (s.setLane n v).slices = s.slices := rfl
@[simp] theorem State.setLane_halves (s : State) (n : Nat) (v : LaneSt) : (s.setLane n v).halves = s.halves := rfl
@[simp] theorem State.setLane_core (s : State) (n : Nat) (v : LaneSt) : (s.setLane n v).core = s.core := rfl
@[simp] theorem State.setLane_tm (s : State) (n : Nat) (v : LaneSt) : (s.setLane n v).tm = s.tm := rfl
@[simp] theorem State.setLane_fab (s : State) (n : Nat) (v : LaneSt) : (s.setLane n v).fab = s.fab := rfl
@[simp] theorem State.setLane_eid (s : State) (n : Nat) (v : LaneSt) : (s.setLane n v).eid = s.eid := rfl
@[simp] theorem State.setLane_marks (s : State) (n : Nat) (v : LaneSt) : (s.setLane n v).marks = s.marks := rfl
@[simp] theorem State.setLane_pmc (s : State) (n : Nat) (v : LaneSt) : (s.setLane n v).pmc = s.pmc := rfl
@[simp] theorem State.setLane_hsfs (s : State) (n : Nat) (v : LaneSt) : (s.setLane n v).hsfs = s.hsfs := rfl
@[simp] theorem State.setLane_bays (s : State) (n : Nat) (v : LaneSt) : (s.setLane n v).bays = s.bays := rfl
@[simp] theorem State.setLane_chip (s : State) (n : Nat) (v : LaneSt) : (s.setLane n v).chip = s.chip := rfl
@[simp] theorem State.rd_setLane (s : State) (n : Nat) (v : LaneSt) (a : RKey) : (s.setLane n v).rd a = s.rd a := rfl
@[simp] theorem State.fld_setLane (s : State) (n : Nat) (v : LaneSt) (a : Fld) (a1 a2 : Nat) : (s.setLane n v).fld a a1 a2 = s.fld a a1 a2 := rfl
@[simp] theorem State.flag_setLane (s : State) (n : Nat) (v : LaneSt) (a : Fld) (a1 a2 : Nat) : (s.setLane n v).flag a a1 a2 = s.flag a a1 a2 := rfl
@[simp] theorem State.port_setLane (s : State) (n : Nat) (v : LaneSt) (a : Nat) : (s.setLane n v).port a = s.port a := rfl
@[simp] theorem State.slice_setLane (s : State) (n : Nat) (v : LaneSt) (a : Nat) : (s.setLane n v).slice a = s.slice a := rfl
@[simp] theorem State.half_setLane (s : State) (n : Nat) (v : LaneSt) (a : Nat) : (s.setLane n v).half a = s.half a := rfl
@[simp] theorem State.hsf_setLane (s : State) (n : Nat) (v : LaneSt) (a : Nat) : (s.setLane n v).hsf a = s.hsf a := rfl
@[simp] theorem State.bay_setLane (s : State) (n : Nat) (v : LaneSt) (a : Nat) : (s.setLane n v).bay a = s.bay a := rfl
@[simp] theorem State.seat_setLane (s : State) (n : Nat) (v : LaneSt) (a : Nat) : (s.setLane n v).seat a = s.seat a := rfl
@[simp] theorem State.dma_setLane (s : State) (n : Nat) (v : LaneSt) (a : Nat) : (s.setLane n v).dma a = s.dma a := rfl
@[simp] theorem State.fn_setLane (s : State) (n : Nat) (v : LaneSt) (a : Nat) : (s.setLane n v).fn a = s.fn a := rfl
@[simp] theorem State.coreIn_setLane (s : State) (n : Nat) (v : LaneSt) (a : Nat) : (s.setLane n v).coreIn a = s.coreIn a := rfl
@[simp] theorem State.coreOut_setLane (s : State) (n : Nat) (v : LaneSt) (a : Nat) : (s.setLane n v).coreOut a = s.coreOut a := rfl
@[simp] theorem State.plane_setLane (s : State) (n : Nat) (v : LaneSt) (a : Nat) : (s.setLane n v).plane a = s.plane a := rfl

/-! setHsf -/

@[simp] theorem State.setHsf_regs (s : State) (p : Nat) (v : Hsf) : (s.setHsf p v).regs = s.regs := rfl
@[simp] theorem State.setHsf_out (s : State) (p : Nat) (v : Hsf) : (s.setHsf p v).out = s.out := rfl
@[simp] theorem State.setHsf_free (s : State) (p : Nat) (v : Hsf) : (s.setHsf p v).free = s.free := rfl
@[simp] theorem State.setHsf_latches (s : State) (p : Nat) (v : Hsf) : (s.setHsf p v).latches = s.latches := rfl
@[simp] theorem State.setHsf_fns (s : State) (p : Nat) (v : Hsf) : (s.setHsf p v).fns = s.fns := rfl
@[simp] theorem State.setHsf_eng (s : State) (p : Nat) (v : Hsf) : (s.setHsf p v).eng = s.eng := rfl
@[simp] theorem State.setHsf_flt (s : State) (p : Nat) (v : Hsf) : (s.setHsf p v).flt = s.flt := rfl
@[simp] theorem State.setHsf_noc (s : State) (p : Nat) (v : Hsf) : (s.setHsf p v).noc = s.noc := rfl
@[simp] theorem State.setHsf_ports (s : State) (p : Nat) (v : Hsf) : (s.setHsf p v).ports = s.ports := rfl
@[simp] theorem State.setHsf_slices (s : State) (p : Nat) (v : Hsf) : (s.setHsf p v).slices = s.slices := rfl
@[simp] theorem State.setHsf_halves (s : State) (p : Nat) (v : Hsf) : (s.setHsf p v).halves = s.halves := rfl
@[simp] theorem State.setHsf_lanes (s : State) (p : Nat) (v : Hsf) : (s.setHsf p v).lanes = s.lanes := rfl
@[simp] theorem State.setHsf_core (s : State) (p : Nat) (v : Hsf) : (s.setHsf p v).core = s.core := rfl
@[simp] theorem State.setHsf_tm (s : State) (p : Nat) (v : Hsf) : (s.setHsf p v).tm = s.tm := rfl
@[simp] theorem State.setHsf_fab (s : State) (p : Nat) (v : Hsf) : (s.setHsf p v).fab = s.fab := rfl
@[simp] theorem State.setHsf_eid (s : State) (p : Nat) (v : Hsf) : (s.setHsf p v).eid = s.eid := rfl
@[simp] theorem State.setHsf_marks (s : State) (p : Nat) (v : Hsf) : (s.setHsf p v).marks = s.marks := rfl
@[simp] theorem State.setHsf_pmc (s : State) (p : Nat) (v : Hsf) : (s.setHsf p v).pmc = s.pmc := rfl
@[simp] theorem State.setHsf_bays (s : State) (p : Nat) (v : Hsf) : (s.setHsf p v).bays = s.bays := rfl
@[simp] theorem State.setHsf_chip (s : State) (p : Nat) (v : Hsf) : (s.setHsf p v).chip = s.chip := rfl
@[simp] theorem State.rd_setHsf (s : State) (p : Nat) (v : Hsf) (a : RKey) : (s.setHsf p v).rd a = s.rd a := rfl
@[simp] theorem State.fld_setHsf (s : State) (p : Nat) (v : Hsf) (a : Fld) (a1 a2 : Nat) : (s.setHsf p v).fld a a1 a2 = s.fld a a1 a2 := rfl
@[simp] theorem State.flag_setHsf (s : State) (p : Nat) (v : Hsf) (a : Fld) (a1 a2 : Nat) : (s.setHsf p v).flag a a1 a2 = s.flag a a1 a2 := rfl
@[simp] theorem State.port_setHsf (s : State) (p : Nat) (v : Hsf) (a : Nat) : (s.setHsf p v).port a = s.port a := rfl
@[simp] theorem State.slice_setHsf (s : State) (p : Nat) (v : Hsf) (a : Nat) : (s.setHsf p v).slice a = s.slice a := rfl
@[simp] theorem State.half_setHsf (s : State) (p : Nat) (v : Hsf) (a : Nat) : (s.setHsf p v).half a = s.half a := rfl
@[simp] theorem State.lane_setHsf (s : State) (p : Nat) (v : Hsf) (a : Nat) : (s.setHsf p v).lane a = s.lane a := rfl
@[simp] theorem State.bay_setHsf (s : State) (p : Nat) (v : Hsf) (a : Nat) : (s.setHsf p v).bay a = s.bay a := rfl
@[simp] theorem State.seat_setHsf (s : State) (p : Nat) (v : Hsf) (a : Nat) : (s.setHsf p v).seat a = s.seat a := rfl
@[simp] theorem State.dma_setHsf (s : State) (p : Nat) (v : Hsf) (a : Nat) : (s.setHsf p v).dma a = s.dma a := rfl
@[simp] theorem State.fn_setHsf (s : State) (p : Nat) (v : Hsf) (a : Nat) : (s.setHsf p v).fn a = s.fn a := rfl
@[simp] theorem State.coreIn_setHsf (s : State) (p : Nat) (v : Hsf) (a : Nat) : (s.setHsf p v).coreIn a = s.coreIn a := rfl
@[simp] theorem State.coreOut_setHsf (s : State) (p : Nat) (v : Hsf) (a : Nat) : (s.setHsf p v).coreOut a = s.coreOut a := rfl
@[simp] theorem State.plane_setHsf (s : State) (p : Nat) (v : Hsf) (a : Nat) : (s.setHsf p v).plane a = s.plane a := rfl

/-! setBay -/

@[simp] theorem State.setBay_regs (s : State) (b : Nat) (v : Bay) : (s.setBay b v).regs = s.regs := rfl
@[simp] theorem State.setBay_out (s : State) (b : Nat) (v : Bay) : (s.setBay b v).out = s.out := rfl
@[simp] theorem State.setBay_free (s : State) (b : Nat) (v : Bay) : (s.setBay b v).free = s.free := rfl
@[simp] theorem State.setBay_latches (s : State) (b : Nat) (v : Bay) : (s.setBay b v).latches = s.latches := rfl
@[simp] theorem State.setBay_fns (s : State) (b : Nat) (v : Bay) : (s.setBay b v).fns = s.fns := rfl
@[simp] theorem State.setBay_eng (s : State) (b : Nat) (v : Bay) : (s.setBay b v).eng = s.eng := rfl
@[simp] theorem State.setBay_flt (s : State) (b : Nat) (v : Bay) : (s.setBay b v).flt = s.flt := rfl
@[simp] theorem State.setBay_noc (s : State) (b : Nat) (v : Bay) : (s.setBay b v).noc = s.noc := rfl
@[simp] theorem State.setBay_ports (s : State) (b : Nat) (v : Bay) : (s.setBay b v).ports = s.ports := rfl
@[simp] theorem State.setBay_slices (s : State) (b : Nat) (v : Bay) : (s.setBay b v).slices = s.slices := rfl
@[simp] theorem State.setBay_halves (s : State) (b : Nat) (v : Bay) : (s.setBay b v).halves = s.halves := rfl
@[simp] theorem State.setBay_lanes (s : State) (b : Nat) (v : Bay) : (s.setBay b v).lanes = s.lanes := rfl
@[simp] theorem State.setBay_core (s : State) (b : Nat) (v : Bay) : (s.setBay b v).core = s.core := rfl
@[simp] theorem State.setBay_tm (s : State) (b : Nat) (v : Bay) : (s.setBay b v).tm = s.tm := rfl
@[simp] theorem State.setBay_fab (s : State) (b : Nat) (v : Bay) : (s.setBay b v).fab = s.fab := rfl
@[simp] theorem State.setBay_eid (s : State) (b : Nat) (v : Bay) : (s.setBay b v).eid = s.eid := rfl
@[simp] theorem State.setBay_marks (s : State) (b : Nat) (v : Bay) : (s.setBay b v).marks = s.marks := rfl
@[simp] theorem State.setBay_pmc (s : State) (b : Nat) (v : Bay) : (s.setBay b v).pmc = s.pmc := rfl
@[simp] theorem State.setBay_hsfs (s : State) (b : Nat) (v : Bay) : (s.setBay b v).hsfs = s.hsfs := rfl
@[simp] theorem State.setBay_chip (s : State) (b : Nat) (v : Bay) : (s.setBay b v).chip = s.chip := rfl
@[simp] theorem State.rd_setBay (s : State) (b : Nat) (v : Bay) (a : RKey) : (s.setBay b v).rd a = s.rd a := rfl
@[simp] theorem State.fld_setBay (s : State) (b : Nat) (v : Bay) (a : Fld) (a1 a2 : Nat) : (s.setBay b v).fld a a1 a2 = s.fld a a1 a2 := rfl
@[simp] theorem State.flag_setBay (s : State) (b : Nat) (v : Bay) (a : Fld) (a1 a2 : Nat) : (s.setBay b v).flag a a1 a2 = s.flag a a1 a2 := rfl
@[simp] theorem State.port_setBay (s : State) (b : Nat) (v : Bay) (a : Nat) : (s.setBay b v).port a = s.port a := rfl
@[simp] theorem State.slice_setBay (s : State) (b : Nat) (v : Bay) (a : Nat) : (s.setBay b v).slice a = s.slice a := rfl
@[simp] theorem State.half_setBay (s : State) (b : Nat) (v : Bay) (a : Nat) : (s.setBay b v).half a = s.half a := rfl
@[simp] theorem State.lane_setBay (s : State) (b : Nat) (v : Bay) (a : Nat) : (s.setBay b v).lane a = s.lane a := rfl
@[simp] theorem State.hsf_setBay (s : State) (b : Nat) (v : Bay) (a : Nat) : (s.setBay b v).hsf a = s.hsf a := rfl
@[simp] theorem State.seat_setBay (s : State) (b : Nat) (v : Bay) (a : Nat) : (s.setBay b v).seat a = s.seat a := rfl
@[simp] theorem State.dma_setBay (s : State) (b : Nat) (v : Bay) (a : Nat) : (s.setBay b v).dma a = s.dma a := rfl
@[simp] theorem State.fn_setBay (s : State) (b : Nat) (v : Bay) (a : Nat) : (s.setBay b v).fn a = s.fn a := rfl
@[simp] theorem State.coreIn_setBay (s : State) (b : Nat) (v : Bay) (a : Nat) : (s.setBay b v).coreIn a = s.coreIn a := rfl
@[simp] theorem State.coreOut_setBay (s : State) (b : Nat) (v : Bay) (a : Nat) : (s.setBay b v).coreOut a = s.coreOut a := rfl
@[simp] theorem State.plane_setBay (s : State) (b : Nat) (v : Bay) (a : Nat) : (s.setBay b v).plane a = s.plane a := rfl

/-! setSeat -/

@[simp] theorem State.setSeat_regs (s : State) (n : Nat) (v : Seat) : (s.setSeat n v).regs = s.regs := rfl
@[simp] theorem State.setSeat_out (s : State) (n : Nat) (v : Seat) : (s.setSeat n v).out = s.out := rfl
@[simp] theorem State.setSeat_free (s : State) (n : Nat) (v : Seat) : (s.setSeat n v).free = s.free := rfl
@[simp] theorem State.setSeat_latches (s : State) (n : Nat) (v : Seat) : (s.setSeat n v).latches = s.latches := rfl
@[simp] theorem State.setSeat_fns (s : State) (n : Nat) (v : Seat) : (s.setSeat n v).fns = s.fns := rfl
@[simp] theorem State.setSeat_flt (s : State) (n : Nat) (v : Seat) : (s.setSeat n v).flt = s.flt := rfl
@[simp] theorem State.setSeat_noc (s : State) (n : Nat) (v : Seat) : (s.setSeat n v).noc = s.noc := rfl
@[simp] theorem State.setSeat_ports (s : State) (n : Nat) (v : Seat) : (s.setSeat n v).ports = s.ports := rfl
@[simp] theorem State.setSeat_slices (s : State) (n : Nat) (v : Seat) : (s.setSeat n v).slices = s.slices := rfl
@[simp] theorem State.setSeat_halves (s : State) (n : Nat) (v : Seat) : (s.setSeat n v).halves = s.halves := rfl
@[simp] theorem State.setSeat_lanes (s : State) (n : Nat) (v : Seat) : (s.setSeat n v).lanes = s.lanes := rfl
@[simp] theorem State.setSeat_core (s : State) (n : Nat) (v : Seat) : (s.setSeat n v).core = s.core := rfl
@[simp] theorem State.setSeat_tm (s : State) (n : Nat) (v : Seat) : (s.setSeat n v).tm = s.tm := rfl
@[simp] theorem State.setSeat_fab (s : State) (n : Nat) (v : Seat) : (s.setSeat n v).fab = s.fab := rfl
@[simp] theorem State.setSeat_eid (s : State) (n : Nat) (v : Seat) : (s.setSeat n v).eid = s.eid := rfl
@[simp] theorem State.setSeat_marks (s : State) (n : Nat) (v : Seat) : (s.setSeat n v).marks = s.marks := rfl
@[simp] theorem State.setSeat_pmc (s : State) (n : Nat) (v : Seat) : (s.setSeat n v).pmc = s.pmc := rfl
@[simp] theorem State.setSeat_hsfs (s : State) (n : Nat) (v : Seat) : (s.setSeat n v).hsfs = s.hsfs := rfl
@[simp] theorem State.setSeat_bays (s : State) (n : Nat) (v : Seat) : (s.setSeat n v).bays = s.bays := rfl
@[simp] theorem State.setSeat_chip (s : State) (n : Nat) (v : Seat) : (s.setSeat n v).chip = s.chip := rfl
@[simp] theorem State.rd_setSeat (s : State) (n : Nat) (v : Seat) (a : RKey) : (s.setSeat n v).rd a = s.rd a := rfl
@[simp] theorem State.fld_setSeat (s : State) (n : Nat) (v : Seat) (a : Fld) (a1 a2 : Nat) : (s.setSeat n v).fld a a1 a2 = s.fld a a1 a2 := rfl
@[simp] theorem State.flag_setSeat (s : State) (n : Nat) (v : Seat) (a : Fld) (a1 a2 : Nat) : (s.setSeat n v).flag a a1 a2 = s.flag a a1 a2 := rfl
@[simp] theorem State.port_setSeat (s : State) (n : Nat) (v : Seat) (a : Nat) : (s.setSeat n v).port a = s.port a := rfl
@[simp] theorem State.slice_setSeat (s : State) (n : Nat) (v : Seat) (a : Nat) : (s.setSeat n v).slice a = s.slice a := rfl
@[simp] theorem State.half_setSeat (s : State) (n : Nat) (v : Seat) (a : Nat) : (s.setSeat n v).half a = s.half a := rfl
@[simp] theorem State.lane_setSeat (s : State) (n : Nat) (v : Seat) (a : Nat) : (s.setSeat n v).lane a = s.lane a := rfl
@[simp] theorem State.hsf_setSeat (s : State) (n : Nat) (v : Seat) (a : Nat) : (s.setSeat n v).hsf a = s.hsf a := rfl
@[simp] theorem State.bay_setSeat (s : State) (n : Nat) (v : Seat) (a : Nat) : (s.setSeat n v).bay a = s.bay a := rfl
@[simp] theorem State.dma_setSeat (s : State) (n : Nat) (v : Seat) (a : Nat) : (s.setSeat n v).dma a = s.dma a := rfl
@[simp] theorem State.fn_setSeat (s : State) (n : Nat) (v : Seat) (a : Nat) : (s.setSeat n v).fn a = s.fn a := rfl
@[simp] theorem State.coreIn_setSeat (s : State) (n : Nat) (v : Seat) (a : Nat) : (s.setSeat n v).coreIn a = s.coreIn a := rfl
@[simp] theorem State.coreOut_setSeat (s : State) (n : Nat) (v : Seat) (a : Nat) : (s.setSeat n v).coreOut a = s.coreOut a := rfl
@[simp] theorem State.plane_setSeat (s : State) (n : Nat) (v : Seat) (a : Nat) : (s.setSeat n v).plane a = s.plane a := rfl

/-! setDma -/

@[simp] theorem State.setDma_regs (s : State) (e : Nat) (v : DmaSt) : (s.setDma e v).regs = s.regs := rfl
@[simp] theorem State.setDma_out (s : State) (e : Nat) (v : DmaSt) : (s.setDma e v).out = s.out := rfl
@[simp] theorem State.setDma_free (s : State) (e : Nat) (v : DmaSt) : (s.setDma e v).free = s.free := rfl
@[simp] theorem State.setDma_latches (s : State) (e : Nat) (v : DmaSt) : (s.setDma e v).latches = s.latches := rfl
@[simp] theorem State.setDma_fns (s : State) (e : Nat) (v : DmaSt) : (s.setDma e v).fns = s.fns := rfl
@[simp] theorem State.setDma_flt (s : State) (e : Nat) (v : DmaSt) : (s.setDma e v).flt = s.flt := rfl
@[simp] theorem State.setDma_noc (s : State) (e : Nat) (v : DmaSt) : (s.setDma e v).noc = s.noc := rfl
@[simp] theorem State.setDma_ports (s : State) (e : Nat) (v : DmaSt) : (s.setDma e v).ports = s.ports := rfl
@[simp] theorem State.setDma_slices (s : State) (e : Nat) (v : DmaSt) : (s.setDma e v).slices = s.slices := rfl
@[simp] theorem State.setDma_halves (s : State) (e : Nat) (v : DmaSt) : (s.setDma e v).halves = s.halves := rfl
@[simp] theorem State.setDma_lanes (s : State) (e : Nat) (v : DmaSt) : (s.setDma e v).lanes = s.lanes := rfl
@[simp] theorem State.setDma_core (s : State) (e : Nat) (v : DmaSt) : (s.setDma e v).core = s.core := rfl
@[simp] theorem State.setDma_tm (s : State) (e : Nat) (v : DmaSt) : (s.setDma e v).tm = s.tm := rfl
@[simp] theorem State.setDma_fab (s : State) (e : Nat) (v : DmaSt) : (s.setDma e v).fab = s.fab := rfl
@[simp] theorem State.setDma_eid (s : State) (e : Nat) (v : DmaSt) : (s.setDma e v).eid = s.eid := rfl
@[simp] theorem State.setDma_marks (s : State) (e : Nat) (v : DmaSt) : (s.setDma e v).marks = s.marks := rfl
@[simp] theorem State.setDma_pmc (s : State) (e : Nat) (v : DmaSt) : (s.setDma e v).pmc = s.pmc := rfl
@[simp] theorem State.setDma_hsfs (s : State) (e : Nat) (v : DmaSt) : (s.setDma e v).hsfs = s.hsfs := rfl
@[simp] theorem State.setDma_bays (s : State) (e : Nat) (v : DmaSt) : (s.setDma e v).bays = s.bays := rfl
@[simp] theorem State.setDma_chip (s : State) (e : Nat) (v : DmaSt) : (s.setDma e v).chip = s.chip := rfl
@[simp] theorem State.rd_setDma (s : State) (e : Nat) (v : DmaSt) (a : RKey) : (s.setDma e v).rd a = s.rd a := rfl
@[simp] theorem State.fld_setDma (s : State) (e : Nat) (v : DmaSt) (a : Fld) (a1 a2 : Nat) : (s.setDma e v).fld a a1 a2 = s.fld a a1 a2 := rfl
@[simp] theorem State.flag_setDma (s : State) (e : Nat) (v : DmaSt) (a : Fld) (a1 a2 : Nat) : (s.setDma e v).flag a a1 a2 = s.flag a a1 a2 := rfl
@[simp] theorem State.port_setDma (s : State) (e : Nat) (v : DmaSt) (a : Nat) : (s.setDma e v).port a = s.port a := rfl
@[simp] theorem State.slice_setDma (s : State) (e : Nat) (v : DmaSt) (a : Nat) : (s.setDma e v).slice a = s.slice a := rfl
@[simp] theorem State.half_setDma (s : State) (e : Nat) (v : DmaSt) (a : Nat) : (s.setDma e v).half a = s.half a := rfl
@[simp] theorem State.lane_setDma (s : State) (e : Nat) (v : DmaSt) (a : Nat) : (s.setDma e v).lane a = s.lane a := rfl
@[simp] theorem State.hsf_setDma (s : State) (e : Nat) (v : DmaSt) (a : Nat) : (s.setDma e v).hsf a = s.hsf a := rfl
@[simp] theorem State.bay_setDma (s : State) (e : Nat) (v : DmaSt) (a : Nat) : (s.setDma e v).bay a = s.bay a := rfl
@[simp] theorem State.seat_setDma (s : State) (e : Nat) (v : DmaSt) (a : Nat) : (s.setDma e v).seat a = s.seat a := rfl
@[simp] theorem State.fn_setDma (s : State) (e : Nat) (v : DmaSt) (a : Nat) : (s.setDma e v).fn a = s.fn a := rfl
@[simp] theorem State.coreIn_setDma (s : State) (e : Nat) (v : DmaSt) (a : Nat) : (s.setDma e v).coreIn a = s.coreIn a := rfl
@[simp] theorem State.coreOut_setDma (s : State) (e : Nat) (v : DmaSt) (a : Nat) : (s.setDma e v).coreOut a = s.coreOut a := rfl
@[simp] theorem State.plane_setDma (s : State) (e : Nat) (v : DmaSt) (a : Nat) : (s.setDma e v).plane a = s.plane a := rfl

/-! setFn -/

@[simp] theorem State.setFn_regs (s : State) (x : Nat) (v : Fn) : (s.setFn x v).regs = s.regs := rfl
@[simp] theorem State.setFn_out (s : State) (x : Nat) (v : Fn) : (s.setFn x v).out = s.out := rfl
@[simp] theorem State.setFn_free (s : State) (x : Nat) (v : Fn) : (s.setFn x v).free = s.free := rfl
@[simp] theorem State.setFn_latches (s : State) (x : Nat) (v : Fn) : (s.setFn x v).latches = s.latches := rfl
@[simp] theorem State.setFn_eng (s : State) (x : Nat) (v : Fn) : (s.setFn x v).eng = s.eng := rfl
@[simp] theorem State.setFn_flt (s : State) (x : Nat) (v : Fn) : (s.setFn x v).flt = s.flt := rfl
@[simp] theorem State.setFn_noc (s : State) (x : Nat) (v : Fn) : (s.setFn x v).noc = s.noc := rfl
@[simp] theorem State.setFn_ports (s : State) (x : Nat) (v : Fn) : (s.setFn x v).ports = s.ports := rfl
@[simp] theorem State.setFn_slices (s : State) (x : Nat) (v : Fn) : (s.setFn x v).slices = s.slices := rfl
@[simp] theorem State.setFn_halves (s : State) (x : Nat) (v : Fn) : (s.setFn x v).halves = s.halves := rfl
@[simp] theorem State.setFn_lanes (s : State) (x : Nat) (v : Fn) : (s.setFn x v).lanes = s.lanes := rfl
@[simp] theorem State.setFn_core (s : State) (x : Nat) (v : Fn) : (s.setFn x v).core = s.core := rfl
@[simp] theorem State.setFn_tm (s : State) (x : Nat) (v : Fn) : (s.setFn x v).tm = s.tm := rfl
@[simp] theorem State.setFn_fab (s : State) (x : Nat) (v : Fn) : (s.setFn x v).fab = s.fab := rfl
@[simp] theorem State.setFn_eid (s : State) (x : Nat) (v : Fn) : (s.setFn x v).eid = s.eid := rfl
@[simp] theorem State.setFn_marks (s : State) (x : Nat) (v : Fn) : (s.setFn x v).marks = s.marks := rfl
@[simp] theorem State.setFn_pmc (s : State) (x : Nat) (v : Fn) : (s.setFn x v).pmc = s.pmc := rfl
@[simp] theorem State.setFn_hsfs (s : State) (x : Nat) (v : Fn) : (s.setFn x v).hsfs = s.hsfs := rfl
@[simp] theorem State.setFn_bays (s : State) (x : Nat) (v : Fn) : (s.setFn x v).bays = s.bays := rfl
@[simp] theorem State.setFn_chip (s : State) (x : Nat) (v : Fn) : (s.setFn x v).chip = s.chip := rfl
@[simp] theorem State.rd_setFn (s : State) (x : Nat) (v : Fn) (a : RKey) : (s.setFn x v).rd a = s.rd a := rfl
@[simp] theorem State.fld_setFn (s : State) (x : Nat) (v : Fn) (a : Fld) (a1 a2 : Nat) : (s.setFn x v).fld a a1 a2 = s.fld a a1 a2 := rfl
@[simp] theorem State.flag_setFn (s : State) (x : Nat) (v : Fn) (a : Fld) (a1 a2 : Nat) : (s.setFn x v).flag a a1 a2 = s.flag a a1 a2 := rfl
@[simp] theorem State.port_setFn (s : State) (x : Nat) (v : Fn) (a : Nat) : (s.setFn x v).port a = s.port a := rfl
@[simp] theorem State.slice_setFn (s : State) (x : Nat) (v : Fn) (a : Nat) : (s.setFn x v).slice a = s.slice a := rfl
@[simp] theorem State.half_setFn (s : State) (x : Nat) (v : Fn) (a : Nat) : (s.setFn x v).half a = s.half a := rfl
@[simp] theorem State.lane_setFn (s : State) (x : Nat) (v : Fn) (a : Nat) : (s.setFn x v).lane a = s.lane a := rfl
@[simp] theorem State.hsf_setFn (s : State) (x : Nat) (v : Fn) (a : Nat) : (s.setFn x v).hsf a = s.hsf a := rfl
@[simp] theorem State.bay_setFn (s : State) (x : Nat) (v : Fn) (a : Nat) : (s.setFn x v).bay a = s.bay a := rfl
@[simp] theorem State.seat_setFn (s : State) (x : Nat) (v : Fn) (a : Nat) : (s.setFn x v).seat a = s.seat a := rfl
@[simp] theorem State.dma_setFn (s : State) (x : Nat) (v : Fn) (a : Nat) : (s.setFn x v).dma a = s.dma a := rfl
@[simp] theorem State.coreIn_setFn (s : State) (x : Nat) (v : Fn) (a : Nat) : (s.setFn x v).coreIn a = s.coreIn a := rfl
@[simp] theorem State.coreOut_setFn (s : State) (x : Nat) (v : Fn) (a : Nat) : (s.setFn x v).coreOut a = s.coreOut a := rfl
@[simp] theorem State.plane_setFn (s : State) (x : Nat) (v : Fn) (a : Nat) : (s.setFn x v).plane a = s.plane a := rfl

/-! setCoreIn -/

@[simp] theorem State.setCoreIn_regs (s : State) (e : Nat) (v : CoreIn) : (s.setCoreIn e v).regs = s.regs := rfl
@[simp] theorem State.setCoreIn_out (s : State) (e : Nat) (v : CoreIn) : (s.setCoreIn e v).out = s.out := rfl
@[simp] theorem State.setCoreIn_free (s : State) (e : Nat) (v : CoreIn) : (s.setCoreIn e v).free = s.free := rfl
@[simp] theorem State.setCoreIn_latches (s : State) (e : Nat) (v : CoreIn) : (s.setCoreIn e v).latches = s.latches := rfl
@[simp] theorem State.setCoreIn_fns (s : State) (e : Nat) (v : CoreIn) : (s.setCoreIn e v).fns = s.fns := rfl
@[simp] theorem State.setCoreIn_eng (s : State) (e : Nat) (v : CoreIn) : (s.setCoreIn e v).eng = s.eng := rfl
@[simp] theorem State.setCoreIn_flt (s : State) (e : Nat) (v : CoreIn) : (s.setCoreIn e v).flt = s.flt := rfl
@[simp] theorem State.setCoreIn_noc (s : State) (e : Nat) (v : CoreIn) : (s.setCoreIn e v).noc = s.noc := rfl
@[simp] theorem State.setCoreIn_ports (s : State) (e : Nat) (v : CoreIn) : (s.setCoreIn e v).ports = s.ports := rfl
@[simp] theorem State.setCoreIn_slices (s : State) (e : Nat) (v : CoreIn) : (s.setCoreIn e v).slices = s.slices := rfl
@[simp] theorem State.setCoreIn_halves (s : State) (e : Nat) (v : CoreIn) : (s.setCoreIn e v).halves = s.halves := rfl
@[simp] theorem State.setCoreIn_lanes (s : State) (e : Nat) (v : CoreIn) : (s.setCoreIn e v).lanes = s.lanes := rfl
@[simp] theorem State.setCoreIn_tm (s : State) (e : Nat) (v : CoreIn) : (s.setCoreIn e v).tm = s.tm := rfl
@[simp] theorem State.setCoreIn_fab (s : State) (e : Nat) (v : CoreIn) : (s.setCoreIn e v).fab = s.fab := rfl
@[simp] theorem State.setCoreIn_eid (s : State) (e : Nat) (v : CoreIn) : (s.setCoreIn e v).eid = s.eid := rfl
@[simp] theorem State.setCoreIn_marks (s : State) (e : Nat) (v : CoreIn) : (s.setCoreIn e v).marks = s.marks := rfl
@[simp] theorem State.setCoreIn_pmc (s : State) (e : Nat) (v : CoreIn) : (s.setCoreIn e v).pmc = s.pmc := rfl
@[simp] theorem State.setCoreIn_hsfs (s : State) (e : Nat) (v : CoreIn) : (s.setCoreIn e v).hsfs = s.hsfs := rfl
@[simp] theorem State.setCoreIn_bays (s : State) (e : Nat) (v : CoreIn) : (s.setCoreIn e v).bays = s.bays := rfl
@[simp] theorem State.setCoreIn_chip (s : State) (e : Nat) (v : CoreIn) : (s.setCoreIn e v).chip = s.chip := rfl
@[simp] theorem State.rd_setCoreIn (s : State) (e : Nat) (v : CoreIn) (a : RKey) : (s.setCoreIn e v).rd a = s.rd a := rfl
@[simp] theorem State.fld_setCoreIn (s : State) (e : Nat) (v : CoreIn) (a : Fld) (a1 a2 : Nat) : (s.setCoreIn e v).fld a a1 a2 = s.fld a a1 a2 := rfl
@[simp] theorem State.flag_setCoreIn (s : State) (e : Nat) (v : CoreIn) (a : Fld) (a1 a2 : Nat) : (s.setCoreIn e v).flag a a1 a2 = s.flag a a1 a2 := rfl
@[simp] theorem State.port_setCoreIn (s : State) (e : Nat) (v : CoreIn) (a : Nat) : (s.setCoreIn e v).port a = s.port a := rfl
@[simp] theorem State.slice_setCoreIn (s : State) (e : Nat) (v : CoreIn) (a : Nat) : (s.setCoreIn e v).slice a = s.slice a := rfl
@[simp] theorem State.half_setCoreIn (s : State) (e : Nat) (v : CoreIn) (a : Nat) : (s.setCoreIn e v).half a = s.half a := rfl
@[simp] theorem State.lane_setCoreIn (s : State) (e : Nat) (v : CoreIn) (a : Nat) : (s.setCoreIn e v).lane a = s.lane a := rfl
@[simp] theorem State.hsf_setCoreIn (s : State) (e : Nat) (v : CoreIn) (a : Nat) : (s.setCoreIn e v).hsf a = s.hsf a := rfl
@[simp] theorem State.bay_setCoreIn (s : State) (e : Nat) (v : CoreIn) (a : Nat) : (s.setCoreIn e v).bay a = s.bay a := rfl
@[simp] theorem State.seat_setCoreIn (s : State) (e : Nat) (v : CoreIn) (a : Nat) : (s.setCoreIn e v).seat a = s.seat a := rfl
@[simp] theorem State.dma_setCoreIn (s : State) (e : Nat) (v : CoreIn) (a : Nat) : (s.setCoreIn e v).dma a = s.dma a := rfl
@[simp] theorem State.fn_setCoreIn (s : State) (e : Nat) (v : CoreIn) (a : Nat) : (s.setCoreIn e v).fn a = s.fn a := rfl
@[simp] theorem State.coreOut_setCoreIn (s : State) (e : Nat) (v : CoreIn) (a : Nat) : (s.setCoreIn e v).coreOut a = s.coreOut a := rfl
@[simp] theorem State.plane_setCoreIn (s : State) (e : Nat) (v : CoreIn) (a : Nat) : (s.setCoreIn e v).plane a = s.plane a := rfl

/-! setCoreOut -/

@[simp] theorem State.setCoreOut_regs (s : State) (e : Nat) (v : CoreOut) : (s.setCoreOut e v).regs = s.regs := rfl
@[simp] theorem State.setCoreOut_out (s : State) (e : Nat) (v : CoreOut) : (s.setCoreOut e v).out = s.out := rfl
@[simp] theorem State.setCoreOut_free (s : State) (e : Nat) (v : CoreOut) : (s.setCoreOut e v).free = s.free := rfl
@[simp] theorem State.setCoreOut_latches (s : State) (e : Nat) (v : CoreOut) : (s.setCoreOut e v).latches = s.latches := rfl
@[simp] theorem State.setCoreOut_fns (s : State) (e : Nat) (v : CoreOut) : (s.setCoreOut e v).fns = s.fns := rfl
@[simp] theorem State.setCoreOut_eng (s : State) (e : Nat) (v : CoreOut) : (s.setCoreOut e v).eng = s.eng := rfl
@[simp] theorem State.setCoreOut_flt (s : State) (e : Nat) (v : CoreOut) : (s.setCoreOut e v).flt = s.flt := rfl
@[simp] theorem State.setCoreOut_noc (s : State) (e : Nat) (v : CoreOut) : (s.setCoreOut e v).noc = s.noc := rfl
@[simp] theorem State.setCoreOut_ports (s : State) (e : Nat) (v : CoreOut) : (s.setCoreOut e v).ports = s.ports := rfl
@[simp] theorem State.setCoreOut_slices (s : State) (e : Nat) (v : CoreOut) : (s.setCoreOut e v).slices = s.slices := rfl
@[simp] theorem State.setCoreOut_halves (s : State) (e : Nat) (v : CoreOut) : (s.setCoreOut e v).halves = s.halves := rfl
@[simp] theorem State.setCoreOut_lanes (s : State) (e : Nat) (v : CoreOut) : (s.setCoreOut e v).lanes = s.lanes := rfl
@[simp] theorem State.setCoreOut_tm (s : State) (e : Nat) (v : CoreOut) : (s.setCoreOut e v).tm = s.tm := rfl
@[simp] theorem State.setCoreOut_fab (s : State) (e : Nat) (v : CoreOut) : (s.setCoreOut e v).fab = s.fab := rfl
@[simp] theorem State.setCoreOut_eid (s : State) (e : Nat) (v : CoreOut) : (s.setCoreOut e v).eid = s.eid := rfl
@[simp] theorem State.setCoreOut_marks (s : State) (e : Nat) (v : CoreOut) : (s.setCoreOut e v).marks = s.marks := rfl
@[simp] theorem State.setCoreOut_pmc (s : State) (e : Nat) (v : CoreOut) : (s.setCoreOut e v).pmc = s.pmc := rfl
@[simp] theorem State.setCoreOut_hsfs (s : State) (e : Nat) (v : CoreOut) : (s.setCoreOut e v).hsfs = s.hsfs := rfl
@[simp] theorem State.setCoreOut_bays (s : State) (e : Nat) (v : CoreOut) : (s.setCoreOut e v).bays = s.bays := rfl
@[simp] theorem State.setCoreOut_chip (s : State) (e : Nat) (v : CoreOut) : (s.setCoreOut e v).chip = s.chip := rfl
@[simp] theorem State.rd_setCoreOut (s : State) (e : Nat) (v : CoreOut) (a : RKey) : (s.setCoreOut e v).rd a = s.rd a := rfl
@[simp] theorem State.fld_setCoreOut (s : State) (e : Nat) (v : CoreOut) (a : Fld) (a1 a2 : Nat) : (s.setCoreOut e v).fld a a1 a2 = s.fld a a1 a2 := rfl
@[simp] theorem State.flag_setCoreOut (s : State) (e : Nat) (v : CoreOut) (a : Fld) (a1 a2 : Nat) : (s.setCoreOut e v).flag a a1 a2 = s.flag a a1 a2 := rfl
@[simp] theorem State.port_setCoreOut (s : State) (e : Nat) (v : CoreOut) (a : Nat) : (s.setCoreOut e v).port a = s.port a := rfl
@[simp] theorem State.slice_setCoreOut (s : State) (e : Nat) (v : CoreOut) (a : Nat) : (s.setCoreOut e v).slice a = s.slice a := rfl
@[simp] theorem State.half_setCoreOut (s : State) (e : Nat) (v : CoreOut) (a : Nat) : (s.setCoreOut e v).half a = s.half a := rfl
@[simp] theorem State.lane_setCoreOut (s : State) (e : Nat) (v : CoreOut) (a : Nat) : (s.setCoreOut e v).lane a = s.lane a := rfl
@[simp] theorem State.hsf_setCoreOut (s : State) (e : Nat) (v : CoreOut) (a : Nat) : (s.setCoreOut e v).hsf a = s.hsf a := rfl
@[simp] theorem State.bay_setCoreOut (s : State) (e : Nat) (v : CoreOut) (a : Nat) : (s.setCoreOut e v).bay a = s.bay a := rfl
@[simp] theorem State.seat_setCoreOut (s : State) (e : Nat) (v : CoreOut) (a : Nat) : (s.setCoreOut e v).seat a = s.seat a := rfl
@[simp] theorem State.dma_setCoreOut (s : State) (e : Nat) (v : CoreOut) (a : Nat) : (s.setCoreOut e v).dma a = s.dma a := rfl
@[simp] theorem State.fn_setCoreOut (s : State) (e : Nat) (v : CoreOut) (a : Nat) : (s.setCoreOut e v).fn a = s.fn a := rfl
@[simp] theorem State.coreIn_setCoreOut (s : State) (e : Nat) (v : CoreOut) (a : Nat) : (s.setCoreOut e v).coreIn a = s.coreIn a := rfl
@[simp] theorem State.plane_setCoreOut (s : State) (e : Nat) (v : CoreOut) (a : Nat) : (s.setCoreOut e v).plane a = s.plane a := rfl

/-! setPlane -/

@[simp] theorem State.setPlane_regs (s : State) (p : Nat) (v : Plane) : (s.setPlane p v).regs = s.regs := rfl
@[simp] theorem State.setPlane_out (s : State) (p : Nat) (v : Plane) : (s.setPlane p v).out = s.out := rfl
@[simp] theorem State.setPlane_free (s : State) (p : Nat) (v : Plane) : (s.setPlane p v).free = s.free := rfl
@[simp] theorem State.setPlane_latches (s : State) (p : Nat) (v : Plane) : (s.setPlane p v).latches = s.latches := rfl
@[simp] theorem State.setPlane_fns (s : State) (p : Nat) (v : Plane) : (s.setPlane p v).fns = s.fns := rfl
@[simp] theorem State.setPlane_eng (s : State) (p : Nat) (v : Plane) : (s.setPlane p v).eng = s.eng := rfl
@[simp] theorem State.setPlane_flt (s : State) (p : Nat) (v : Plane) : (s.setPlane p v).flt = s.flt := rfl
@[simp] theorem State.setPlane_noc (s : State) (p : Nat) (v : Plane) : (s.setPlane p v).noc = s.noc := rfl
@[simp] theorem State.setPlane_ports (s : State) (p : Nat) (v : Plane) : (s.setPlane p v).ports = s.ports := rfl
@[simp] theorem State.setPlane_slices (s : State) (p : Nat) (v : Plane) : (s.setPlane p v).slices = s.slices := rfl
@[simp] theorem State.setPlane_halves (s : State) (p : Nat) (v : Plane) : (s.setPlane p v).halves = s.halves := rfl
@[simp] theorem State.setPlane_lanes (s : State) (p : Nat) (v : Plane) : (s.setPlane p v).lanes = s.lanes := rfl
@[simp] theorem State.setPlane_tm (s : State) (p : Nat) (v : Plane) : (s.setPlane p v).tm = s.tm := rfl
@[simp] theorem State.setPlane_fab (s : State) (p : Nat) (v : Plane) : (s.setPlane p v).fab = s.fab := rfl
@[simp] theorem State.setPlane_eid (s : State) (p : Nat) (v : Plane) : (s.setPlane p v).eid = s.eid := rfl
@[simp] theorem State.setPlane_marks (s : State) (p : Nat) (v : Plane) : (s.setPlane p v).marks = s.marks := rfl
@[simp] theorem State.setPlane_pmc (s : State) (p : Nat) (v : Plane) : (s.setPlane p v).pmc = s.pmc := rfl
@[simp] theorem State.setPlane_hsfs (s : State) (p : Nat) (v : Plane) : (s.setPlane p v).hsfs = s.hsfs := rfl
@[simp] theorem State.setPlane_bays (s : State) (p : Nat) (v : Plane) : (s.setPlane p v).bays = s.bays := rfl
@[simp] theorem State.setPlane_chip (s : State) (p : Nat) (v : Plane) : (s.setPlane p v).chip = s.chip := rfl
@[simp] theorem State.rd_setPlane (s : State) (p : Nat) (v : Plane) (a : RKey) : (s.setPlane p v).rd a = s.rd a := rfl
@[simp] theorem State.fld_setPlane (s : State) (p : Nat) (v : Plane) (a : Fld) (a1 a2 : Nat) : (s.setPlane p v).fld a a1 a2 = s.fld a a1 a2 := rfl
@[simp] theorem State.flag_setPlane (s : State) (p : Nat) (v : Plane) (a : Fld) (a1 a2 : Nat) : (s.setPlane p v).flag a a1 a2 = s.flag a a1 a2 := rfl
@[simp] theorem State.port_setPlane (s : State) (p : Nat) (v : Plane) (a : Nat) : (s.setPlane p v).port a = s.port a := rfl
@[simp] theorem State.slice_setPlane (s : State) (p : Nat) (v : Plane) (a : Nat) : (s.setPlane p v).slice a = s.slice a := rfl
@[simp] theorem State.half_setPlane (s : State) (p : Nat) (v : Plane) (a : Nat) : (s.setPlane p v).half a = s.half a := rfl
@[simp] theorem State.lane_setPlane (s : State) (p : Nat) (v : Plane) (a : Nat) : (s.setPlane p v).lane a = s.lane a := rfl
@[simp] theorem State.hsf_setPlane (s : State) (p : Nat) (v : Plane) (a : Nat) : (s.setPlane p v).hsf a = s.hsf a := rfl
@[simp] theorem State.bay_setPlane (s : State) (p : Nat) (v : Plane) (a : Nat) : (s.setPlane p v).bay a = s.bay a := rfl
@[simp] theorem State.seat_setPlane (s : State) (p : Nat) (v : Plane) (a : Nat) : (s.setPlane p v).seat a = s.seat a := rfl
@[simp] theorem State.dma_setPlane (s : State) (p : Nat) (v : Plane) (a : Nat) : (s.setPlane p v).dma a = s.dma a := rfl
@[simp] theorem State.fn_setPlane (s : State) (p : Nat) (v : Plane) (a : Nat) : (s.setPlane p v).fn a = s.fn a := rfl
@[simp] theorem State.coreIn_setPlane (s : State) (p : Nat) (v : Plane) (a : Nat) : (s.setPlane p v).coreIn a = s.coreIn a := rfl
@[simp] theorem State.coreOut_setPlane (s : State) (p : Nat) (v : Plane) (a : Nat) : (s.setPlane p v).coreOut a = s.coreOut a := rfl

/-! emit -/

@[simp] theorem State.emit_regs (s : State) (o : Out) : (s.emit o).regs = s.regs := rfl
@[simp] theorem State.emit_free (s : State) (o : Out) : (s.emit o).free = s.free := rfl
@[simp] theorem State.emit_latches (s : State) (o : Out) : (s.emit o).latches = s.latches := rfl
@[simp] theorem State.emit_fns (s : State) (o : Out) : (s.emit o).fns = s.fns := rfl
@[simp] theorem State.emit_eng (s : State) (o : Out) : (s.emit o).eng = s.eng := rfl
@[simp] theorem State.emit_flt (s : State) (o : Out) : (s.emit o).flt = s.flt := rfl
@[simp] theorem State.emit_noc (s : State) (o : Out) : (s.emit o).noc = s.noc := rfl
@[simp] theorem State.emit_ports (s : State) (o : Out) : (s.emit o).ports = s.ports := rfl
@[simp] theorem State.emit_slices (s : State) (o : Out) : (s.emit o).slices = s.slices := rfl
@[simp] theorem State.emit_halves (s : State) (o : Out) : (s.emit o).halves = s.halves := rfl
@[simp] theorem State.emit_lanes (s : State) (o : Out) : (s.emit o).lanes = s.lanes := rfl
@[simp] theorem State.emit_core (s : State) (o : Out) : (s.emit o).core = s.core := rfl
@[simp] theorem State.emit_tm (s : State) (o : Out) : (s.emit o).tm = s.tm := rfl
@[simp] theorem State.emit_fab (s : State) (o : Out) : (s.emit o).fab = s.fab := rfl
@[simp] theorem State.emit_eid (s : State) (o : Out) : (s.emit o).eid = s.eid := rfl
@[simp] theorem State.emit_marks (s : State) (o : Out) : (s.emit o).marks = s.marks := rfl
@[simp] theorem State.emit_pmc (s : State) (o : Out) : (s.emit o).pmc = s.pmc := rfl
@[simp] theorem State.emit_hsfs (s : State) (o : Out) : (s.emit o).hsfs = s.hsfs := rfl
@[simp] theorem State.emit_bays (s : State) (o : Out) : (s.emit o).bays = s.bays := rfl
@[simp] theorem State.emit_chip (s : State) (o : Out) : (s.emit o).chip = s.chip := rfl
@[simp] theorem State.rd_emit (s : State) (o : Out) (a : RKey) : (s.emit o).rd a = s.rd a := rfl
@[simp] theorem State.fld_emit (s : State) (o : Out) (a : Fld) (a1 a2 : Nat) : (s.emit o).fld a a1 a2 = s.fld a a1 a2 := rfl
@[simp] theorem State.flag_emit (s : State) (o : Out) (a : Fld) (a1 a2 : Nat) : (s.emit o).flag a a1 a2 = s.flag a a1 a2 := rfl
@[simp] theorem State.port_emit (s : State) (o : Out) (a : Nat) : (s.emit o).port a = s.port a := rfl
@[simp] theorem State.slice_emit (s : State) (o : Out) (a : Nat) : (s.emit o).slice a = s.slice a := rfl
@[simp] theorem State.half_emit (s : State) (o : Out) (a : Nat) : (s.emit o).half a = s.half a := rfl
@[simp] theorem State.lane_emit (s : State) (o : Out) (a : Nat) : (s.emit o).lane a = s.lane a := rfl
@[simp] theorem State.hsf_emit (s : State) (o : Out) (a : Nat) : (s.emit o).hsf a = s.hsf a := rfl
@[simp] theorem State.bay_emit (s : State) (o : Out) (a : Nat) : (s.emit o).bay a = s.bay a := rfl
@[simp] theorem State.seat_emit (s : State) (o : Out) (a : Nat) : (s.emit o).seat a = s.seat a := rfl
@[simp] theorem State.dma_emit (s : State) (o : Out) (a : Nat) : (s.emit o).dma a = s.dma a := rfl
@[simp] theorem State.fn_emit (s : State) (o : Out) (a : Nat) : (s.emit o).fn a = s.fn a := rfl
@[simp] theorem State.coreIn_emit (s : State) (o : Out) (a : Nat) : (s.emit o).coreIn a = s.coreIn a := rfl
@[simp] theorem State.coreOut_emit (s : State) (o : Out) (a : Nat) : (s.emit o).coreOut a = s.coreOut a := rfl
@[simp] theorem State.plane_emit (s : State) (o : Out) (a : Nat) : (s.emit o).plane a = s.plane a := rfl

/-! report -/

@[simp] theorem State.report_regs (s : State) (n : Nat) : (s.report n).regs = s.regs := rfl
@[simp] theorem State.report_out (s : State) (n : Nat) : (s.report n).out = s.out := rfl
@[simp] theorem State.report_free (s : State) (n : Nat) : (s.report n).free = s.free := rfl
@[simp] theorem State.report_latches (s : State) (n : Nat) : (s.report n).latches = s.latches := rfl
@[simp] theorem State.report_fns (s : State) (n : Nat) : (s.report n).fns = s.fns := rfl
@[simp] theorem State.report_eng (s : State) (n : Nat) : (s.report n).eng = s.eng := rfl
@[simp] theorem State.report_noc (s : State) (n : Nat) : (s.report n).noc = s.noc := rfl
@[simp] theorem State.report_ports (s : State) (n : Nat) : (s.report n).ports = s.ports := rfl
@[simp] theorem State.report_slices (s : State) (n : Nat) : (s.report n).slices = s.slices := rfl
@[simp] theorem State.report_halves (s : State) (n : Nat) : (s.report n).halves = s.halves := rfl
@[simp] theorem State.report_lanes (s : State) (n : Nat) : (s.report n).lanes = s.lanes := rfl
@[simp] theorem State.report_core (s : State) (n : Nat) : (s.report n).core = s.core := rfl
@[simp] theorem State.report_tm (s : State) (n : Nat) : (s.report n).tm = s.tm := rfl
@[simp] theorem State.report_fab (s : State) (n : Nat) : (s.report n).fab = s.fab := rfl
@[simp] theorem State.report_eid (s : State) (n : Nat) : (s.report n).eid = s.eid := rfl
@[simp] theorem State.report_marks (s : State) (n : Nat) : (s.report n).marks = s.marks := rfl
@[simp] theorem State.report_pmc (s : State) (n : Nat) : (s.report n).pmc = s.pmc := rfl
@[simp] theorem State.report_hsfs (s : State) (n : Nat) : (s.report n).hsfs = s.hsfs := rfl
@[simp] theorem State.report_bays (s : State) (n : Nat) : (s.report n).bays = s.bays := rfl
@[simp] theorem State.report_chip (s : State) (n : Nat) : (s.report n).chip = s.chip := rfl
@[simp] theorem State.rd_report (s : State) (n : Nat) (a : RKey) : (s.report n).rd a = s.rd a := rfl
@[simp] theorem State.fld_report (s : State) (n : Nat) (a : Fld) (a1 a2 : Nat) : (s.report n).fld a a1 a2 = s.fld a a1 a2 := rfl
@[simp] theorem State.flag_report (s : State) (n : Nat) (a : Fld) (a1 a2 : Nat) : (s.report n).flag a a1 a2 = s.flag a a1 a2 := rfl
@[simp] theorem State.port_report (s : State) (n : Nat) (a : Nat) : (s.report n).port a = s.port a := rfl
@[simp] theorem State.slice_report (s : State) (n : Nat) (a : Nat) : (s.report n).slice a = s.slice a := rfl
@[simp] theorem State.half_report (s : State) (n : Nat) (a : Nat) : (s.report n).half a = s.half a := rfl
@[simp] theorem State.lane_report (s : State) (n : Nat) (a : Nat) : (s.report n).lane a = s.lane a := rfl
@[simp] theorem State.hsf_report (s : State) (n : Nat) (a : Nat) : (s.report n).hsf a = s.hsf a := rfl
@[simp] theorem State.bay_report (s : State) (n : Nat) (a : Nat) : (s.report n).bay a = s.bay a := rfl
@[simp] theorem State.seat_report (s : State) (n : Nat) (a : Nat) : (s.report n).seat a = s.seat a := rfl
@[simp] theorem State.dma_report (s : State) (n : Nat) (a : Nat) : (s.report n).dma a = s.dma a := rfl
@[simp] theorem State.fn_report (s : State) (n : Nat) (a : Nat) : (s.report n).fn a = s.fn a := rfl
@[simp] theorem State.coreIn_report (s : State) (n : Nat) (a : Nat) : (s.report n).coreIn a = s.coreIn a := rfl
@[simp] theorem State.coreOut_report (s : State) (n : Nat) (a : Nat) : (s.report n).coreOut a = s.coreOut a := rfl
@[simp] theorem State.plane_report (s : State) (n : Nat) (a : Nat) : (s.report n).plane a = s.plane a := rfl

/-! causeFence -/

@[simp] theorem State.causeFence_regs (s : State) (x : FenceReq) : (s.causeFence x).regs = s.regs := rfl
@[simp] theorem State.causeFence_out (s : State) (x : FenceReq) : (s.causeFence x).out = s.out := rfl
@[simp] theorem State.causeFence_free (s : State) (x : FenceReq) : (s.causeFence x).free = s.free := rfl
@[simp] theorem State.causeFence_latches (s : State) (x : FenceReq) : (s.causeFence x).latches = s.latches := rfl
@[simp] theorem State.causeFence_fns (s : State) (x : FenceReq) : (s.causeFence x).fns = s.fns := rfl
@[simp] theorem State.causeFence_eng (s : State) (x : FenceReq) : (s.causeFence x).eng = s.eng := rfl
@[simp] theorem State.causeFence_noc (s : State) (x : FenceReq) : (s.causeFence x).noc = s.noc := rfl
@[simp] theorem State.causeFence_ports (s : State) (x : FenceReq) : (s.causeFence x).ports = s.ports := rfl
@[simp] theorem State.causeFence_slices (s : State) (x : FenceReq) : (s.causeFence x).slices = s.slices := rfl
@[simp] theorem State.causeFence_halves (s : State) (x : FenceReq) : (s.causeFence x).halves = s.halves := rfl
@[simp] theorem State.causeFence_lanes (s : State) (x : FenceReq) : (s.causeFence x).lanes = s.lanes := rfl
@[simp] theorem State.causeFence_core (s : State) (x : FenceReq) : (s.causeFence x).core = s.core := rfl
@[simp] theorem State.causeFence_tm (s : State) (x : FenceReq) : (s.causeFence x).tm = s.tm := rfl
@[simp] theorem State.causeFence_fab (s : State) (x : FenceReq) : (s.causeFence x).fab = s.fab := rfl
@[simp] theorem State.causeFence_eid (s : State) (x : FenceReq) : (s.causeFence x).eid = s.eid := rfl
@[simp] theorem State.causeFence_marks (s : State) (x : FenceReq) : (s.causeFence x).marks = s.marks := rfl
@[simp] theorem State.causeFence_pmc (s : State) (x : FenceReq) : (s.causeFence x).pmc = s.pmc := rfl
@[simp] theorem State.causeFence_hsfs (s : State) (x : FenceReq) : (s.causeFence x).hsfs = s.hsfs := rfl
@[simp] theorem State.causeFence_bays (s : State) (x : FenceReq) : (s.causeFence x).bays = s.bays := rfl
@[simp] theorem State.causeFence_chip (s : State) (x : FenceReq) : (s.causeFence x).chip = s.chip := rfl
@[simp] theorem State.rd_causeFence (s : State) (x : FenceReq) (a : RKey) : (s.causeFence x).rd a = s.rd a := rfl
@[simp] theorem State.fld_causeFence (s : State) (x : FenceReq) (a : Fld) (a1 a2 : Nat) : (s.causeFence x).fld a a1 a2 = s.fld a a1 a2 := rfl
@[simp] theorem State.flag_causeFence (s : State) (x : FenceReq) (a : Fld) (a1 a2 : Nat) : (s.causeFence x).flag a a1 a2 = s.flag a a1 a2 := rfl
@[simp] theorem State.port_causeFence (s : State) (x : FenceReq) (a : Nat) : (s.causeFence x).port a = s.port a := rfl
@[simp] theorem State.slice_causeFence (s : State) (x : FenceReq) (a : Nat) : (s.causeFence x).slice a = s.slice a := rfl
@[simp] theorem State.half_causeFence (s : State) (x : FenceReq) (a : Nat) : (s.causeFence x).half a = s.half a := rfl
@[simp] theorem State.lane_causeFence (s : State) (x : FenceReq) (a : Nat) : (s.causeFence x).lane a = s.lane a := rfl
@[simp] theorem State.hsf_causeFence (s : State) (x : FenceReq) (a : Nat) : (s.causeFence x).hsf a = s.hsf a := rfl
@[simp] theorem State.bay_causeFence (s : State) (x : FenceReq) (a : Nat) : (s.causeFence x).bay a = s.bay a := rfl
@[simp] theorem State.seat_causeFence (s : State) (x : FenceReq) (a : Nat) : (s.causeFence x).seat a = s.seat a := rfl
@[simp] theorem State.dma_causeFence (s : State) (x : FenceReq) (a : Nat) : (s.causeFence x).dma a = s.dma a := rfl
@[simp] theorem State.fn_causeFence (s : State) (x : FenceReq) (a : Nat) : (s.causeFence x).fn a = s.fn a := rfl
@[simp] theorem State.coreIn_causeFence (s : State) (x : FenceReq) (a : Nat) : (s.causeFence x).coreIn a = s.coreIn a := rfl
@[simp] theorem State.coreOut_causeFence (s : State) (x : FenceReq) (a : Nat) : (s.causeFence x).coreOut a = s.coreOut a := rfl
@[simp] theorem State.plane_causeFence (s : State) (x : FenceReq) (a : Nat) : (s.causeFence x).plane a = s.plane a := rfl

/-! modPort -/

@[simp] theorem State.modPort_regs (s : State) (p : Nat) (g : Port → Port) : (s.modPort p g).regs = s.regs := rfl
@[simp] theorem State.modPort_out (s : State) (p : Nat) (g : Port → Port) : (s.modPort p g).out = s.out := rfl
@[simp] theorem State.modPort_free (s : State) (p : Nat) (g : Port → Port) : (s.modPort p g).free = s.free := rfl
@[simp] theorem State.modPort_latches (s : State) (p : Nat) (g : Port → Port) : (s.modPort p g).latches = s.latches := rfl
@[simp] theorem State.modPort_fns (s : State) (p : Nat) (g : Port → Port) : (s.modPort p g).fns = s.fns := rfl
@[simp] theorem State.modPort_eng (s : State) (p : Nat) (g : Port → Port) : (s.modPort p g).eng = s.eng := rfl
@[simp] theorem State.modPort_flt (s : State) (p : Nat) (g : Port → Port) : (s.modPort p g).flt = s.flt := rfl
@[simp] theorem State.modPort_noc (s : State) (p : Nat) (g : Port → Port) : (s.modPort p g).noc = s.noc := rfl
@[simp] theorem State.modPort_slices (s : State) (p : Nat) (g : Port → Port) : (s.modPort p g).slices = s.slices := rfl
@[simp] theorem State.modPort_halves (s : State) (p : Nat) (g : Port → Port) : (s.modPort p g).halves = s.halves := rfl
@[simp] theorem State.modPort_lanes (s : State) (p : Nat) (g : Port → Port) : (s.modPort p g).lanes = s.lanes := rfl
@[simp] theorem State.modPort_core (s : State) (p : Nat) (g : Port → Port) : (s.modPort p g).core = s.core := rfl
@[simp] theorem State.modPort_tm (s : State) (p : Nat) (g : Port → Port) : (s.modPort p g).tm = s.tm := rfl
@[simp] theorem State.modPort_fab (s : State) (p : Nat) (g : Port → Port) : (s.modPort p g).fab = s.fab := rfl
@[simp] theorem State.modPort_eid (s : State) (p : Nat) (g : Port → Port) : (s.modPort p g).eid = s.eid := rfl
@[simp] theorem State.modPort_marks (s : State) (p : Nat) (g : Port → Port) : (s.modPort p g).marks = s.marks := rfl
@[simp] theorem State.modPort_pmc (s : State) (p : Nat) (g : Port → Port) : (s.modPort p g).pmc = s.pmc := rfl
@[simp] theorem State.modPort_hsfs (s : State) (p : Nat) (g : Port → Port) : (s.modPort p g).hsfs = s.hsfs := rfl
@[simp] theorem State.modPort_bays (s : State) (p : Nat) (g : Port → Port) : (s.modPort p g).bays = s.bays := rfl
@[simp] theorem State.modPort_chip (s : State) (p : Nat) (g : Port → Port) : (s.modPort p g).chip = s.chip := rfl
@[simp] theorem State.rd_modPort (s : State) (p : Nat) (g : Port → Port) (a : RKey) : (s.modPort p g).rd a = s.rd a := rfl
@[simp] theorem State.fld_modPort (s : State) (p : Nat) (g : Port → Port) (a : Fld) (a1 a2 : Nat) : (s.modPort p g).fld a a1 a2 = s.fld a a1 a2 := rfl
@[simp] theorem State.flag_modPort (s : State) (p : Nat) (g : Port → Port) (a : Fld) (a1 a2 : Nat) : (s.modPort p g).flag a a1 a2 = s.flag a a1 a2 := rfl
@[simp] theorem State.slice_modPort (s : State) (p : Nat) (g : Port → Port) (a : Nat) : (s.modPort p g).slice a = s.slice a := rfl
@[simp] theorem State.half_modPort (s : State) (p : Nat) (g : Port → Port) (a : Nat) : (s.modPort p g).half a = s.half a := rfl
@[simp] theorem State.lane_modPort (s : State) (p : Nat) (g : Port → Port) (a : Nat) : (s.modPort p g).lane a = s.lane a := rfl
@[simp] theorem State.hsf_modPort (s : State) (p : Nat) (g : Port → Port) (a : Nat) : (s.modPort p g).hsf a = s.hsf a := rfl
@[simp] theorem State.bay_modPort (s : State) (p : Nat) (g : Port → Port) (a : Nat) : (s.modPort p g).bay a = s.bay a := rfl
@[simp] theorem State.seat_modPort (s : State) (p : Nat) (g : Port → Port) (a : Nat) : (s.modPort p g).seat a = s.seat a := rfl
@[simp] theorem State.dma_modPort (s : State) (p : Nat) (g : Port → Port) (a : Nat) : (s.modPort p g).dma a = s.dma a := rfl
@[simp] theorem State.fn_modPort (s : State) (p : Nat) (g : Port → Port) (a : Nat) : (s.modPort p g).fn a = s.fn a := rfl
@[simp] theorem State.coreIn_modPort (s : State) (p : Nat) (g : Port → Port) (a : Nat) : (s.modPort p g).coreIn a = s.coreIn a := rfl
@[simp] theorem State.coreOut_modPort (s : State) (p : Nat) (g : Port → Port) (a : Nat) : (s.modPort p g).coreOut a = s.coreOut a := rfl
@[simp] theorem State.plane_modPort (s : State) (p : Nat) (g : Port → Port) (a : Nat) : (s.modPort p g).plane a = s.plane a := rfl

/-! modSlice -/

@[simp] theorem State.modSlice_regs (s : State) (d : Nat) (g : Slice → Slice) : (s.modSlice d g).regs = s.regs := rfl
@[simp] theorem State.modSlice_out (s : State) (d : Nat) (g : Slice → Slice) : (s.modSlice d g).out = s.out := rfl
@[simp] theorem State.modSlice_free (s : State) (d : Nat) (g : Slice → Slice) : (s.modSlice d g).free = s.free := rfl
@[simp] theorem State.modSlice_latches (s : State) (d : Nat) (g : Slice → Slice) : (s.modSlice d g).latches = s.latches := rfl
@[simp] theorem State.modSlice_fns (s : State) (d : Nat) (g : Slice → Slice) : (s.modSlice d g).fns = s.fns := rfl
@[simp] theorem State.modSlice_eng (s : State) (d : Nat) (g : Slice → Slice) : (s.modSlice d g).eng = s.eng := rfl
@[simp] theorem State.modSlice_flt (s : State) (d : Nat) (g : Slice → Slice) : (s.modSlice d g).flt = s.flt := rfl
@[simp] theorem State.modSlice_noc (s : State) (d : Nat) (g : Slice → Slice) : (s.modSlice d g).noc = s.noc := rfl
@[simp] theorem State.modSlice_ports (s : State) (d : Nat) (g : Slice → Slice) : (s.modSlice d g).ports = s.ports := rfl
@[simp] theorem State.modSlice_halves (s : State) (d : Nat) (g : Slice → Slice) : (s.modSlice d g).halves = s.halves := rfl
@[simp] theorem State.modSlice_lanes (s : State) (d : Nat) (g : Slice → Slice) : (s.modSlice d g).lanes = s.lanes := rfl
@[simp] theorem State.modSlice_core (s : State) (d : Nat) (g : Slice → Slice) : (s.modSlice d g).core = s.core := rfl
@[simp] theorem State.modSlice_tm (s : State) (d : Nat) (g : Slice → Slice) : (s.modSlice d g).tm = s.tm := rfl
@[simp] theorem State.modSlice_fab (s : State) (d : Nat) (g : Slice → Slice) : (s.modSlice d g).fab = s.fab := rfl
@[simp] theorem State.modSlice_eid (s : State) (d : Nat) (g : Slice → Slice) : (s.modSlice d g).eid = s.eid := rfl
@[simp] theorem State.modSlice_marks (s : State) (d : Nat) (g : Slice → Slice) : (s.modSlice d g).marks = s.marks := rfl
@[simp] theorem State.modSlice_pmc (s : State) (d : Nat) (g : Slice → Slice) : (s.modSlice d g).pmc = s.pmc := rfl
@[simp] theorem State.modSlice_hsfs (s : State) (d : Nat) (g : Slice → Slice) : (s.modSlice d g).hsfs = s.hsfs := rfl
@[simp] theorem State.modSlice_bays (s : State) (d : Nat) (g : Slice → Slice) : (s.modSlice d g).bays = s.bays := rfl
@[simp] theorem State.modSlice_chip (s : State) (d : Nat) (g : Slice → Slice) : (s.modSlice d g).chip = s.chip := rfl
@[simp] theorem State.rd_modSlice (s : State) (d : Nat) (g : Slice → Slice) (a : RKey) : (s.modSlice d g).rd a = s.rd a := rfl
@[simp] theorem State.fld_modSlice (s : State) (d : Nat) (g : Slice → Slice) (a : Fld) (a1 a2 : Nat) : (s.modSlice d g).fld a a1 a2 = s.fld a a1 a2 := rfl
@[simp] theorem State.flag_modSlice (s : State) (d : Nat) (g : Slice → Slice) (a : Fld) (a1 a2 : Nat) : (s.modSlice d g).flag a a1 a2 = s.flag a a1 a2 := rfl
@[simp] theorem State.port_modSlice (s : State) (d : Nat) (g : Slice → Slice) (a : Nat) : (s.modSlice d g).port a = s.port a := rfl
@[simp] theorem State.half_modSlice (s : State) (d : Nat) (g : Slice → Slice) (a : Nat) : (s.modSlice d g).half a = s.half a := rfl
@[simp] theorem State.lane_modSlice (s : State) (d : Nat) (g : Slice → Slice) (a : Nat) : (s.modSlice d g).lane a = s.lane a := rfl
@[simp] theorem State.hsf_modSlice (s : State) (d : Nat) (g : Slice → Slice) (a : Nat) : (s.modSlice d g).hsf a = s.hsf a := rfl
@[simp] theorem State.bay_modSlice (s : State) (d : Nat) (g : Slice → Slice) (a : Nat) : (s.modSlice d g).bay a = s.bay a := rfl
@[simp] theorem State.seat_modSlice (s : State) (d : Nat) (g : Slice → Slice) (a : Nat) : (s.modSlice d g).seat a = s.seat a := rfl
@[simp] theorem State.dma_modSlice (s : State) (d : Nat) (g : Slice → Slice) (a : Nat) : (s.modSlice d g).dma a = s.dma a := rfl
@[simp] theorem State.fn_modSlice (s : State) (d : Nat) (g : Slice → Slice) (a : Nat) : (s.modSlice d g).fn a = s.fn a := rfl
@[simp] theorem State.coreIn_modSlice (s : State) (d : Nat) (g : Slice → Slice) (a : Nat) : (s.modSlice d g).coreIn a = s.coreIn a := rfl
@[simp] theorem State.coreOut_modSlice (s : State) (d : Nat) (g : Slice → Slice) (a : Nat) : (s.modSlice d g).coreOut a = s.coreOut a := rfl
@[simp] theorem State.plane_modSlice (s : State) (d : Nat) (g : Slice → Slice) (a : Nat) : (s.modSlice d g).plane a = s.plane a := rfl

/-! modHalf -/

@[simp] theorem State.modHalf_regs (s : State) (i : Nat) (g : Half → Half) : (s.modHalf i g).regs = s.regs := rfl
@[simp] theorem State.modHalf_out (s : State) (i : Nat) (g : Half → Half) : (s.modHalf i g).out = s.out := rfl
@[simp] theorem State.modHalf_free (s : State) (i : Nat) (g : Half → Half) : (s.modHalf i g).free = s.free := rfl
@[simp] theorem State.modHalf_latches (s : State) (i : Nat) (g : Half → Half) : (s.modHalf i g).latches = s.latches := rfl
@[simp] theorem State.modHalf_fns (s : State) (i : Nat) (g : Half → Half) : (s.modHalf i g).fns = s.fns := rfl
@[simp] theorem State.modHalf_eng (s : State) (i : Nat) (g : Half → Half) : (s.modHalf i g).eng = s.eng := rfl
@[simp] theorem State.modHalf_flt (s : State) (i : Nat) (g : Half → Half) : (s.modHalf i g).flt = s.flt := rfl
@[simp] theorem State.modHalf_noc (s : State) (i : Nat) (g : Half → Half) : (s.modHalf i g).noc = s.noc := rfl
@[simp] theorem State.modHalf_ports (s : State) (i : Nat) (g : Half → Half) : (s.modHalf i g).ports = s.ports := rfl
@[simp] theorem State.modHalf_slices (s : State) (i : Nat) (g : Half → Half) : (s.modHalf i g).slices = s.slices := rfl
@[simp] theorem State.modHalf_lanes (s : State) (i : Nat) (g : Half → Half) : (s.modHalf i g).lanes = s.lanes := rfl
@[simp] theorem State.modHalf_core (s : State) (i : Nat) (g : Half → Half) : (s.modHalf i g).core = s.core := rfl
@[simp] theorem State.modHalf_tm (s : State) (i : Nat) (g : Half → Half) : (s.modHalf i g).tm = s.tm := rfl
@[simp] theorem State.modHalf_fab (s : State) (i : Nat) (g : Half → Half) : (s.modHalf i g).fab = s.fab := rfl
@[simp] theorem State.modHalf_eid (s : State) (i : Nat) (g : Half → Half) : (s.modHalf i g).eid = s.eid := rfl
@[simp] theorem State.modHalf_marks (s : State) (i : Nat) (g : Half → Half) : (s.modHalf i g).marks = s.marks := rfl
@[simp] theorem State.modHalf_pmc (s : State) (i : Nat) (g : Half → Half) : (s.modHalf i g).pmc = s.pmc := rfl
@[simp] theorem State.modHalf_hsfs (s : State) (i : Nat) (g : Half → Half) : (s.modHalf i g).hsfs = s.hsfs := rfl
@[simp] theorem State.modHalf_bays (s : State) (i : Nat) (g : Half → Half) : (s.modHalf i g).bays = s.bays := rfl
@[simp] theorem State.modHalf_chip (s : State) (i : Nat) (g : Half → Half) : (s.modHalf i g).chip = s.chip := rfl
@[simp] theorem State.rd_modHalf (s : State) (i : Nat) (g : Half → Half) (a : RKey) : (s.modHalf i g).rd a = s.rd a := rfl
@[simp] theorem State.fld_modHalf (s : State) (i : Nat) (g : Half → Half) (a : Fld) (a1 a2 : Nat) : (s.modHalf i g).fld a a1 a2 = s.fld a a1 a2 := rfl
@[simp] theorem State.flag_modHalf (s : State) (i : Nat) (g : Half → Half) (a : Fld) (a1 a2 : Nat) : (s.modHalf i g).flag a a1 a2 = s.flag a a1 a2 := rfl
@[simp] theorem State.port_modHalf (s : State) (i : Nat) (g : Half → Half) (a : Nat) : (s.modHalf i g).port a = s.port a := rfl
@[simp] theorem State.slice_modHalf (s : State) (i : Nat) (g : Half → Half) (a : Nat) : (s.modHalf i g).slice a = s.slice a := rfl
@[simp] theorem State.lane_modHalf (s : State) (i : Nat) (g : Half → Half) (a : Nat) : (s.modHalf i g).lane a = s.lane a := rfl
@[simp] theorem State.hsf_modHalf (s : State) (i : Nat) (g : Half → Half) (a : Nat) : (s.modHalf i g).hsf a = s.hsf a := rfl
@[simp] theorem State.bay_modHalf (s : State) (i : Nat) (g : Half → Half) (a : Nat) : (s.modHalf i g).bay a = s.bay a := rfl
@[simp] theorem State.seat_modHalf (s : State) (i : Nat) (g : Half → Half) (a : Nat) : (s.modHalf i g).seat a = s.seat a := rfl
@[simp] theorem State.dma_modHalf (s : State) (i : Nat) (g : Half → Half) (a : Nat) : (s.modHalf i g).dma a = s.dma a := rfl
@[simp] theorem State.fn_modHalf (s : State) (i : Nat) (g : Half → Half) (a : Nat) : (s.modHalf i g).fn a = s.fn a := rfl
@[simp] theorem State.coreIn_modHalf (s : State) (i : Nat) (g : Half → Half) (a : Nat) : (s.modHalf i g).coreIn a = s.coreIn a := rfl
@[simp] theorem State.coreOut_modHalf (s : State) (i : Nat) (g : Half → Half) (a : Nat) : (s.modHalf i g).coreOut a = s.coreOut a := rfl
@[simp] theorem State.plane_modHalf (s : State) (i : Nat) (g : Half → Half) (a : Nat) : (s.modHalf i g).plane a = s.plane a := rfl

/-! modLane -/

@[simp] theorem State.modLane_regs (s : State) (n : Nat) (g : LaneSt → LaneSt) : (s.modLane n g).regs = s.regs := rfl
@[simp] theorem State.modLane_out (s : State) (n : Nat) (g : LaneSt → LaneSt) : (s.modLane n g).out = s.out := rfl
@[simp] theorem State.modLane_free (s : State) (n : Nat) (g : LaneSt → LaneSt) : (s.modLane n g).free = s.free := rfl
@[simp] theorem State.modLane_latches (s : State) (n : Nat) (g : LaneSt → LaneSt) : (s.modLane n g).latches = s.latches := rfl
@[simp] theorem State.modLane_fns (s : State) (n : Nat) (g : LaneSt → LaneSt) : (s.modLane n g).fns = s.fns := rfl
@[simp] theorem State.modLane_eng (s : State) (n : Nat) (g : LaneSt → LaneSt) : (s.modLane n g).eng = s.eng := rfl
@[simp] theorem State.modLane_flt (s : State) (n : Nat) (g : LaneSt → LaneSt) : (s.modLane n g).flt = s.flt := rfl
@[simp] theorem State.modLane_noc (s : State) (n : Nat) (g : LaneSt → LaneSt) : (s.modLane n g).noc = s.noc := rfl
@[simp] theorem State.modLane_ports (s : State) (n : Nat) (g : LaneSt → LaneSt) : (s.modLane n g).ports = s.ports := rfl
@[simp] theorem State.modLane_slices (s : State) (n : Nat) (g : LaneSt → LaneSt) : (s.modLane n g).slices = s.slices := rfl
@[simp] theorem State.modLane_halves (s : State) (n : Nat) (g : LaneSt → LaneSt) : (s.modLane n g).halves = s.halves := rfl
@[simp] theorem State.modLane_core (s : State) (n : Nat) (g : LaneSt → LaneSt) : (s.modLane n g).core = s.core := rfl
@[simp] theorem State.modLane_tm (s : State) (n : Nat) (g : LaneSt → LaneSt) : (s.modLane n g).tm = s.tm := rfl
@[simp] theorem State.modLane_fab (s : State) (n : Nat) (g : LaneSt → LaneSt) : (s.modLane n g).fab = s.fab := rfl
@[simp] theorem State.modLane_eid (s : State) (n : Nat) (g : LaneSt → LaneSt) : (s.modLane n g).eid = s.eid := rfl
@[simp] theorem State.modLane_marks (s : State) (n : Nat) (g : LaneSt → LaneSt) : (s.modLane n g).marks = s.marks := rfl
@[simp] theorem State.modLane_pmc (s : State) (n : Nat) (g : LaneSt → LaneSt) : (s.modLane n g).pmc = s.pmc := rfl
@[simp] theorem State.modLane_hsfs (s : State) (n : Nat) (g : LaneSt → LaneSt) : (s.modLane n g).hsfs = s.hsfs := rfl
@[simp] theorem State.modLane_bays (s : State) (n : Nat) (g : LaneSt → LaneSt) : (s.modLane n g).bays = s.bays := rfl
@[simp] theorem State.modLane_chip (s : State) (n : Nat) (g : LaneSt → LaneSt) : (s.modLane n g).chip = s.chip := rfl
@[simp] theorem State.rd_modLane (s : State) (n : Nat) (g : LaneSt → LaneSt) (a : RKey) : (s.modLane n g).rd a = s.rd a := rfl
@[simp] theorem State.fld_modLane (s : State) (n : Nat) (g : LaneSt → LaneSt) (a : Fld) (a1 a2 : Nat) : (s.modLane n g).fld a a1 a2 = s.fld a a1 a2 := rfl
@[simp] theorem State.flag_modLane (s : State) (n : Nat) (g : LaneSt → LaneSt) (a : Fld) (a1 a2 : Nat) : (s.modLane n g).flag a a1 a2 = s.flag a a1 a2 := rfl
@[simp] theorem State.port_modLane (s : State) (n : Nat) (g : LaneSt → LaneSt) (a : Nat) : (s.modLane n g).port a = s.port a := rfl
@[simp] theorem State.slice_modLane (s : State) (n : Nat) (g : LaneSt → LaneSt) (a : Nat) : (s.modLane n g).slice a = s.slice a := rfl
@[simp] theorem State.half_modLane (s : State) (n : Nat) (g : LaneSt → LaneSt) (a : Nat) : (s.modLane n g).half a = s.half a := rfl
@[simp] theorem State.hsf_modLane (s : State) (n : Nat) (g : LaneSt → LaneSt) (a : Nat) : (s.modLane n g).hsf a = s.hsf a := rfl
@[simp] theorem State.bay_modLane (s : State) (n : Nat) (g : LaneSt → LaneSt) (a : Nat) : (s.modLane n g).bay a = s.bay a := rfl
@[simp] theorem State.seat_modLane (s : State) (n : Nat) (g : LaneSt → LaneSt) (a : Nat) : (s.modLane n g).seat a = s.seat a := rfl
@[simp] theorem State.dma_modLane (s : State) (n : Nat) (g : LaneSt → LaneSt) (a : Nat) : (s.modLane n g).dma a = s.dma a := rfl
@[simp] theorem State.fn_modLane (s : State) (n : Nat) (g : LaneSt → LaneSt) (a : Nat) : (s.modLane n g).fn a = s.fn a := rfl
@[simp] theorem State.coreIn_modLane (s : State) (n : Nat) (g : LaneSt → LaneSt) (a : Nat) : (s.modLane n g).coreIn a = s.coreIn a := rfl
@[simp] theorem State.coreOut_modLane (s : State) (n : Nat) (g : LaneSt → LaneSt) (a : Nat) : (s.modLane n g).coreOut a = s.coreOut a := rfl
@[simp] theorem State.plane_modLane (s : State) (n : Nat) (g : LaneSt → LaneSt) (a : Nat) : (s.modLane n g).plane a = s.plane a := rfl

/-! modHsf -/

@[simp] theorem State.modHsf_regs (s : State) (p : Nat) (g : Hsf → Hsf) : (s.modHsf p g).regs = s.regs := rfl
@[simp] theorem State.modHsf_out (s : State) (p : Nat) (g : Hsf → Hsf) : (s.modHsf p g).out = s.out := rfl
@[simp] theorem State.modHsf_free (s : State) (p : Nat) (g : Hsf → Hsf) : (s.modHsf p g).free = s.free := rfl
@[simp] theorem State.modHsf_latches (s : State) (p : Nat) (g : Hsf → Hsf) : (s.modHsf p g).latches = s.latches := rfl
@[simp] theorem State.modHsf_fns (s : State) (p : Nat) (g : Hsf → Hsf) : (s.modHsf p g).fns = s.fns := rfl
@[simp] theorem State.modHsf_eng (s : State) (p : Nat) (g : Hsf → Hsf) : (s.modHsf p g).eng = s.eng := rfl
@[simp] theorem State.modHsf_flt (s : State) (p : Nat) (g : Hsf → Hsf) : (s.modHsf p g).flt = s.flt := rfl
@[simp] theorem State.modHsf_noc (s : State) (p : Nat) (g : Hsf → Hsf) : (s.modHsf p g).noc = s.noc := rfl
@[simp] theorem State.modHsf_ports (s : State) (p : Nat) (g : Hsf → Hsf) : (s.modHsf p g).ports = s.ports := rfl
@[simp] theorem State.modHsf_slices (s : State) (p : Nat) (g : Hsf → Hsf) : (s.modHsf p g).slices = s.slices := rfl
@[simp] theorem State.modHsf_halves (s : State) (p : Nat) (g : Hsf → Hsf) : (s.modHsf p g).halves = s.halves := rfl
@[simp] theorem State.modHsf_lanes (s : State) (p : Nat) (g : Hsf → Hsf) : (s.modHsf p g).lanes = s.lanes := rfl
@[simp] theorem State.modHsf_core (s : State) (p : Nat) (g : Hsf → Hsf) : (s.modHsf p g).core = s.core := rfl
@[simp] theorem State.modHsf_tm (s : State) (p : Nat) (g : Hsf → Hsf) : (s.modHsf p g).tm = s.tm := rfl
@[simp] theorem State.modHsf_fab (s : State) (p : Nat) (g : Hsf → Hsf) : (s.modHsf p g).fab = s.fab := rfl
@[simp] theorem State.modHsf_eid (s : State) (p : Nat) (g : Hsf → Hsf) : (s.modHsf p g).eid = s.eid := rfl
@[simp] theorem State.modHsf_marks (s : State) (p : Nat) (g : Hsf → Hsf) : (s.modHsf p g).marks = s.marks := rfl
@[simp] theorem State.modHsf_pmc (s : State) (p : Nat) (g : Hsf → Hsf) : (s.modHsf p g).pmc = s.pmc := rfl
@[simp] theorem State.modHsf_bays (s : State) (p : Nat) (g : Hsf → Hsf) : (s.modHsf p g).bays = s.bays := rfl
@[simp] theorem State.modHsf_chip (s : State) (p : Nat) (g : Hsf → Hsf) : (s.modHsf p g).chip = s.chip := rfl
@[simp] theorem State.rd_modHsf (s : State) (p : Nat) (g : Hsf → Hsf) (a : RKey) : (s.modHsf p g).rd a = s.rd a := rfl
@[simp] theorem State.fld_modHsf (s : State) (p : Nat) (g : Hsf → Hsf) (a : Fld) (a1 a2 : Nat) : (s.modHsf p g).fld a a1 a2 = s.fld a a1 a2 := rfl
@[simp] theorem State.flag_modHsf (s : State) (p : Nat) (g : Hsf → Hsf) (a : Fld) (a1 a2 : Nat) : (s.modHsf p g).flag a a1 a2 = s.flag a a1 a2 := rfl
@[simp] theorem State.port_modHsf (s : State) (p : Nat) (g : Hsf → Hsf) (a : Nat) : (s.modHsf p g).port a = s.port a := rfl
@[simp] theorem State.slice_modHsf (s : State) (p : Nat) (g : Hsf → Hsf) (a : Nat) : (s.modHsf p g).slice a = s.slice a := rfl
@[simp] theorem State.half_modHsf (s : State) (p : Nat) (g : Hsf → Hsf) (a : Nat) : (s.modHsf p g).half a = s.half a := rfl
@[simp] theorem State.lane_modHsf (s : State) (p : Nat) (g : Hsf → Hsf) (a : Nat) : (s.modHsf p g).lane a = s.lane a := rfl
@[simp] theorem State.bay_modHsf (s : State) (p : Nat) (g : Hsf → Hsf) (a : Nat) : (s.modHsf p g).bay a = s.bay a := rfl
@[simp] theorem State.seat_modHsf (s : State) (p : Nat) (g : Hsf → Hsf) (a : Nat) : (s.modHsf p g).seat a = s.seat a := rfl
@[simp] theorem State.dma_modHsf (s : State) (p : Nat) (g : Hsf → Hsf) (a : Nat) : (s.modHsf p g).dma a = s.dma a := rfl
@[simp] theorem State.fn_modHsf (s : State) (p : Nat) (g : Hsf → Hsf) (a : Nat) : (s.modHsf p g).fn a = s.fn a := rfl
@[simp] theorem State.coreIn_modHsf (s : State) (p : Nat) (g : Hsf → Hsf) (a : Nat) : (s.modHsf p g).coreIn a = s.coreIn a := rfl
@[simp] theorem State.coreOut_modHsf (s : State) (p : Nat) (g : Hsf → Hsf) (a : Nat) : (s.modHsf p g).coreOut a = s.coreOut a := rfl
@[simp] theorem State.plane_modHsf (s : State) (p : Nat) (g : Hsf → Hsf) (a : Nat) : (s.modHsf p g).plane a = s.plane a := rfl

/-! modBay -/

@[simp] theorem State.modBay_regs (s : State) (b : Nat) (g : Bay → Bay) : (s.modBay b g).regs = s.regs := rfl
@[simp] theorem State.modBay_out (s : State) (b : Nat) (g : Bay → Bay) : (s.modBay b g).out = s.out := rfl
@[simp] theorem State.modBay_free (s : State) (b : Nat) (g : Bay → Bay) : (s.modBay b g).free = s.free := rfl
@[simp] theorem State.modBay_latches (s : State) (b : Nat) (g : Bay → Bay) : (s.modBay b g).latches = s.latches := rfl
@[simp] theorem State.modBay_fns (s : State) (b : Nat) (g : Bay → Bay) : (s.modBay b g).fns = s.fns := rfl
@[simp] theorem State.modBay_eng (s : State) (b : Nat) (g : Bay → Bay) : (s.modBay b g).eng = s.eng := rfl
@[simp] theorem State.modBay_flt (s : State) (b : Nat) (g : Bay → Bay) : (s.modBay b g).flt = s.flt := rfl
@[simp] theorem State.modBay_noc (s : State) (b : Nat) (g : Bay → Bay) : (s.modBay b g).noc = s.noc := rfl
@[simp] theorem State.modBay_ports (s : State) (b : Nat) (g : Bay → Bay) : (s.modBay b g).ports = s.ports := rfl
@[simp] theorem State.modBay_slices (s : State) (b : Nat) (g : Bay → Bay) : (s.modBay b g).slices = s.slices := rfl
@[simp] theorem State.modBay_halves (s : State) (b : Nat) (g : Bay → Bay) : (s.modBay b g).halves = s.halves := rfl
@[simp] theorem State.modBay_lanes (s : State) (b : Nat) (g : Bay → Bay) : (s.modBay b g).lanes = s.lanes := rfl
@[simp] theorem State.modBay_core (s : State) (b : Nat) (g : Bay → Bay) : (s.modBay b g).core = s.core := rfl
@[simp] theorem State.modBay_tm (s : State) (b : Nat) (g : Bay → Bay) : (s.modBay b g).tm = s.tm := rfl
@[simp] theorem State.modBay_fab (s : State) (b : Nat) (g : Bay → Bay) : (s.modBay b g).fab = s.fab := rfl
@[simp] theorem State.modBay_eid (s : State) (b : Nat) (g : Bay → Bay) : (s.modBay b g).eid = s.eid := rfl
@[simp] theorem State.modBay_marks (s : State) (b : Nat) (g : Bay → Bay) : (s.modBay b g).marks = s.marks := rfl
@[simp] theorem State.modBay_pmc (s : State) (b : Nat) (g : Bay → Bay) : (s.modBay b g).pmc = s.pmc := rfl
@[simp] theorem State.modBay_hsfs (s : State) (b : Nat) (g : Bay → Bay) : (s.modBay b g).hsfs = s.hsfs := rfl
@[simp] theorem State.modBay_chip (s : State) (b : Nat) (g : Bay → Bay) : (s.modBay b g).chip = s.chip := rfl
@[simp] theorem State.rd_modBay (s : State) (b : Nat) (g : Bay → Bay) (a : RKey) : (s.modBay b g).rd a = s.rd a := rfl
@[simp] theorem State.fld_modBay (s : State) (b : Nat) (g : Bay → Bay) (a : Fld) (a1 a2 : Nat) : (s.modBay b g).fld a a1 a2 = s.fld a a1 a2 := rfl
@[simp] theorem State.flag_modBay (s : State) (b : Nat) (g : Bay → Bay) (a : Fld) (a1 a2 : Nat) : (s.modBay b g).flag a a1 a2 = s.flag a a1 a2 := rfl
@[simp] theorem State.port_modBay (s : State) (b : Nat) (g : Bay → Bay) (a : Nat) : (s.modBay b g).port a = s.port a := rfl
@[simp] theorem State.slice_modBay (s : State) (b : Nat) (g : Bay → Bay) (a : Nat) : (s.modBay b g).slice a = s.slice a := rfl
@[simp] theorem State.half_modBay (s : State) (b : Nat) (g : Bay → Bay) (a : Nat) : (s.modBay b g).half a = s.half a := rfl
@[simp] theorem State.lane_modBay (s : State) (b : Nat) (g : Bay → Bay) (a : Nat) : (s.modBay b g).lane a = s.lane a := rfl
@[simp] theorem State.hsf_modBay (s : State) (b : Nat) (g : Bay → Bay) (a : Nat) : (s.modBay b g).hsf a = s.hsf a := rfl
@[simp] theorem State.seat_modBay (s : State) (b : Nat) (g : Bay → Bay) (a : Nat) : (s.modBay b g).seat a = s.seat a := rfl
@[simp] theorem State.dma_modBay (s : State) (b : Nat) (g : Bay → Bay) (a : Nat) : (s.modBay b g).dma a = s.dma a := rfl
@[simp] theorem State.fn_modBay (s : State) (b : Nat) (g : Bay → Bay) (a : Nat) : (s.modBay b g).fn a = s.fn a := rfl
@[simp] theorem State.coreIn_modBay (s : State) (b : Nat) (g : Bay → Bay) (a : Nat) : (s.modBay b g).coreIn a = s.coreIn a := rfl
@[simp] theorem State.coreOut_modBay (s : State) (b : Nat) (g : Bay → Bay) (a : Nat) : (s.modBay b g).coreOut a = s.coreOut a := rfl
@[simp] theorem State.plane_modBay (s : State) (b : Nat) (g : Bay → Bay) (a : Nat) : (s.modBay b g).plane a = s.plane a := rfl

/-! modSeat -/

@[simp] theorem State.modSeat_regs (s : State) (n : Nat) (g : Seat → Seat) : (s.modSeat n g).regs = s.regs := rfl
@[simp] theorem State.modSeat_out (s : State) (n : Nat) (g : Seat → Seat) : (s.modSeat n g).out = s.out := rfl
@[simp] theorem State.modSeat_free (s : State) (n : Nat) (g : Seat → Seat) : (s.modSeat n g).free = s.free := rfl
@[simp] theorem State.modSeat_latches (s : State) (n : Nat) (g : Seat → Seat) : (s.modSeat n g).latches = s.latches := rfl
@[simp] theorem State.modSeat_fns (s : State) (n : Nat) (g : Seat → Seat) : (s.modSeat n g).fns = s.fns := rfl
@[simp] theorem State.modSeat_flt (s : State) (n : Nat) (g : Seat → Seat) : (s.modSeat n g).flt = s.flt := rfl
@[simp] theorem State.modSeat_noc (s : State) (n : Nat) (g : Seat → Seat) : (s.modSeat n g).noc = s.noc := rfl
@[simp] theorem State.modSeat_ports (s : State) (n : Nat) (g : Seat → Seat) : (s.modSeat n g).ports = s.ports := rfl
@[simp] theorem State.modSeat_slices (s : State) (n : Nat) (g : Seat → Seat) : (s.modSeat n g).slices = s.slices := rfl
@[simp] theorem State.modSeat_halves (s : State) (n : Nat) (g : Seat → Seat) : (s.modSeat n g).halves = s.halves := rfl
@[simp] theorem State.modSeat_lanes (s : State) (n : Nat) (g : Seat → Seat) : (s.modSeat n g).lanes = s.lanes := rfl
@[simp] theorem State.modSeat_core (s : State) (n : Nat) (g : Seat → Seat) : (s.modSeat n g).core = s.core := rfl
@[simp] theorem State.modSeat_tm (s : State) (n : Nat) (g : Seat → Seat) : (s.modSeat n g).tm = s.tm := rfl
@[simp] theorem State.modSeat_fab (s : State) (n : Nat) (g : Seat → Seat) : (s.modSeat n g).fab = s.fab := rfl
@[simp] theorem State.modSeat_eid (s : State) (n : Nat) (g : Seat → Seat) : (s.modSeat n g).eid = s.eid := rfl
@[simp] theorem State.modSeat_marks (s : State) (n : Nat) (g : Seat → Seat) : (s.modSeat n g).marks = s.marks := rfl
@[simp] theorem State.modSeat_pmc (s : State) (n : Nat) (g : Seat → Seat) : (s.modSeat n g).pmc = s.pmc := rfl
@[simp] theorem State.modSeat_hsfs (s : State) (n : Nat) (g : Seat → Seat) : (s.modSeat n g).hsfs = s.hsfs := rfl
@[simp] theorem State.modSeat_bays (s : State) (n : Nat) (g : Seat → Seat) : (s.modSeat n g).bays = s.bays := rfl
@[simp] theorem State.modSeat_chip (s : State) (n : Nat) (g : Seat → Seat) : (s.modSeat n g).chip = s.chip := rfl
@[simp] theorem State.rd_modSeat (s : State) (n : Nat) (g : Seat → Seat) (a : RKey) : (s.modSeat n g).rd a = s.rd a := rfl
@[simp] theorem State.fld_modSeat (s : State) (n : Nat) (g : Seat → Seat) (a : Fld) (a1 a2 : Nat) : (s.modSeat n g).fld a a1 a2 = s.fld a a1 a2 := rfl
@[simp] theorem State.flag_modSeat (s : State) (n : Nat) (g : Seat → Seat) (a : Fld) (a1 a2 : Nat) : (s.modSeat n g).flag a a1 a2 = s.flag a a1 a2 := rfl
@[simp] theorem State.port_modSeat (s : State) (n : Nat) (g : Seat → Seat) (a : Nat) : (s.modSeat n g).port a = s.port a := rfl
@[simp] theorem State.slice_modSeat (s : State) (n : Nat) (g : Seat → Seat) (a : Nat) : (s.modSeat n g).slice a = s.slice a := rfl
@[simp] theorem State.half_modSeat (s : State) (n : Nat) (g : Seat → Seat) (a : Nat) : (s.modSeat n g).half a = s.half a := rfl
@[simp] theorem State.lane_modSeat (s : State) (n : Nat) (g : Seat → Seat) (a : Nat) : (s.modSeat n g).lane a = s.lane a := rfl
@[simp] theorem State.hsf_modSeat (s : State) (n : Nat) (g : Seat → Seat) (a : Nat) : (s.modSeat n g).hsf a = s.hsf a := rfl
@[simp] theorem State.bay_modSeat (s : State) (n : Nat) (g : Seat → Seat) (a : Nat) : (s.modSeat n g).bay a = s.bay a := rfl
@[simp] theorem State.dma_modSeat (s : State) (n : Nat) (g : Seat → Seat) (a : Nat) : (s.modSeat n g).dma a = s.dma a := rfl
@[simp] theorem State.fn_modSeat (s : State) (n : Nat) (g : Seat → Seat) (a : Nat) : (s.modSeat n g).fn a = s.fn a := rfl
@[simp] theorem State.coreIn_modSeat (s : State) (n : Nat) (g : Seat → Seat) (a : Nat) : (s.modSeat n g).coreIn a = s.coreIn a := rfl
@[simp] theorem State.coreOut_modSeat (s : State) (n : Nat) (g : Seat → Seat) (a : Nat) : (s.modSeat n g).coreOut a = s.coreOut a := rfl
@[simp] theorem State.plane_modSeat (s : State) (n : Nat) (g : Seat → Seat) (a : Nat) : (s.modSeat n g).plane a = s.plane a := rfl

/-! What is put is read -/

@[simp] theorem State.port_setPort_same (s : State) (k : Nat) (v : Port) : (s.setPort k v).port k = v := by
  simp [State.port, State.setPort]
theorem State.port_setPort_ne (s : State) {k a : Nat} (v : Port) (h : a ≠ k) : (s.setPort k v).port a = s.port a := by
  simp [State.port, State.setPort, tabGet_set_ne, h]
@[simp] theorem State.port_modPort_same (s : State) (k : Nat) (g : Port → Port) : (s.modPort k g).port k = g (s.port k) := by
  simp [State.modPort]
theorem State.port_modPort_ne (s : State) {k a : Nat} (g : Port → Port) (h : a ≠ k) : (s.modPort k g).port a = s.port a := by
  simp [State.modPort, State.port_setPort_ne, h]
@[simp] theorem State.slice_setSlice_same (s : State) (k : Nat) (v : Slice) : (s.setSlice k v).slice k = v := by
  simp [State.slice, State.setSlice]
theorem State.slice_setSlice_ne (s : State) {k a : Nat} (v : Slice) (h : a ≠ k) : (s.setSlice k v).slice a = s.slice a := by
  simp [State.slice, State.setSlice, tabGet_set_ne, h]
@[simp] theorem State.slice_modSlice_same (s : State) (k : Nat) (g : Slice → Slice) : (s.modSlice k g).slice k = g (s.slice k) := by
  simp [State.modSlice]
theorem State.slice_modSlice_ne (s : State) {k a : Nat} (g : Slice → Slice) (h : a ≠ k) : (s.modSlice k g).slice a = s.slice a := by
  simp [State.modSlice, State.slice_setSlice_ne, h]
@[simp] theorem State.half_setHalf_same (s : State) (k : Nat) (v : Half) : (s.setHalf k v).half k = v := by
  simp [State.half, State.setHalf]
theorem State.half_setHalf_ne (s : State) {k a : Nat} (v : Half) (h : a ≠ k) : (s.setHalf k v).half a = s.half a := by
  simp [State.half, State.setHalf, tabGet_set_ne, h]
@[simp] theorem State.half_modHalf_same (s : State) (k : Nat) (g : Half → Half) : (s.modHalf k g).half k = g (s.half k) := by
  simp [State.modHalf]
theorem State.half_modHalf_ne (s : State) {k a : Nat} (g : Half → Half) (h : a ≠ k) : (s.modHalf k g).half a = s.half a := by
  simp [State.modHalf, State.half_setHalf_ne, h]
@[simp] theorem State.lane_setLane_same (s : State) (k : Nat) (v : LaneSt) : (s.setLane k v).lane k = v := by
  simp [State.lane, State.setLane]
theorem State.lane_setLane_ne (s : State) {k a : Nat} (v : LaneSt) (h : a ≠ k) : (s.setLane k v).lane a = s.lane a := by
  simp [State.lane, State.setLane, tabGet_set_ne, h]
@[simp] theorem State.lane_modLane_same (s : State) (k : Nat) (g : LaneSt → LaneSt) : (s.modLane k g).lane k = g (s.lane k) := by
  simp [State.modLane]
theorem State.lane_modLane_ne (s : State) {k a : Nat} (g : LaneSt → LaneSt) (h : a ≠ k) : (s.modLane k g).lane a = s.lane a := by
  simp [State.modLane, State.lane_setLane_ne, h]
@[simp] theorem State.hsf_setHsf_same (s : State) (k : Nat) (v : Hsf) : (s.setHsf k v).hsf k = v := by
  simp [State.hsf, State.setHsf]
theorem State.hsf_setHsf_ne (s : State) {k a : Nat} (v : Hsf) (h : a ≠ k) : (s.setHsf k v).hsf a = s.hsf a := by
  simp [State.hsf, State.setHsf, tabGet_set_ne, h]
@[simp] theorem State.hsf_modHsf_same (s : State) (k : Nat) (g : Hsf → Hsf) : (s.modHsf k g).hsf k = g (s.hsf k) := by
  simp [State.modHsf]
theorem State.hsf_modHsf_ne (s : State) {k a : Nat} (g : Hsf → Hsf) (h : a ≠ k) : (s.modHsf k g).hsf a = s.hsf a := by
  simp [State.modHsf, State.hsf_setHsf_ne, h]
@[simp] theorem State.bay_setBay_same (s : State) (k : Nat) (v : Bay) : (s.setBay k v).bay k = v := by
  simp [State.bay, State.setBay]
theorem State.bay_setBay_ne (s : State) {k a : Nat} (v : Bay) (h : a ≠ k) : (s.setBay k v).bay a = s.bay a := by
  simp [State.bay, State.setBay, tabGet_set_ne, h]
@[simp] theorem State.bay_modBay_same (s : State) (k : Nat) (g : Bay → Bay) : (s.modBay k g).bay k = g (s.bay k) := by
  simp [State.modBay]
theorem State.bay_modBay_ne (s : State) {k a : Nat} (g : Bay → Bay) (h : a ≠ k) : (s.modBay k g).bay a = s.bay a := by
  simp [State.modBay, State.bay_setBay_ne, h]
@[simp] theorem State.seat_setSeat_same (s : State) (k : Nat) (v : Seat) : (s.setSeat k v).seat k = v := by
  simp [State.seat, State.setSeat]
theorem State.seat_setSeat_ne (s : State) {k a : Nat} (v : Seat) (h : a ≠ k) : (s.setSeat k v).seat a = s.seat a := by
  simp [State.seat, State.setSeat, tabGet_set_ne, h]
@[simp] theorem State.seat_modSeat_same (s : State) (k : Nat) (g : Seat → Seat) : (s.modSeat k g).seat k = g (s.seat k) := by
  simp [State.modSeat]
theorem State.seat_modSeat_ne (s : State) {k a : Nat} (g : Seat → Seat) (h : a ≠ k) : (s.modSeat k g).seat a = s.seat a := by
  simp [State.modSeat, State.seat_setSeat_ne, h]
@[simp] theorem State.dma_setDma_same (s : State) (k : Nat) (v : DmaSt) : (s.setDma k v).dma k = v := by
  simp [State.dma, State.setDma]
theorem State.dma_setDma_ne (s : State) {k a : Nat} (v : DmaSt) (h : a ≠ k) : (s.setDma k v).dma a = s.dma a := by
  simp [State.dma, State.setDma, tabGet_set_ne, h]
@[simp] theorem State.fn_setFn_same (s : State) (k : Nat) (v : Fn) : (s.setFn k v).fn k = v := by
  simp [State.fn, State.setFn]
theorem State.fn_setFn_ne (s : State) {k a : Nat} (v : Fn) (h : a ≠ k) : (s.setFn k v).fn a = s.fn a := by
  simp [State.fn, State.setFn, tabGet_set_ne, h]
@[simp] theorem State.coreIn_setCoreIn_same (s : State) (k : Nat) (v : CoreIn) : (s.setCoreIn k v).coreIn k = v := by
  simp [State.coreIn, State.setCoreIn]
theorem State.coreIn_setCoreIn_ne (s : State) {k a : Nat} (v : CoreIn) (h : a ≠ k) : (s.setCoreIn k v).coreIn a = s.coreIn a := by
  simp [State.coreIn, State.setCoreIn, tabGet_set_ne, h]
@[simp] theorem State.coreOut_setCoreOut_same (s : State) (k : Nat) (v : CoreOut) : (s.setCoreOut k v).coreOut k = v := by
  simp [State.coreOut, State.setCoreOut]
theorem State.coreOut_setCoreOut_ne (s : State) {k a : Nat} (v : CoreOut) (h : a ≠ k) : (s.setCoreOut k v).coreOut a = s.coreOut a := by
  simp [State.coreOut, State.setCoreOut, tabGet_set_ne, h]
@[simp] theorem State.plane_setPlane_same (s : State) (k : Nat) (v : Plane) : (s.setPlane k v).plane k = v := by
  simp [State.plane, State.setPlane]
theorem State.plane_setPlane_ne (s : State) {k a : Nat} (v : Plane) (h : a ≠ k) : (s.setPlane k v).plane a = s.plane a := by
  simp [State.plane, State.setPlane, tabGet_set_ne, h]

/-! Registers and fields -/

@[simp] theorem State.rd_wr_same (s : State) (k : RKey) (v : Word) : (s.wr k v).rd k = v := by simp [State.rd, State.wr]

theorem State.rd_wr_ne (s : State) {k a : RKey} (v : Word) (h : a ≠ k) : (s.wr k v).rd a = s.rd a := by
  simp [State.rd, State.wr, tabGet_set_ne, h]

@[simp] theorem State.rd_setFld_same (s : State) (f : Fld) (n i j : Nat) :
    (s.setFld f n i j).rd ⟨f.r, i, j⟩ = putBits (s.rd ⟨f.r, i, j⟩) f.hi f.lo n := by simp [State.setFld]

theorem State.rd_setFld_ne (s : State) (f : Fld) (n i j : Nat) {a : RKey} (h : a ≠ ⟨f.r, i, j⟩) :
    (s.setFld f n i j).rd a = s.rd a := by simp [State.setFld, State.rd_wr_ne, h]

/-- A field read after it is put. -/
theorem State.fld_setFld_same (s : State) (f : Fld) (n i j : Nat) (h : f.hi < 64) :
    (s.setFld f n i j).fld f i j = n % 2 ^ (f.hi + 1 - f.lo) := by
  simp [State.fld, bitsOf_putBits, h]

/-- Another field of the same register. -/
theorem State.fld_setFld_field (s : State) (f g : Fld) (n i j : Nat) (hr : g.r = f.r) (h : f.hi < 64)
    (hd : g.hi < f.lo ∨ f.hi < g.lo) : (s.setFld f n i j).fld g i j = s.fld g i j := by
  simp [State.fld, hr, bitsOf_putBits_ne, h, hd]

/-- A field of another register, or of another instance. -/
theorem State.fld_setFld_ne (s : State) (f g : Fld) (n i j i' j' : Nat)
    (h : g.r ≠ f.r ∨ i' ≠ i ∨ j' ≠ j) : (s.setFld f n i j).fld g i' j' = s.fld g i' j' := by
  have : (⟨g.r, i', j'⟩ : RKey) ≠ ⟨f.r, i, j⟩ := by
    intro e
    injection e with h1 h2 h3
    rcases h with h | h | h
    · exact h h1
    · exact h h2
    · exact h h3
  simp [State.fld, State.rd_setFld_ne, this]

/-- A field of another register than the one written. -/
theorem State.fld_wr_ne (s : State) (k : RKey) (v : Word) (g : Fld) (i j : Nat) (h : g.r ≠ k.r ∨ i ≠ k.i ∨ j ≠ k.j) :
    (s.wr k v).fld g i j = s.fld g i j := by
  have : (⟨g.r, i, j⟩ : RKey) ≠ k := by
    intro e
    subst e
    rcases h with h | h | h <;> exact h rfl
  simp [State.fld, State.rd_wr_ne, this]

/-- A field of the register written. -/
theorem State.fld_wr_same (s : State) (f : Fld) (i j : Nat) (v : Word) : (s.wr ⟨f.r, i, j⟩ v).fld f i j = bitsOf v f.hi f.lo := by
  simp [State.fld]

/-- A saturating counter after a count. -/
theorem State.fld_count_same (s : State) (f : Fld) (n i j : Nat) (h : f.hi < 64) :
    (s.count f n i j).fld f i j = satAdd (2 ^ (f.hi + 1 - f.lo) - 1) (s.fld f i j) n := by
  unfold State.count
  rw [State.fld_setFld_same _ _ _ _ _ h]
  apply Nat.mod_eq_of_lt
  unfold satAdd
  have := Nat.two_pow_pos (f.hi + 1 - f.lo)
  omega

/-- A field is bounded by its width. -/
theorem State.fld_lt (s : State) (f : Fld) (i j : Nat) : s.fld f i j < 2 ^ (f.hi + 1 - f.lo) := bitsOf_lt _ _ _

/-- A flag is a field that is 1. -/
theorem State.flag_iff (s : State) (f : Fld) (i j : Nat) : s.flag f i j = true ↔ s.fld f i j = 1 := by
  unfold State.flag; exact beq_iff_eq

/-! The scratchpad -/

theorem State.byte_setByte_same (s : State) (a : Nat) (b : Byte) (h : a < memSize) : (s.setByte a b).byte a = b := by
  simp [State.setByte, State.byte, h]

theorem State.byte_setByte_ne (s : State) {a c : Nat} (b : Byte) (h : c ≠ a) : (s.setByte a b).byte c = s.byte c := by
  unfold State.setByte State.byte
  split
  · simp [tabGet_set_ne, h]
  · rfl

/-- Bytes outside those stored. -/
theorem State.byte_storeBytes_out (s : State) (a c : Nat) (l : List Byte) (h : c < a ∨ a + l.length ≤ c) :
    (s.storeBytes a l).byte c = s.byte c := by
  induction l generalizing s a with
  | nil => rfl
  | cons b bs ih =>
    simp only [State.storeBytes, List.length_cons] at *
    rw [ih _ _ (by omega), State.byte_setByte_ne _ _ (by omega)]

/-- Bytes stored inside the scratchpad. -/
theorem State.byte_storeBytes_in (s : State) (a k : Nat) (l : List Byte) (hk : k < l.length) (h : a + l.length ≤ memSize) :
    (s.storeBytes a l).byte (a + k) = l[k] := by
  induction l generalizing s a k with
  | nil => simp at hk
  | cons b bs ih =>
    simp only [List.length_cons] at hk h
    simp only [State.storeBytes]
    cases k with
    | zero =>
      rw [State.byte_storeBytes_out _ _ _ _ (by omega)]
      simp [State.byte_setByte_same, show a < memSize by omega]
    | succ n =>
      have := ih (s.setByte a b) (a + 1) n (by omega) (by omega)
      rw [show a + (n + 1) = a + 1 + n by omega, this]
      simp

end Sys2Proof.Machine
end

