-- ==== Sys2Proof/Laws/Engine.lean ====
section
/-! SUPPORT. What the dispatch of an instruction does, said once: what it changes whatever the instruction, and what it runs. -/

namespace Sys2Proof.Machine

@[simp] theorem State.seat_setEng_seats (s : State) (g : Tab Seat) (m : Nat) :
    ({ s with eng := { s.eng with seats := g } } : State).seat m = tabGet (fun _ => {}) g m := rfl

@[simp] theorem State.seat_event (s : State) (isl e n m : Nat) : (s.event isl e n).seat m = s.seat m := rfl

/-- Clearing the YIELD of some seats changes their YIELD alone. -/
theorem each_yield (l : List Nat) (c : Nat → Prop) [DecidablePred c] (s : State) :
    ∃ g, s.each l (fun t m => if c m then t.modSeat m (fun q => { q with yielded := false }) else t) =
        { s with eng := { s.eng with seats := g } } ∧
      ∀ m, ∃ b, tabGet (fun _ => {}) g m = { s.seat m with yielded := b } := by
  induction l generalizing s with
  | nil => exact ⟨s.eng.seats, rfl, fun m => ⟨(s.seat m).yielded, rfl⟩⟩
  | cons x xs ih =>
    simp only [State.each, List.foldl_cons] at ih ⊢
    obtain ⟨g, hg, hm⟩ := ih (if c x then s.modSeat x (fun q => { q with yielded := false }) else s)
    refine ⟨g, ?_, fun m => ?_⟩
    · rw [hg]; split <;> rfl
    · obtain ⟨b, hb⟩ := hm m
      rw [hb]
      split
      · by_cases h : m = x
        · subst h; exact ⟨b, by simp⟩
        · exact ⟨b, by rw [State.seat_modSeat_ne _ _ h]⟩
      · exact ⟨b, rfl⟩

/-- The dispatch itself changes the engine's cycle and pointer, the YIELD of seats, the issuing seat's cost, and accumulated event
counts (R305, R334, R498). -/
theorem atDispatch_cost (s : State) (d : Disp) (c : Nat) :
    ∃ g acc, (s.atDispatch d).cost d.seat.val c =
        { s with eng := { s.eng with seats := g, cycle := (s.eng.cycle + d.dt) % 2 ^ 64, ptr := (d.seat.val + 1) % 16 },
                 pmc := { s.pmc with acc := acc } } := by
  obtain ⟨g, hg, hm⟩ := each_yield (List.range 16) (fun m => (!s.yields m d.dt) = true ∨
    (((coxOrder s.eng.ptr).takeWhile (· != d.seat.val)).contains m ∧ s.seatReadyAt m (s.eng.cycle + d.dt))) s
  have hp : s.passOver d.seat.val d.dt = { s with eng := { s.eng with seats := g } } := hg
  unfold State.atDispatch State.cost
  simp only [hp]
  exact ⟨_, _, rfl⟩

/-- Of another seat the dispatch changes the YIELD alone. -/
theorem atDispatch_cost_other (s : State) (d : Disp) (c : Nat) {m : Nat} (h : m ≠ d.seat.val) :
    ∃ b, ((s.atDispatch d).cost d.seat.val c).seat m = { s.seat m with yielded := b } := by
  obtain ⟨g, hg, hm⟩ := each_yield (List.range 16) (fun m => (!s.yields m d.dt) = true ∨
    (((coxOrder s.eng.ptr).takeWhile (· != d.seat.val)).contains m ∧ s.seatReadyAt m (s.eng.cycle + d.dt))) s
  have hp : s.passOver d.seat.val d.dt = { s with eng := { s.eng with seats := g } } := hg
  obtain ⟨b, hb⟩ := hm m
  refine ⟨b, ?_⟩
  unfold State.atDispatch State.cost
  simp only [hp]
  rw [State.seat_modSeat_ne _ _ h, State.seat_event, State.seat_modSeat_ne _ _ h]
  exact hb

/-- Of the issuing seat it changes the issue cost and the YIELD. -/
theorem atDispatch_cost_self (s : State) (d : Disp) (c : Nat) :
    ∃ k, ((s.atDispatch d).cost d.seat.val c).seat d.seat.val = { s.seat d.seat.val with yielded := false, busy := k } := by
  obtain ⟨g, hg, hm⟩ := each_yield (List.range 16) (fun m => (!s.yields m d.dt) = true ∨
    (((coxOrder s.eng.ptr).takeWhile (· != d.seat.val)).contains m ∧ s.seatReadyAt m (s.eng.cycle + d.dt))) s
  have hp : s.passOver d.seat.val d.dt = { s with eng := { s.eng with seats := g } } := hg
  obtain ⟨b, hb⟩ := hm d.seat.val
  refine ⟨(s.eng.cycle + d.dt) % 2 ^ 64 + c, ?_⟩
  unfold State.atDispatch State.cost
  simp only [hp]
  rw [State.seat_modSeat_same, State.seat_event, State.seat_modSeat_same]
  show ({ ({ (tabGet (fun _ => {}) g d.seat.val) with yielded := false } : Seat) with
    busy := (s.eng.cycle + d.dt) % 2 ^ 64 + c } : Seat) = _
  rw [hb]

/-- A number made of a code, an OP and 52 bits below them. -/
theorem codes_of (c o r : Nat) (hc : c < 16) (ho : o < 256) (hr : r < 4503599627370496) :
    c * 1152921504606846976 + o * 4503599627370496 + r < 18446744073709551616 ∧
      (c * 1152921504606846976 + o * 4503599627370496 + r) / 1152921504606846976 % 16 = c ∧
      (c * 1152921504606846976 + o * 4503599627370496 + r) / 4503599627370496 % 256 = o := by
  refine ⟨by omega, by omega, by omega⟩

/-- The fields of a command below its OP fill 52 bits. -/
theorem fields_lt (d : Disp) : d.rd.val * 140737488355328 + d.rs1.val * 4398046511104 + d.rs2.val * 137438953472 +
    d.rs3.val * 4294967296 + d.imm.toNat < 4503599627370496 := by
  have h1 := d.imm.isLt; have h2 := d.rd.isLt; have h3 := d.rs1.isLt; have h4 := d.rs2.isLt; have h5 := d.rs3.isLt
  norm_num at h1
  omega

/-- The word of a command as a number. -/
theorem word_toNat (d : Disp) (f : Format) (op : Nat) : (d.word f op).toNat = (f.code * 1152921504606846976 +
    op * 4503599627370496 + (d.rd.val * 140737488355328 + d.rs1.val * 4398046511104 + d.rs2.val * 137438953472 +
      d.rs3.val * 4294967296 + d.imm.toNat)) % 18446744073709551616 := by
  unfold Disp.word wordOf
  rw [BitVec.toNat_ofNat]
  norm_num only
  simp only [Nat.add_assoc]

/-- Every OP code has 8 bits, and every code of a format is the format's. -/
theorem codes_lt (f : Format) : (∀ op ∈ f.ops, op < 256) ∧ f.code < 16 ∧ readFormat f.code = some f := by
  cases f <;> exact ⟨by decide, by decide, rfl⟩

/-- The FMT and the OP of a number. -/
theorem bitsOf_fmt (w : Word) : bitsOf w 63 60 = w.toNat / 1152921504606846976 % 16 := by
  unfold bitsOf; norm_num only

theorem bitsOf_op (w : Word) : bitsOf w 59 52 = w.toNat / 4503599627370496 % 256 := by
  unfold bitsOf; norm_num only

/-- A command's word names its format and its OP. -/
theorem word_names (d : Disp) {f : Format} {op : Nat} (hb : op < 256) :
    bitsOf (d.word f op) 63 60 = f.code ∧ bitsOf (d.word f op) 59 52 = op := by
  obtain ⟨h0, h1, h2⟩ := codes_of f.code op _ (codes_lt f).2.1 hb (fields_lt d)
  rw [bitsOf_fmt, bitsOf_op, word_toNat, Nat.mod_eq_of_lt h0]
  exact ⟨h1, h2⟩

/-- A word of a format and of one of its OP codes names an instruction (R332). -/
theorem illegal_false {k : Format} {w : Word} (hk : bitsOf w 63 60 = k.code) (ho : bitsOf w 59 52 ∈ k.ops) :
    illegal w = false := by
  unfold illegal
  rw [hk, (codes_lt k).2.2]
  simpa using ho

theorem illegal_word (d : Disp) {k : Format} {op : Nat} (h : op ∈ k.ops) : illegal (d.word k op) = false := by
  obtain ⟨hk, ho⟩ := word_names d (f := k) ((codes_lt k).1 op h)
  exact illegal_false hk (ho.symm ▸ h)

/-- Where the store holds the instruction's word, the instruction is what the seat dispatches (R331, R332). -/
theorem fetching_issues {s : State} {i : Instr} {d : Disp} {ok : Bool} (h : s.Issues i d ok) {f : Format} {op : Nat}
    (hi : i.code = some (d, f, op)) (ho : op ∈ f.ops) (run : State → State) : fetching d f op run s = run s := by
  obtain ⟨-, h2, h3, h4, -⟩ := h
  have hw : s.fetched d = d.word f op := by simpa [State.holds, hi] using h4
  unfold fetching
  rw [hw]
  simp [h2, h3, illegal_word d ho]

/-- Where the instruction issues, what it runs on its dispatch is its effect. -/
theorem dispatch_issues {s : State} {i : Instr} {d : Disp} {ok : Bool} (h : s.Issues i d ok) (c : Nat) (run : State → Ran) :
    s.dispatch d c ok run = match run ((s.atDispatch d).cost d.seat.val c) with
      | .done t => t
      | .trap cause t => t.trapAt d.seat.val cause (s.seat d.seat.val).pc := by
  obtain ⟨h1, h2, h3, -, h4⟩ := h
  obtain ⟨g, acc, hu⟩ := atDispatch_cost s d c
  have h2' : ((s.atDispatch d).cost d.seat.val c).fetchOk d.seat.val (s.seat d.seat.val).pc = true := by
    rw [hu]; exact h2
  unfold State.dispatch
  simp only [h1, h2', h3, h4, Bool.not_true, Bool.false_eq_true, if_false]
  all_goals (cases run ((s.atDispatch d).cost d.seat.val c) <;> rfl)

/-- The registers of the issuing seat are as before its dispatch. -/
@[simp] theorem greg_atDispatch (s : State) (d : Disp) (c r : Nat) :
    ((s.atDispatch d).cost d.seat.val c).greg d.seat.val r = s.greg d.seat.val r := by
  obtain ⟨k, hk⟩ := atDispatch_cost_self s d c
  simp only [State.greg, hk]

@[simp] theorem src1_atDispatch (s : State) (d : Disp) (c : Nat) :
    ((s.atDispatch d).cost d.seat.val c).src1 d = s.src1 d := greg_atDispatch s d c _
@[simp] theorem src2_atDispatch (s : State) (d : Disp) (c : Nat) :
    ((s.atDispatch d).cost d.seat.val c).src2 d = s.src2 d := greg_atDispatch s d c _
@[simp] theorem src3_atDispatch (s : State) (d : Disp) (c : Nat) :
    ((s.atDispatch d).cost d.seat.val c).src3 d = s.src3 d := greg_atDispatch s d c _
@[simp] theorem srcD_atDispatch (s : State) (d : Disp) (c : Nat) :
    ((s.atDispatch d).cost d.seat.val c).srcD d = s.srcD d := greg_atDispatch s d c _

/-! Registers of a seat -/

theorem greg_setGreg_same (s : State) (n : Nat) {r : Nat} (v : Word) (h : r ≠ 0) : (s.setGreg n r v).greg n r = v := by
  simp [State.greg, State.setGreg, h]

theorem greg_setGreg_ne (s : State) (n : Nat) {r x : Nat} (v : Word) (h : x ≠ r) : (s.setGreg n r v).greg n x = s.greg n x := by
  simp only [State.greg, State.setGreg]
  split
  · rfl
  · split
    · rfl
    · rw [State.seat_modSeat_same]; exact tabGet_set_ne _ _ _ _ h

theorem setGreg_seat_ne (s : State) {n m : Nat} (r : Nat) (v : Word) (h : m ≠ n) : (s.setGreg n r v).seat m = s.seat m := by
  simp only [State.setGreg]
  split
  · rfl
  · exact State.seat_modSeat_ne _ _ h

/-- A change of the issuing seat alone, after its dispatch, is a step of the engine's seats. -/
theorem seatStep_modSeat (s : State) (d : Disp) (c : Nat) (f : Seat → Seat) :
    SeatStep s (((s.atDispatch d).cost d.seat.val c).modSeat d.seat.val f) d.seat.val := by
  obtain ⟨g, acc, hu⟩ := atDispatch_cost s d c
  refine ⟨⟨by rw [hu]; rfl, by rw [hu]; rfl⟩, by rw [hu]; rfl, fun m h => ?_⟩
  obtain ⟨b, hb⟩ := atDispatch_cost_other s d c h
  rw [State.seat_modSeat_ne _ _ h, hb]

/-- An instruction that writes one result and goes on. -/
theorem compute_yields {s : State} {i : Instr} {d : Disp} {ok : Bool} (h : s.Issues i d ok) (c : Nat) (f : State → Word) :
    Yields s (s.compute d c ok f) d (f ((s.atDispatch d).cost d.seat.val c)) := by
  unfold State.compute
  rw [dispatch_issues h]
  obtain ⟨k, hk⟩ := atDispatch_cost_self s d c
  generalize hv : f ((s.atDispatch d).cost d.seat.val c) = v
  refine ⟨fun r => ?_, ?_, ⟨⟨?_, ?_⟩, ?_, fun m hm => ?_⟩, ?_⟩
  · simp only [State.advancePc]
    by_cases hr : r = d.rd.val ∧ d.rd.val ≠ 0
    · rw [if_pos hr, hr.1]
      simpa [State.greg] using greg_setGreg_same _ _ v hr.2
    · rw [if_neg hr]
      by_cases h0 : d.rd.val = 0
      · simp [State.setGreg, h0, State.greg, hk]
      · have := greg_setGreg_ne ((s.atDispatch d).cost d.seat.val c) d.seat.val v (fun e => hr ⟨e, h0⟩)
        simpa [State.greg, hk] using this
  · simp [State.advancePc, State.setGreg]
    split <;> simp [hk]
  · obtain ⟨g, acc, hu⟩ := atDispatch_cost s d c
    simp only [State.advancePc, State.setGreg]; rw [hu]; split <;> rfl
  · obtain ⟨g, acc, hu⟩ := atDispatch_cost s d c
    simp only [State.advancePc, State.setGreg]; rw [hu]; split <;> rfl
  · obtain ⟨g, acc, hu⟩ := atDispatch_cost s d c
    simp only [State.advancePc, State.setGreg]; rw [hu]; split <;> rfl
  · obtain ⟨b, hb⟩ := atDispatch_cost_other s d c hm
    simp only [State.advancePc]
    rw [State.seat_modSeat_ne _ _ hm, setGreg_seat_ne _ _ _ hm, hb]
  · simp only [State.advancePc, State.setGreg, RegsOnly]
    split <;> simp [hk]

end Sys2Proof.Machine
end

