-- ==== Sys2Proof/Laws/RegMap.lean ====
section
/-! SUPPORT. The register map is unambiguous: a register's bytes are found as its own at their addresses (R570, R578), but for the
two words of ICF_UGRANT[32] on which R578 places ICF_FN_QRY and ICF_FN_QRES. -/

namespace Sys2Proof.Machine

/-- The bytes of a register instance. -/
def Reg.size (r : Reg) : Nat := if r.row.wide then 8 else 4

/-- A key names an instance that the map has. -/
def RKey.valid (k : RKey) : Bool := decide (k.i < k.r.row.count) && decide (k.j < k.r.row.inner)

/-- The bytes that one inner array spans. -/
def RegRow.reach (w : RegRow) : Nat := (w.inner - 1) * w.innerStride + (if w.wide then 8 else 4)

/-- The instances of a row do not meet one another, and stay inside one period of its stride. -/
def RegRow.tidy (w : RegRow) : Bool :=
  decide (0 < w.inner) && decide (0 < w.count) &&
  (decide (w.inner = 1 ∧ w.innerStride = 0) || decide ((if w.wide then 8 else 4) ≤ w.innerStride)) &&
  (if w.sub = 0 then
    (decide (w.count = 1 ∧ w.stride = 0) || (decide (w.reach ≤ w.stride) && decide (w.base % w.stride + w.reach ≤ w.stride)))
  else decide (w.reach ≤ w.sub) && decide (w.base % w.stride + (w.sub + w.reach) ≤ w.stride))

/-- One past the last byte of a register. -/
def RegRow.stop (w : RegRow) : Nat :=
  (if w.sub = 0 then w.base + (w.count - 1) * w.stride else w.base + (w.count - 1) / 2 * w.stride + w.sub) + w.reach

/-- Where in a period of its stride the instances of a row begin. -/
def RegRow.starts (w : RegRow) : List Nat :=
  (if w.sub = 0 then [w.base % w.stride] else [w.base % w.stride, w.base % w.stride + w.sub]).flatMap
    (fun b => (List.range w.inner).map (fun j => b + j * w.innerStride))

/-- Two rows have no byte in common: one ends before the other begins, or they keep apart in every period of one stride. -/
def RegRow.apart (v w : RegRow) : Bool :=
  Nat.ble v.stop w.base || Nat.ble w.stop v.base ||
    (Nat.beq v.stride w.stride && Nat.ble 1 v.stride &&
      v.starts.all (fun x => w.starts.all (fun y =>
        Nat.ble (x + (if v.wide then 8 else 4)) y || Nat.ble (y + (if w.wide then 8 else 4)) x)))

/-- Every row is tidy. -/
theorem rows_tidy : (allRegs.all (fun r => r.row.tidy)) = true := by decide

/-- The two registers that stand inside ICF_UGRANT[32] (R578). -/
def queryReg (r : Reg) : Bool := r == .ICF_FN_QRY || r == .ICF_FN_QRES

/-- Whether the rows of a register and of each later one in a list are apart. -/
def apartFrom (r : Reg) (l : List Reg) : Bool := l.all (fun x => r.row.apart x.row || (queryReg r && x == .ICF_UGRANT))

/-- Every row of a list is apart from each later one. -/
def allApart : List Reg → Bool
  | [] => true
  | r :: rs => apartFrom r rs && allApart rs

theorem rows_apart : allApart allRegs = true := by decide +kernel

/-! An instance stands where its address says -/

theorem bytes_pos (w : RegRow) : 0 < (if w.wide then 8 else 4) := by split <;> omega

/-- What holds an address is a valid instance, at its own address plus the offset. -/
theorem locate_inv {r : Reg} (ht : r.row.tidy = true) {a b : Nat} {k : RKey} (h : r.locate a = some (k, b)) :
    k.r = r ∧ k.valid = true ∧ b < r.size ∧ a = k.addr + b := by
  unfold Reg.locate at h
  dsimp only at h
  rw [Option.ite_none_left_eq_some] at h
  obtain ⟨hb, h⟩ := h
  rw [Option.ite_none_right_eq_some] at h
  obtain ⟨hc, h⟩ := h
  simp only [Option.some.injEq, Prod.mk.injEq] at h
  obtain ⟨rfl, rfl⟩ := h
  refine ⟨rfl, ?_, ?_, ?_⟩
  · simp only [RKey.valid, Bool.and_eq_true, decide_eq_true_eq]; exact ⟨hc.1, hc.2.2.1⟩
  · exact hc.2.2.2
  · obtain ⟨_, h2, _, h4⟩ := hc
    simp only [RKey.addr]
    generalize hw : r.row = w at *
    have e1 := Nat.div_add_mod (a - w.base) w.stride
    have e3 := Nat.div_add_mod ((a - w.base) % w.stride) w.innerStride
    have e4 := Nat.div_add_mod (a - w.base) w.innerStride
    by_cases hsub : w.sub = 0
    · simp only [hsub, if_true] at *
      by_cases hst : w.stride = 0
      · simp only [hst, if_true, Nat.zero_mul] at *
        by_cases hin : w.innerStride = 0
        · simp only [hin, if_true] at *; omega
        · simp only [hin, if_false] at *
          rw [Nat.mul_comm w.innerStride] at e4; omega
      · simp only [hst, if_false] at *
        rw [Nat.mul_comm w.stride] at e1
        by_cases hin : w.innerStride = 0
        · simp only [hin, if_true] at *; omega
        · simp only [hin, if_false] at *
          rw [Nat.mul_comm w.innerStride] at e3; omega
    · have hst : w.stride ≠ 0 := by
        intro h0
        simp only [RegRow.tidy, hsub, if_false, h0, Bool.and_eq_true, decide_eq_true_eq] at ht
        have := bytes_pos w
        unfold RegRow.reach at ht; omega
      simp only [hsub, hst, if_false, false_or] at *
      have e5 := Nat.div_add_mod ((a - w.base) % w.stride) w.sub
      have e6 := Nat.div_add_mod ((a - w.base) % w.stride % w.sub) w.innerStride
      generalize (a - w.base) % w.stride % w.sub = m at *
      generalize (a - w.base) % w.stride = n at *
      generalize (a - w.base) / w.stride = o at *
      generalize n / w.sub = hh at *
      rw [show (2 * o + hh) / 2 = o by omega, show (2 * o + hh) % 2 = hh by omega]
      rw [Nat.mul_comm w.stride] at e1
      rw [Nat.mul_comm w.sub] at e5
      by_cases hin : w.innerStride = 0
      · simp only [hin, if_true] at *; omega
      · simp only [hin, if_false] at *
        rw [Nat.mul_comm w.innerStride] at e6; omega

/-- The inner offset of a valid instance stays within its reach. -/
theorem inner_reach {k : RKey} (hv : k.valid = true) {b : Nat} (hb : b < k.r.size) :
    k.j * k.r.row.innerStride + b < k.r.row.reach := by
  simp only [RKey.valid, Bool.and_eq_true, decide_eq_true_eq] at hv
  have : k.j * k.r.row.innerStride ≤ (k.r.row.inner - 1) * k.r.row.innerStride := Nat.mul_le_mul_right _ (by omega)
  unfold RegRow.reach
  unfold Reg.size at hb
  omega

/-- The bytes of a valid instance lie between the first byte of its row and the last. -/
theorem addr_range {k : RKey} (hv : k.valid = true) {b : Nat} (hb : b < k.r.size) :
    k.r.row.base ≤ k.addr + b ∧ k.addr + b < k.r.row.stop := by
  have hr := inner_reach hv hb
  simp only [RKey.valid, Bool.and_eq_true, decide_eq_true_eq] at hv
  unfold RKey.addr RegRow.stop
  simp only []
  split
  · have : k.i * k.r.row.stride ≤ (k.r.row.count - 1) * k.r.row.stride := Nat.mul_le_mul_right _ (by omega)
    omega
  · have : k.i / 2 * k.r.row.stride ≤ (k.r.row.count - 1) / 2 * k.r.row.stride :=
      Nat.mul_le_mul_right _ (Nat.div_le_div_right (by omega))
    have : k.i % 2 * k.r.row.sub ≤ 1 * k.r.row.sub := Nat.mul_le_mul_right _ (by omega)
    omega

/-- In its stride's period a valid instance stands at one of its row's starts. -/
theorem addr_period {k : RKey} (ht : k.r.row.tidy = true) (hv : k.valid = true) (hs : 0 < k.r.row.stride) {b : Nat}
    (hb : b < k.r.size) : ∃ x ∈ k.r.row.starts, x ≤ (k.addr + b) % k.r.row.stride ∧
      (k.addr + b) % k.r.row.stride < x + k.r.size := by
  have hr := inner_reach hv hb
  have hj : k.j < k.r.row.inner := by simp only [RKey.valid, Bool.and_eq_true, decide_eq_true_eq] at hv; exact hv.2
  have hi : k.i < k.r.row.count := by simp only [RKey.valid, Bool.and_eq_true, decide_eq_true_eq] at hv; exact hv.1
  have hb' : k.r.row.base = k.r.row.stride * (k.r.row.base / k.r.row.stride) + k.r.row.base % k.r.row.stride :=
    (Nat.div_add_mod _ _).symm
  unfold RKey.addr RegRow.starts
  simp only []
  by_cases h0 : k.r.row.sub = 0
  · simp only [h0, if_true]
    refine ⟨k.r.row.base % k.r.row.stride + k.j * k.r.row.innerStride,
      List.mem_flatMap.mpr ⟨_, List.mem_singleton.mpr rfl, List.mem_map.mpr ⟨k.j, List.mem_range.mpr hj, rfl⟩⟩, ?_⟩
    have hw : k.r.row.base % k.r.row.stride + k.r.row.reach ≤ k.r.row.stride := by
      simp only [RegRow.tidy, h0, if_true, Bool.and_eq_true, Bool.or_eq_true, decide_eq_true_eq] at ht
      obtain ⟨_, h | h⟩ := ht
      · omega
      · exact h.2
    have e : k.r.row.base + k.i * k.r.row.stride + k.j * k.r.row.innerStride + b =
        k.r.row.stride * (k.r.row.base / k.r.row.stride + k.i) +
          (k.r.row.base % k.r.row.stride + (k.j * k.r.row.innerStride + b)) := by
      rw [Nat.mul_add, Nat.mul_comm k.r.row.stride k.i]; omega
    have hm : (k.r.row.base + k.i * k.r.row.stride + k.j * k.r.row.innerStride + b) % k.r.row.stride =
        k.r.row.base % k.r.row.stride + (k.j * k.r.row.innerStride + b) := by
      rw [e, Nat.mul_add_mod]; exact Nat.mod_eq_of_lt (by omega)
    rw [hm]
    unfold Reg.size at hb ⊢
    omega
  · simp only [h0, if_false]
    have hw : k.r.row.base % k.r.row.stride + (k.r.row.sub + k.r.row.reach) ≤ k.r.row.stride := by
      simp only [RegRow.tidy, h0, if_false, Bool.and_eq_true, decide_eq_true_eq] at ht
      exact ht.2.2
    have h2 : k.i % 2 = 0 ∨ k.i % 2 = 1 := by omega
    refine ⟨k.r.row.base % k.r.row.stride + k.i % 2 * k.r.row.sub + k.j * k.r.row.innerStride, ?_, ?_⟩
    · simp only [List.mem_flatMap, List.mem_map, List.mem_range]
      rcases h2 with h2 | h2 <;> simp only [h2]
      · exact ⟨k.r.row.base % k.r.row.stride, by simp, k.j, hj, by omega⟩
      · exact ⟨k.r.row.base % k.r.row.stride + k.r.row.sub, by simp, k.j, hj, by omega⟩
    · have : k.i % 2 * k.r.row.sub ≤ 1 * k.r.row.sub := Nat.mul_le_mul_right _ (by omega)
      have e : k.r.row.base + k.i / 2 * k.r.row.stride + k.i % 2 * k.r.row.sub + k.j * k.r.row.innerStride + b =
          k.r.row.stride * (k.r.row.base / k.r.row.stride + k.i / 2) +
            (k.r.row.base % k.r.row.stride + k.i % 2 * k.r.row.sub + (k.j * k.r.row.innerStride + b)) := by
        rw [Nat.mul_add, Nat.mul_comm k.r.row.stride (k.i / 2)]; omega
      have hm : (k.r.row.base + k.i / 2 * k.r.row.stride + k.i % 2 * k.r.row.sub + k.j * k.r.row.innerStride + b) %
          k.r.row.stride = k.r.row.base % k.r.row.stride + k.i % 2 * k.r.row.sub + (k.j * k.r.row.innerStride + b) := by
        rw [e, Nat.mul_add_mod]; exact Nat.mod_eq_of_lt (by omega)
      rw [hm]
      unfold Reg.size at hb ⊢
      omega

/-- Instances of two rows that are apart have no byte in common. -/
theorem apart_addr {k l : RKey} (hk : k.r.row.tidy = true) (hl : l.r.row.tidy = true) (vk : k.valid = true)
    (vl : l.valid = true) (h : k.r.row.apart l.r.row = true) {b c : Nat} (hb : b < k.r.size) (hc : c < l.r.size) :
    k.addr + b ≠ l.addr + c := by
  intro e
  have r1 := addr_range vk hb
  have r2 := addr_range vl hc
  simp only [RegRow.apart, Bool.or_eq_true, Bool.and_eq_true, Nat.ble_eq, Nat.beq_eq, List.all_eq_true] at h
  rcases h with (h | h) | ⟨⟨hs, h1⟩, h⟩
  · omega
  · omega
  · obtain ⟨x, hx, h3, h4⟩ := addr_period hk vk h1 hb
    obtain ⟨y, hy, h5, h6⟩ := addr_period hl vl (hs ▸ h1) hc
    have := h x hx y hy
    rw [← hs, ← e] at h5 h6
    unfold Reg.size at h4 h6
    rcases this with this | this <;> omega

/-- An instance holds each of its bytes. -/
theorem locate_self {k : RKey} (ht : k.r.row.tidy = true) (hv : k.valid = true) {b : Nat} (hb : b < k.r.size) :
    k.r.locate (k.addr + b) = some (k, b) := by
  have hr := inner_reach hv hb
  have hj : k.j < k.r.row.inner := by simp only [RKey.valid, Bool.and_eq_true, decide_eq_true_eq] at hv; exact hv.2
  have hi : k.i < k.r.row.count := by simp only [RKey.valid, Bool.and_eq_true, decide_eq_true_eq] at hv; exact hv.1
  obtain ⟨r, i, j⟩ := k
  simp only at *
  unfold Reg.locate RKey.addr
  unfold Reg.size at hb
  simp only []
  generalize hw : r.row = w at *
  simp only [RegRow.tidy, Bool.and_eq_true, Bool.or_eq_true, decide_eq_true_eq] at ht
  obtain ⟨⟨⟨_, _⟩, hin⟩, hrow⟩ := ht
  -- the inner part
  have hinn : ∀ m, m = j * w.innerStride + b → (if w.innerStride = 0 then 0 else m / w.innerStride) = j ∧
      (if w.innerStride = 0 then m else m % w.innerStride) = b := by
    intro m hm
    rcases hin with ⟨h1, h2⟩ | h1
    · simp only [h2, if_true]; rw [h2] at hm; omega
    · have hne : w.innerStride ≠ 0 := by have := bytes_pos w; omega
      simp only [hne, if_false]
      have hlt : b < w.innerStride := by omega
      rw [hm, Nat.mul_comm, Nat.mul_add_div (by omega), Nat.mul_add_mod, Nat.div_eq_of_lt hlt, Nat.mod_eq_of_lt hlt]
      exact ⟨by omega, rfl⟩
  by_cases h0 : w.sub = 0
  · simp only [h0, if_true] at *
    rw [if_neg (by omega)]
    rw [show w.base + i * w.stride + j * w.innerStride + b - w.base = i * w.stride + (j * w.innerStride + b) by omega]
    simp only [Bool.and_eq_true, Bool.or_eq_true, decide_eq_true_eq] at hrow
    rcases hrow with ⟨h1, h2⟩ | ⟨h1, _⟩
    · simp only [h2, if_true, Nat.mul_zero, Nat.zero_add]
      obtain ⟨e1, e2⟩ := hinn _ rfl
      rw [e1, e2]
      have : i = 0 := by omega
      subst this
      rw [if_pos (by simp; omega)]
    · have hst : w.stride ≠ 0 := by omega
      simp only [hst, if_false]
      have hlt : j * w.innerStride + b < w.stride := by omega
      rw [Nat.mul_comm i, Nat.mul_add_div (by omega), Nat.mul_add_mod, Nat.div_eq_of_lt hlt, Nat.mod_eq_of_lt hlt]
      obtain ⟨e1, e2⟩ := hinn _ rfl
      rw [e1, e2]
      rw [if_pos (by simp; omega)]
      simp
  · simp only [h0, if_false] at *
    simp only [Bool.and_eq_true, decide_eq_true_eq] at hrow
    obtain ⟨h1, h2⟩ := hrow
    have hst : w.stride ≠ 0 := by have := bytes_pos w; omega
    have hp : i % 2 * w.sub ≤ 1 * w.sub := Nat.mul_le_mul_right _ (by omega)
    rw [if_neg (by omega)]
    rw [show w.base + i / 2 * w.stride + i % 2 * w.sub + j * w.innerStride + b - w.base =
      i / 2 * w.stride + (i % 2 * w.sub + (j * w.innerStride + b)) by omega]
    simp only [hst, if_false]
    have hlt : i % 2 * w.sub + (j * w.innerStride + b) < w.stride := by omega
    have hlt2 : j * w.innerStride + b < w.sub := by omega
    rw [Nat.mul_comm (i / 2), Nat.mul_add_div (by omega), Nat.mul_add_mod, Nat.div_eq_of_lt hlt, Nat.mod_eq_of_lt hlt]
    rw [Nat.mul_comm (i % 2), Nat.mul_add_div (by omega), Nat.mul_add_mod, Nat.div_eq_of_lt hlt2, Nat.mod_eq_of_lt hlt2]
    obtain ⟨e1, e2⟩ := hinn _ rfl
    rw [e1, e2]
    rw [if_pos ⟨by omega, Or.inr (by omega), hj, hb⟩]
    congr 3
    omega

/-! A register at its address -/

theorem locateIn_of_apart {k : RKey} (hk : k.valid = true) {b : Nat} (hb : b < k.r.size) :
    ∀ l : List Reg, allApart l = true → (∀ r ∈ l, r.row.tidy = true) → k.r ∈ l →
      (k.r = .ICF_UGRANT → ∀ r, queryReg r = true → ∀ (j : RKey) (c : Nat), j.r = r → j.valid = true → c < r.size → j.addr + c ≠ k.addr + b) →
      locateIn l (k.addr + b) = some (k, b) := by
  intro l
  induction l with
  | nil => intro _ _ h; cases h
  | cons x xs ih =>
    intro ha ht hm hx
    simp only [allApart, Bool.and_eq_true] at ha
    have htk : k.r.row.tidy = true := ht _ hm
    unfold locateIn
    by_cases e : x = k.r
    · subst e; rw [locate_self htk hk hb]
    · have hmem : k.r ∈ xs := by
        rcases List.mem_cons.mp hm with h | h
        · exact absurd h.symm e
        · exact h
      have hnone : x.locate (k.addr + b) = none := by
        cases hl : x.locate (k.addr + b) with
        | none => rfl
        | some y =>
          exfalso
          obtain ⟨j, c⟩ := y
          obtain ⟨hjr, hjv, hc, heq⟩ := locate_inv (ht x List.mem_cons_self) hl
          have hap := (List.all_eq_true.mp ha.1) _ hmem
          simp only [Bool.or_eq_true, Bool.and_eq_true, beq_iff_eq] at hap
          rcases hap with hap | ⟨hq, hu⟩
          · subst hjr
            exact apart_addr (ht _ List.mem_cons_self) htk hjv hk hap hc hb heq.symm
          · exact hx hu x hq j c hjr hjv hc heq.symm
      rw [hnone]
      exact ih ha.2 (fun r hr => ht r (List.mem_cons_of_mem _ hr)) hmem hx

theorem mem_allRegs (r : Reg) : r ∈ allRegs := by cases r <;> decide

/-- Each byte of a register instance is found as its own, but for the two words inside ICF_UGRANT[32]. -/
theorem regAt_byte {k : RKey} (hk : k.valid = true) (hu : ¬(k.r = .ICF_UGRANT ∧ k.i = 32)) {b : Nat} (hb : b < k.r.size) :
    regAt (k.addr + b) = some (k, b) := by
  refine locateIn_of_apart hk hb allRegs rows_apart (fun r _ => ?_) (mem_allRegs _) ?_
  · exact (List.all_eq_true.mp rows_tidy) r (mem_allRegs r)
  · intro hg r hq j c hj hv hc
    obtain ⟨kr, ki, kj⟩ := k
    simp only at hg hu
    subst hg
    have hr : r = .ICF_FN_QRY ∨ r = .ICF_FN_QRES := by simpa [queryReg] using hq
    have hki : ki ≠ 32 := fun h => hu ⟨rfl, h⟩
    obtain ⟨jr, ji, jj⟩ := j
    simp only at hj
    subst hj
    rcases hr with rfl | rfl
    · simp only [RKey.addr, RKey.valid, Reg.size, Reg.row] at *
      simp at *
      omega
    · simp only [RKey.addr, RKey.valid, Reg.size, Reg.row] at *
      simp at *
      omega

/-- A register instance is found at its address. -/
theorem regAt_addr {k : RKey} (hk : k.valid = true) (hu : ¬(k.r = .ICF_UGRANT ∧ k.i = 32)) : regAt k.addr = some (k, 0) :=
  regAt_byte hk hu (b := 0) (by unfold Reg.size; split <;> omega)

end Sys2Proof.Machine
end

