-- ==== Sys2Proof/Laws/Wf.lean ====
section
/-! SUPPORT. Every operation keeps the canonical form of the scratchpad's bytes, and leaves the queue of commands alone. -/

namespace Sys2Proof.Machine

theorem Memory.wf_nil : Memory.wf [] = true := rfl

/-- The canonical form of the entries that satisfy a test. -/
theorem Memory.wf_filter {m : List Host.Cell} (h : Memory.wf m = true) (f : Host.Cell → Bool) : Memory.wf (m.filter f) = true := by
  unfold Memory.wf at *
  simp only [Bool.and_eq_true, List.all_eq_true] at *
  exact ⟨tabWf_filter h.1 f, fun c hc => h.2 c (List.mem_filter.mp hc).1⟩

/-- A byte written inside the scratchpad. -/
theorem Memory.wf_set {m : List Host.Cell} (h : Memory.wf m = true) {a : Nat} (ha : a < memSize) (b : Byte) :
    Memory.wf (tabSet id (fun _ => 0) m a b) = true := by
  unfold Memory.wf at *
  simp only [Bool.and_eq_true, List.all_eq_true, decide_eq_true_eq] at *
  refine ⟨tabWf_set (fun a b h => h) h.1 a b, ?_⟩
  intro c hc
  unfold tabSet at hc
  split at hc
  · exact h.2 c (tabErase_keys m a c hc).1
  · rcases tabInsert_mem id _ a b c hc with h1 | h1
    · rw [h1]; exact ha
    · exact h.2 c (tabErase_keys m a c h1).1

@[simp] theorem State.setByte_pending (s : State) (a : Nat) (b : Byte) : (s.setByte a b).pending = s.pending := by
  unfold State.setByte; split <;> rfl

@[simp] theorem State.setByte_wf (s : State) (a : Nat) (b : Byte) (h : Memory.wf s.mem = true) : Memory.wf (s.setByte a b).mem = true := by
  unfold State.setByte
  split
  · rename_i ha; exact Memory.wf_set h ha b
  · exact h

@[simp] theorem State.storeBytes_pending (s : State) (a : Nat) (l : List Byte) : (s.storeBytes a l).pending = s.pending := by
  induction l generalizing s a with
  | nil => rfl
  | cons b bs ih => simp [State.storeBytes, ih]

@[simp] theorem State.storeBytes_wf (s : State) (a : Nat) (l : List Byte) (h : Memory.wf s.mem = true) :
    Memory.wf (s.storeBytes a l).mem = true := by
  induction l generalizing s a with
  | nil => exact h
  | cons b bs ih => exact ih _ _ (State.setByte_wf s a b h)

/-! Folds and the operations that write the scratchpad -/

theorem State.each_pending {α : Type} {f : State → α → State} (h : ∀ s x, (f s x).pending = s.pending)
    (s : State) (l : List α) : (s.each l f).pending = s.pending := by
  unfold State.each
  induction l generalizing s with
  | nil => rfl
  | cons a l ih => exact (ih _).trans (h s a)

theorem State.each_wf {α : Type} {f : State → α → State} (h : ∀ s x, Memory.wf s.mem = true → Memory.wf (f s x).mem = true)
    (s : State) (l : List α) (hs : Memory.wf s.mem = true) : Memory.wf (s.each l f).mem = true := by
  unfold State.each
  induction l generalizing s with
  | nil => exact hs
  | cons a l ih => exact ih _ (h s a hs)

@[simp] theorem State.store_pending (s : State) (a n : Nat) (v : Word) :
    (State.store s a n v).pending = s.pending := by
  simp [State.store]

@[simp] theorem State.store_wf (s : State) (a n : Nat) (v : Word) (h : Memory.wf s.mem = true) :
    Memory.wf (State.store s a n v).mem = true := by
  simp [State.store, h]

@[simp] theorem State.spadWrite_pending (s : State) (a : Nat) (bs : List Byte) (o : SpadObs) :
    (State.spadWrite s a bs o).1.pending = s.pending := by
  unfold State.spadWrite; (repeat' split) <;> simp

@[simp] theorem State.spadWrite_wf (s : State) (a : Nat) (bs : List Byte) (o : SpadObs) (h : Memory.wf s.mem = true) :
    Memory.wf (State.spadWrite s a bs o).1.mem = true := by
  unfold State.spadWrite; (repeat' split) <;> simp [h]

@[simp] theorem State.wipe_pending (s : State) :
    (State.wipe s).pending = s.pending := by
  rfl

@[simp] theorem State.wipe_wf (s : State) (h : Memory.wf s.mem = true) :
    Memory.wf (State.wipe s).mem = true := by
  exact Memory.wf_filter h _

@[simp] theorem State.wipeDone_pending (s : State) :
    (State.wipeDone s).pending = s.pending := by
  simp [State.wipeDone]

@[simp] theorem State.wipeDone_wf (s : State) (h : Memory.wf s.mem = true) :
    Memory.wf (State.wipeDone s).mem = true := by
  simp [State.wipeDone, h]

@[simp] theorem State.commitDone_pending (s : State) :
    (State.commitDone s).pending = s.pending := by
  unfold State.commitDone; (repeat' split) <;> simp

@[simp] theorem State.commitDone_wf (s : State) (h : Memory.wf s.mem = true) :
    Memory.wf (State.commitDone s).mem = true := by
  unfold State.commitDone; (repeat' split) <;> simp [h]

@[simp] theorem State.fresh_pending (s : State) (regs : List (RKey × Word)) (c : Chip) (old : Option Nat) :
    (State.fresh s regs c old).pending = s.pending := by
  simp [State.fresh]

@[simp] theorem State.fresh_wf (s : State) (regs : List (RKey × Word)) (c : Chip) (old : Option Nat) :
    Memory.wf (State.fresh s regs c old).mem = true := by
  exact Memory.wf_nil

@[simp] theorem State.coldReset_pending (s : State) (k : ResetKind) (keepTrip : Bool) :
    (State.coldReset s k keepTrip).pending = s.pending := by
  unfold State.coldReset; simp; (repeat' split) <;> simp_all

@[simp] theorem State.coldReset_wf (s : State) (k : ResetKind) (keepTrip : Bool) :
    Memory.wf (State.coldReset s k keepTrip).mem = true := by
  simp [State.coldReset]

@[simp] theorem State.warmReset_pending (s : State) (k : ResetKind) :
    (State.warmReset s k).pending = s.pending := by
  simp [State.warmReset]

@[simp] theorem State.warmReset_wf (s : State) (k : ResetKind) (h : Memory.wf s.mem = true) :
    Memory.wf (State.warmReset s k).mem = true := by
  simp [State.warmReset, h]

@[simp] theorem State.askReset_pending (s : State) (k : ResetKind) :
    (State.askReset s k).pending = s.pending := by
  simp [State.askReset]

@[simp] theorem State.askReset_wf (s : State) (k : ResetKind) (h : Memory.wf s.mem = true) :
    Memory.wf (State.askReset s k).mem = true := by
  unfold State.askReset; (repeat' split) <;> simp [h]

@[simp] theorem State.runHeld_pending (s : State) :
    (State.runHeld s).pending = s.pending := by
  unfold State.runHeld; (repeat' split) <;> simp

@[simp] theorem State.runHeld_wf (s : State) (h : Memory.wf s.mem = true) :
    Memory.wf (State.runHeld s).mem = true := by
  unfold State.runHeld; (repeat' split) <;> simp [h]

@[simp] theorem writeRstCtl_pending (s : State) (req : Nat) (v : Word) :
    (writeRstCtl s req v).pending = s.pending := by
  unfold writeRstCtl; (repeat' split) <;> simp

@[simp] theorem writeRstCtl_wf (s : State) (req : Nat) (v : Word) (h : Memory.wf s.mem = true) :
    Memory.wf (writeRstCtl s req v).mem = true := by
  unfold writeRstCtl; (repeat' split) <;> simp [h]

@[simp] theorem State.romLoad_pending (s : State) (image : List Byte) :
    (State.romLoad s image).2.pending = s.pending := by
  simp [State.romLoad]

@[simp] theorem State.romLoad_wf (s : State) (image : List Byte) (h : Memory.wf s.mem = true) :
    Memory.wf (State.romLoad s image).2.mem = true := by
  simp [State.romLoad, h]

@[simp] theorem State.trySlot_pending (s : State) (f : Fld) (image : List Byte) :
    (State.trySlot s f image).2.pending = s.pending := by
  simp [State.trySlot]

@[simp] theorem State.trySlot_wf (s : State) (f : Fld) (image : List Byte) (h : Memory.wf s.mem = true) :
    Memory.wf (State.trySlot s f image).2.mem = true := by
  simp [State.trySlot, h]

@[simp] theorem State.bootGo_pending (s : State) (image : Option (List Byte)) :
    (State.bootGo s image).pending = s.pending := by
  unfold State.bootGo; simp; (repeat' split) <;> simp_all

@[simp] theorem State.bootGo_wf (s : State) (image : Option (List Byte)) (h : Memory.wf s.mem = true) :
    Memory.wf (State.bootGo s image).mem = true := by
  unfold State.bootGo; simp; (repeat' split) <;> simp_all

@[simp] theorem writeBootHost_pending (s : State) (v : Word) (o : WriteObs) :
    (writeBootHost s v o).pending = s.pending := by
  simp [writeBootHost]

@[simp] theorem writeBootHost_wf (s : State) (v : Word) (o : WriteObs) (h : Memory.wf s.mem = true) :
    Memory.wf (writeBootHost s v o).mem = true := by
  unfold writeBootHost; (repeat' split) <;> simp [h]

@[simp] theorem State.applyReg_pending (s : State) (who : Requester) (k : RKey) (v : Word) (o : WriteObs) :
    (State.applyReg s who k v o).pending = s.pending := by
  unfold State.applyReg; (repeat' split) <;> simp

@[simp] theorem State.applyReg_wf (s : State) (who : Requester) (k : RKey) (v : Word) (o : WriteObs) (h : Memory.wf s.mem = true) :
    Memory.wf (State.applyReg s who k v o).mem = true := by
  unfold State.applyReg; (repeat' split) <;> simp [h]

@[simp] theorem State.write32_pending (s : State) (who : Requester) (a : Nat) (v : Word) (o : WriteObs) :
    (State.write32 s who a v o).pending = s.pending := by
  unfold State.write32; (repeat' split) <;> simp

@[simp] theorem State.write32_wf (s : State) (who : Requester) (a : Nat) (v : Word) (o : WriteObs) (h : Memory.wf s.mem = true) :
    Memory.wf (State.write32 s who a v o).mem = true := by
  unfold State.write32; (repeat' split) <;> simp [h]

@[simp] theorem State.write64_pending (s : State) (who : Requester) (a : Nat) (v : Word) (o : WriteObs) :
    (State.write64 s who a v o).pending = s.pending := by
  unfold State.write64; (repeat' split) <;> simp

@[simp] theorem State.write64_wf (s : State) (who : Requester) (a : Nat) (v : Word) (o : WriteObs) (h : Memory.wf s.mem = true) :
    Memory.wf (State.write64 s who a v o).mem = true := by
  unfold State.write64; (repeat' split) <;> simp [h]

@[simp] theorem State.writeSpace_pending (s : State) (who : Requester) (a : Nat) (wide : Bool) (v : Word) (o : WriteObs) :
    (State.writeSpace s who a wide v o).pending = s.pending := by
  unfold State.writeSpace; (repeat' split) <;> simp

@[simp] theorem State.writeSpace_wf (s : State) (who : Requester) (a : Nat) (wide : Bool) (v : Word) (o : WriteObs) (h : Memory.wf s.mem = true) :
    Memory.wf (State.writeSpace s who a wide v o).mem = true := by
  unfold State.writeSpace; (repeat' split) <;> simp [h]

@[simp] theorem State.writeReg_pending (s : State) (who : Requester) (a : Nat) (wide : Bool) (v : Word) (o : WriteObs) :
    (State.writeReg s who a wide v o).pending = s.pending := by
  unfold State.writeReg; (repeat' split) <;> simp

@[simp] theorem State.writeReg_wf (s : State) (who : Requester) (a : Nat) (wide : Bool) (v : Word) (o : WriteObs) (h : Memory.wf s.mem = true) :
    Memory.wf (State.writeReg s who a wide v o).mem = true := by
  unfold State.writeReg; (repeat' split) <;> simp [h]

@[simp] theorem State.writeKey_pending (s : State) (who : Requester) (k : RKey) (v : Word) (o : WriteObs) :
    (State.writeKey s who k v o).pending = s.pending := by
  simp [State.writeKey]

@[simp] theorem State.writeKey_wf (s : State) (who : Requester) (k : RKey) (v : Word) (o : WriteObs) (h : Memory.wf s.mem = true) :
    Memory.wf (State.writeKey s who k v o).mem = true := by
  simp [State.writeKey, h]

@[simp] theorem State.dmaWriteWords_pending (s : State) (e a : Nat) (b : DmaObs) (o : Nat) (bs : List Byte) (x0 : Nat) :
    (State.dmaWriteWords s e a b o bs x0).2.1.pending = s.pending := by
  induction x0 generalizing s a o bs with
  | zero => rfl
  | succ n ih =>
    unfold State.dmaWriteWords
    simp only []
    (repeat' split) <;> simp_all

@[simp] theorem State.dmaWriteWords_wf (s : State) (e a : Nat) (b : DmaObs) (o : Nat) (bs : List Byte) (x0 : Nat) (h : Memory.wf s.mem = true) :
    Memory.wf (State.dmaWriteWords s e a b o bs x0).2.1.mem = true := by
  induction x0 generalizing s a o bs with
  | zero => exact h
  | succ n ih =>
    unfold State.dmaWriteWords
    simp only []
    (repeat' split) <;> simp_all

@[simp] theorem State.dmaPut_pending (s : State) (e : Nat) (d : Desc) (o : Nat) (bs : List Byte) (b : DmaObs) :
    (State.dmaPut s e d o bs b).2.1.pending = s.pending := by
  unfold State.dmaPut; simp; (repeat' split) <;> simp_all

@[simp] theorem State.dmaPut_wf (s : State) (e : Nat) (d : Desc) (o : Nat) (bs : List Byte) (b : DmaObs) (h : Memory.wf s.mem = true) :
    Memory.wf (State.dmaPut s e d o bs b).2.1.mem = true := by
  unfold State.dmaPut; simp; (repeat' split) <;> simp_all

@[simp] theorem State.dmaMove_pending (s : State) (e : Nat) (d : Desc) (b : DmaObs) (upto : Nat) (x0 : Nat) (x1 : Nat) :
    (State.dmaMove s e d b upto x0 x1).1.pending = s.pending := by
  induction x0 generalizing s x1 with
  | zero => rfl
  | succ n ih =>
    unfold State.dmaMove
    generalize (if d.dkind = 2 then splitOff (s.payloadMax d.hport) (d.daddr + x1) (upto - x1) else min 16 (upto - x1)) = k
    simp only []
    (repeat' split) <;> simp [ih]

@[simp] theorem State.dmaMove_wf (s : State) (e : Nat) (d : Desc) (b : DmaObs) (upto : Nat) (x0 : Nat) (x1 : Nat) (h : Memory.wf s.mem = true) :
    Memory.wf (State.dmaMove s e d b upto x0 x1).1.mem = true := by
  induction x0 generalizing s x1 with
  | zero => exact h
  | succ n ih =>
    unfold State.dmaMove
    generalize (if d.dkind = 2 then splitOff (s.payloadMax d.hport) (d.daddr + x1) (upto - x1) else min 16 (upto - x1)) = k
    simp only []
    (repeat' split) <;> simp [ih, h]

@[simp] theorem State.dmaDeliver_pending (s : State) (e : Nat) (d : Desc) (b : DmaObs) (x0 : Nat) (x1 : Nat) (x2 : List Byte) :
    (State.dmaDeliver s e d b x0 x1 x2).1.pending = s.pending := by
  induction x0 generalizing s x1 x2 with
  | zero => rfl
  | succ n ih =>
    unfold State.dmaDeliver
    simp only []
    (repeat' split) <;> simp [ih]

@[simp] theorem State.dmaDeliver_wf (s : State) (e : Nat) (d : Desc) (b : DmaObs) (x0 : Nat) (x1 : Nat) (x2 : List Byte) (h : Memory.wf s.mem = true) :
    Memory.wf (State.dmaDeliver s e d b x0 x1 x2).1.mem = true := by
  induction x0 generalizing s x1 x2 with
  | zero => exact h
  | succ n ih =>
    unfold State.dmaDeliver
    simp only []
    (repeat' split) <;> simp [ih, h]

@[simp] theorem State.dmaComplete_pending (s : State) (e : Nat) (d : Desc) (o n : Nat) (c : DmaCpl) (b : DmaObs) :
    (State.dmaComplete s e d o n c b).pending = s.pending := by
  unfold State.dmaComplete; (repeat' split) <;> simp

@[simp] theorem State.dmaComplete_wf (s : State) (e : Nat) (d : Desc) (o n : Nat) (c : DmaCpl) (b : DmaObs) (h : Memory.wf s.mem = true) :
    Memory.wf (State.dmaComplete s e d o n c b).mem = true := by
  unfold State.dmaComplete; (repeat' split) <;> simp [h]

@[simp] theorem State.hsfStop_pending (s : State) (p : Nat) (moved : List Nat) (flr : Bool) :
    (State.hsfStop s p moved flr).pending = s.pending := by
  unfold State.hsfStop
  refine (State.each_pending ?_ _ _).trans (by simp)
  intro s e
  simp only []
  (repeat' split) <;> simp

@[simp] theorem State.hsfStop_wf (s : State) (p : Nat) (moved : List Nat) (flr : Bool) (h : Memory.wf s.mem = true) :
    Memory.wf (State.hsfStop s p moved flr).mem = true := by
  unfold State.hsfStop
  refine State.each_wf ?_ _ _ (by simp [h])
  intro s e h
  simp only []
  (repeat' split) <;> simp [h]

@[simp] theorem State.flrStart_pending (s : State) (p : Nat) (moved : List Nat) :
    (State.flrStart s p moved).pending = s.pending := by
  simp [State.flrStart]

@[simp] theorem State.flrStart_wf (s : State) (p : Nat) (moved : List Nat) (h : Memory.wf s.mem = true) :
    Memory.wf (State.flrStart s p moved).mem = true := by
  simp [State.flrStart, h]

@[simp] theorem State.bmeOff_pending (s : State) (p : Nat) (moved : List Nat) :
    (State.bmeOff s p moved).pending = s.pending := by
  simp [State.bmeOff]

@[simp] theorem State.bmeOff_wf (s : State) (p : Nat) (moved : List Nat) (h : Memory.wf s.mem = true) :
    Memory.wf (State.bmeOff s p moved).mem = true := by
  simp [State.bmeOff, h]

@[simp] theorem State.hsfConfig_pending (s : State) (p off v : Nat) (enable : Fin 16) (moved : List Nat) :
    (State.hsfConfig s p off v enable moved).pending = s.pending := by
  simp [State.hsfConfig]

@[simp] theorem State.hsfConfig_wf (s : State) (p off v : Nat) (enable : Fin 16) (moved : List Nat) (h : Memory.wf s.mem = true) :
    Memory.wf (State.hsfConfig s p off v enable moved).mem = true := by
  unfold State.hsfConfig; simp; (repeat' split) <;> simp_all

@[simp] theorem State.barAccess_pending (s : State) (p : Nat) (r : BarReq) (lost : Bool) (o : WriteObs) :
    (State.barAccess s p r lost o).pending = s.pending := by
  unfold State.barAccess; simp; (repeat' split) <;> simp_all

@[simp] theorem State.barAccess_wf (s : State) (p : Nat) (r : BarReq) (lost : Bool) (o : WriteObs) (h : Memory.wf s.mem = true) :
    Memory.wf (State.barAccess s p r lost o).mem = true := by
  unfold State.barAccess; simp; (repeat' split) <;> simp_all

@[simp] theorem State.debugRun_pending (s : State) (a : Nat) (wide : Bool) (write : Option Word) (lost : Bool) (o : WriteObs) :
    (State.debugRun s a wide write lost o).pending = s.pending := by
  unfold State.debugRun; simp; (repeat' split) <;> simp_all

@[simp] theorem State.debugRun_wf (s : State) (a : Nat) (wide : Bool) (write : Option Word) (lost : Bool) (o : WriteObs) (h : Memory.wf s.mem = true) :
    Memory.wf (State.debugRun s a wide write lost o).mem = true := by
  unfold State.debugRun; simp; (repeat' split) <;> simp_all

end Sys2Proof.Machine
end

