-- ==== Sys2Proof/Laws/Writes.lean ====
section
/-! SUPPORT. What a write of a register named by its key comes to: the register's own effect, once the map, the width and the
posted writes of its seat have been seen to. -/

namespace Sys2Proof.Machine

/-- No register stands in the scratchpad's window (R360, R569). -/
theorem rows_outside_window :
    (allRegs.all (fun r => Nat.ble r.row.stop windowBase || Nat.ble (windowBase + memSize) r.row.base)) = true := by decide +kernel

theorem windowOffset_addr {k : RKey} (hk : k.valid = true) : windowOffset k.addr = none := by
  have h := (List.all_eq_true.mp rows_outside_window) k.r (mem_allRegs _)
  have hr := addr_range hk (b := 0) (by unfold Reg.size; split <;> omega)
  simp only [Bool.or_eq_true, Nat.ble_eq] at h
  unfold windowOffset
  rw [if_neg (by omega)]

/-- A whole write of a register where it may be written: its own effect, with a held half dropped where it is 64 bits wide (R11). -/
theorem writeSpace_key {k : RKey} (hk : k.valid = true) (hu : ¬(k.r = .ICF_UGRANT ∧ k.i = 32)) (s : State) (who : Requester)
    (v : Word) (o : WriteObs) (hm : s.mayWrite who k = true) :
    s.writeSpace who k.addr k.r.row.wide v o =
      if k.r.row.wide then (s.dropLatch who k.addr true).applyReg who k v o else s.applyReg who k (lowHalf v) o := by
  unfold State.writeSpace
  rw [windowOffset_addr hk]
  simp only []
  split
  · unfold State.write64
    rw [regAt_addr hk hu]
    simp only [*, if_true]
  · unfold State.write32
    rw [regAt_addr hk hu]
    simp [*]

/-- What no earlier write holds back goes on as it is. -/
theorem unblock_begun {t : State} {n : Nat} (h : ∀ w, (t.seat n).wait = some w → w.begun = true) : t.unblock n = t := by
  unfold State.unblock
  split
  · cases hw : (t.seat n).wait with
    | none => rfl
    | some w => simp [h w hw]
  · rfl

/-- A write of a register by any requester that has no posted writes: its own effect; for a seat, what it waits in then begins. -/
theorem writeKey_settled {s : State} {who : Requester} {k : RKey} (hk : k.valid = true) (hu : ¬(k.r = .ICF_UGRANT ∧ k.i = 32))
    (h : s.Writes who k) (v : Word) (o : WriteObs) :
    s.writeKey who k v o =
      let t := if k.r.row.wide then (s.dropLatch who k.addr true).applyReg who k v o else s.applyReg who k (lowHalf v) o
      match who with
      | .seat n => t.unblock n
      | _ => t := by
  obtain ⟨hm, _, hs⟩ := h
  unfold State.writeKey State.writeReg
  cases who with
  | seat n =>
    have hp := (hs n rfl).1
    simp only [hp, heldBack, State.dropPosted, takeFirst]
    rw [writeSpace_key hk hu s _ v o hm]
    rfl
  | bar0 p => exact writeSpace_key hk hu s _ v o hm
  | dma e => exact writeSpace_key hk hu s _ v o hm
  | debug => exact writeSpace_key hk hu s _ v o hm

/-- The same where the effect leaves the seat's wait one that has begun. -/
theorem writeKey_effect {s : State} {who : Requester} {k : RKey} (hk : k.valid = true) (hu : ¬(k.r = .ICF_UGRANT ∧ k.i = 32))
    (h : s.Writes who k) (v : Word) (o : WriteObs)
    (hw : ∀ n, who = .seat n → ∀ w,
      ((if k.r.row.wide then (s.dropLatch who k.addr true).applyReg who k v o else s.applyReg who k (lowHalf v) o).seat n).wait =
        some w → w.begun = true) :
    s.writeKey who k v o =
      if k.r.row.wide then (s.dropLatch who k.addr true).applyReg who k v o else s.applyReg who k (lowHalf v) o := by
  rw [writeKey_settled hk hu h v o]
  cases who with
  | seat n => exact unblock_begun (hw n rfl)
  | bar0 p => rfl
  | dma e => rfl
  | debug => rfl

end Sys2Proof.Machine
end

