-- ==== Sys2Proof/WellFormed.lean ====
section
/-! DEFINITION. Which commands a sender can form: the bounds of operands that their types do not give. A meaning is total all the
same. -/

namespace Sys2Proof

open Machine

/-- A requester that exists (R304, R353, R19). -/
def Machine.Requester.wf : Requester → Bool
  | .seat n => decide (n < 16)
  | .dma e => decide (e < 4)
  | .debug => true
  | .bar0 p => decide (p < 256)

/-- A dispatch takes at least one cycle from the last (R305). -/
def Machine.Disp.wf (d : Disp) : Bool := decide (1 ≤ d.dt)

/-- Samples stand at least one tick apart (R443). -/
def Machine.BayObs.wf (o : BayObs) : Bool := decide (1 ≤ o.dt)

/-- The levels of a codeword: 4 or 8 lanes, which share its 1,280 (R202). -/
def codewordWf (lens : List Nat) : Bool := (lens.length == 4 || lens.length == 8) && lens.all (fun n => n * lens.length == 1280)

/-- The coefficients that a far receiver can ask for have 6 bits (R258). -/
def Machine.EqAsk.wf : EqAsk → Bool
  | .preset _ => true
  | .coefs pre post => decide (pre < 64) && decide (post < 64)

def Machine.LaneTrained.wf (l : LaneTrained) : Bool := l.asks.all EqAsk.wf

/-- A condition becomes true on no more cycles than it is true (R497). -/
def Machine.CycleObs.wf (o : CycleObs) : Bool := o.evt.val == 0x06 || decide (o.times ≤ o.cycles)

/-- The fields of an Init message fit their widths (R217). -/
def Machine.InitMsg.wf (m : InitMsg) : Bool := decide (m.swid < 1024) && decide (m.width < 4) && decide (m.rate < 2)

/-- A host request's address and tag fit their widths. -/
def Machine.HostReq.wf (r : HostReq) : Bool :=
  decide (r.hpa < 2 ^ 52) && decide (r.tag < 65536) && r.dpa.all (fun a => decide (a < 2 ^ 52))

/-- The identifiers of a device have 16 bits (R245). -/
def Machine.EnumResp.wf : EnumResp → Bool
  | .header _ ven dev => decide (ven < 65536) && decide (dev < 65536)
  | _ => true

/-- A completion with data carries some (R413). -/
def Machine.DmaCpl.wf : DmaCpl → Bool
  | .data bytes _ => !bytes.isEmpty
  | .error => true

/-- A BAR request has a length and lies inside its BAR (R407). -/
def Machine.BarReq.wf (r : BarReq) (size : Nat) : Bool :=
  let n := match r.op with
    | .read k => k
    | .write bs => bs.length
  decide (1 ≤ n) && decide (r.off + n ≤ size)

/-- An access of 4 or 8 bytes is aligned. -/
def aligned (a : Nat) (wide : Bool) : Bool := a % (if wide then 8 else 4) == 0

/-- Whether an address is that of a register that any write clears (R573). -/
def clears (a : Nat) : Bool :=
  match regAt a with
  | some (k, 0) => k.r.clears
  | _ => false

/-- Whether a performance counter exists, by bank, instance and index (R493). -/
def counterThere (bank i j : Nat) : Bool :=
  match bank with
  | 0 => decide (i < 16) && decide (j = 0)
  | 1 => decide (i < 256) && decide (j < 8)
  | _ => decide (i < 1024) && decide (j < 4)

/-- Whether a register has an instance (R578). -/
def Machine.RKey.present (k : RKey) : Bool := decide (k.i < k.r.row.count) && decide (k.j < k.r.row.inner)

/-- The largest image that fits the scratchpad (R311, R360). -/
def imageMax : Nat := 0x200000

/-- The commands that a sender can form. -/
def Instr.wf : Instr → Bool
  | .registerWrite who addr wide _ _ => who.wf && aligned addr.val wide
  | .counterClear who addr _ => who.wf && clears addr.val
  | .hostRequest _ r => r.wf
  | .skeinEntryWrite who _ _ _ => who.wf
  | .addDcResponse _ listed => listed.all (fun e => decide (e.2 < if e.1 then 32 else 65536))
  | .releaseDynamicCapacity _ _ _ => true
  | .dceAdd who _ _ => who.wf
  | .dceReleaseRequest who _ _ => who.wf
  | .dceForcedRelease who _ _ => who.wf
  | .rdceAdd who _ _ => who.wf
  | .rdceReleaseRequest who _ _ => who.wf
  | .rdceForcedRelease who _ _ => who.wf
  | .identifyMemoryDevice _ => true
  | .getSupportedLogs _ => true
  | .getLog _ => true
  | .getEventRecords _ _ => true
  | .clearEventRecords _ _ _ => true
  | .getEventInterruptPolicy _ => true
  | .setEventInterruptPolicy _ policy => decide (policy < 2 ^ 32)
  | .getDcConfiguration _ => true
  | .getDcExtentList _ => true
  | .getTimestamp _ _ => true
  | .setTimestamp _ stamp => decide (stamp < 2 ^ 64)
  | .unsupportedMailboxCommand _ => true
  | .epochActivate _ => true
  | .epochComplete _ => true
  | .scrubGo who _ _ => who.wf
  | .scrubComplete _ => true
  | .crewCreate who _ => who.wf
  | .crewDelete who _ => who.wf
  | .crwCtlWrite who _ _ => who.wf
  | .crwMemWrite who _ _ _ => who.wf
  | .coherentRequest _ _ _ _ => true
  | .evictionComplete _ _ _ => true
  | .writeback _ _ _ => true
  | .snoopAnswer _ _ _ => true
  | .completionNotice _ => true
  | .parkedReplay _ _ _ _ => true
  | .nackReceived _ => true
  | .backoffExpiry _ _ => true
  | .parkNoticeReceived _ => true
  | .backInvalidateDelivery _ => true
  | .hostSnoopAnswer _ _ _ _ => true
  | .biconflict _ _ => true
  | .snoopTimeout _ _ => true
  | .dataToRequester _ => true
  | .fenceCause which other => other.all (fun k => k != which)
  | .fenceNoticeAtPortAgent _ => true
  | .fenceNoticeAtSlice _ => true
  | .purgeSlot _ _ _ _ => true
  | .crewFenced _ => true
  | .sliceStopTaken _ _ => true
  | .scanSlot _ _ _ _ => true
  | .scanComplete => true
  | .coreMessagePlace _ => true
  | .stripeTimeout _ _ _ => true
  | .stripeStart _ => true
  | .planeItemTake _ _ _ _ => true
  | .outputSelect _ _ => true
  | .outputCellRead _ _ _ => true
  | .reassemblyTimeout _ _ _ => true
  | .tmRelease _ _ _ _ => true
  | .redAgeExpiry _ _ => true
  | .queueSample _ _ _ => true
  | .histogramClearAll who _ => who.wf
  | .fabricPacketForward _ => true
  | .fabricAdmission _ _ => true
  | .fabricToAgent _ => true
  | .fenceRequestReceived => true
  | .fenceBypassRelay _ => true
  | .remoteFenceNotice _ => true
  | .linkLossNotice _ => true
  | .flitReceived _ lanes packets => codewordWf (lanes.map (·.length)) && decide (packets.length ≤ 4)
  | .flitTransmit _ => true
  | .replayStart _ => true
  | .replayTimeout _ _ => true
  | .creditTimeout _ _ _ => true
  | .ltbReceived _ _ _ => true
  | .initReceived _ m grants => m.wf && decide (grants.length ≤ 6)
  | .trainingTimeout _ _ => true
  | .lflDownHoldExpiry _ => true
  | .linkDown _ causes => !causes.isEmpty
  | .steeringOut _ => true
  | .steeringBack _ => true
  | .steeringMeas _ => true
  | .steeringRetire _ => true
  | .steeringRefuse _ => true
  | .heatGo who _ _ _ => who.wf
  | .heatAbort who _ _ _ => who.wf
  | .heatStepDone _ _ _ _ => true
  | .mirrorReady _ => true
  | .clearRetirement who _ _ => who.wf
  | .marginScan who _ _ => who.wf
  | .marginScanDone _ _ _ _ _ _ _ => true
  | .laneMarginingCommand _ _ => true
  | .losAssert _ => true
  | .losRelease _ => true
  | .lolAssert _ => true
  | .lockAssert _ => true
  | .eqCandidateEval _ _ _ _ => true
  | .txEqTimeLimit _ => true
  | .eqPhaseLimit _ => true
  | .checkerLock _ => true
  | .checkerLockLoss _ _ _ => true
  | .farEndRecenter _ => true
  | .l0Reached _ _ _ _ _ _ _ _ lanes => decide (lanes.length ≤ 16) && lanes.all LaneTrained.wf
  | .pcieTrainingLimit _ _ => true
  | .portLinkDown _ _ => true
  | .portDownHoldExpiry _ => true
  | .enumResponse _ r _ => r.wf
  | .enumTimeout _ => true
  | .memoryResponse _ _ _ _ => true
  | .memoryCompletionTimeout _ _ => true
  | .viralFromHost _ => true
  | .viralFromMemoryDevice _ => true
  | .pmeTurnOff _ => true
  | .l0pRequest _ _ => true
  | .vppbSecondaryBusReset _ _ => true
  | .deviceTlp _ _ _ => true
  | .deviceConfigWrite _ _ _ _ => true
  | .setEndpointId _ => true
  | .identifySwitchDevice _ => true
  | .getPhysicalPortState _ _ => true
  | .physicalPortControl _ _ => true
  | .sendPpbCxlIoConfigRequest _ _ _ _ _ => true
  | .getVirtualCxlSwitchInfo _ _ => true
  | .bindVppb _ _ _ _ => true
  | .unbindVppb _ _ => true
  | .getDcdInfo _ => true
  | .getHostDcRegionConfiguration _ _ => true
  | .getDcRegionExtentLists _ _ => true
  | .initiateDynamicCapacityAdd _ _ _ _ _ _ _ => true
  | .initiateDynamicCapacityRelease _ _ _ => true
  | .unsupportedFmCommand _ => true
  | .seatStart who _ _ => who.wf
  | .seatStop who _ => who.wf
  | .intrapClear => true
  | .imageLoad who _ _ _ => who.wf
  | .imageLoadDone _ => true
  | .eventHandoff _ _ => true
  | .waitevTimeout _ _ => true
  | .stopfComplete _ _ => true
  | .add d => d.wf
  | .sub d => d.wf
  | .and_ d => d.wf
  | .or_ d => d.wf
  | .xor_ d => d.wf
  | .andn d => d.wf
  | .sll d => d.wf
  | .srl d => d.wf
  | .sra d => d.wf
  | .slt d => d.wf
  | .sltu d => d.wf
  | .mul d => d.wf
  | .mulh d => d.wf
  | .div d => d.wf
  | .divu d => d.wf
  | .rem d => d.wf
  | .clz d => d.wf
  | .ctz d => d.wf
  | .popc d => d.wf
  | .bswap d => d.wf
  | .ext d => d.wf
  | .exts d => d.wf
  | .ins d => d.wf
  | .mfsr d => d.wf
  | .mtsr d => d.wf
  | .addi d => d.wf
  | .andi d => d.wf
  | .ori d => d.wf
  | .xori d => d.wf
  | .slli d => d.wf
  | .srli d => d.wf
  | .srai d => d.wf
  | .slti d => d.wf
  | .sltiu d => d.wf
  | .li d => d.wf
  | .lih d => d.wf
  | .beq d => d.wf
  | .bne d => d.wf
  | .blt d => d.wf
  | .bge d => d.wf
  | .bltu d => d.wf
  | .bgeu d => d.wf
  | .bbs d => d.wf
  | .bbc d => d.wf
  | .jal d => d.wf
  | .jalr d => d.wf
  | .ld8 d => d.wf
  | .ld16 d => d.wf
  | .ld32 d => d.wf
  | .ld64 d => d.wf
  | .st8 d => d.wf
  | .st16 d => d.wf
  | .st32 d => d.wf
  | .st64 d => d.wf
  | .ldp d => d.wf
  | .stp d => d.wf
  | .cas d => d.wf
  | .fadd d => d.wf
  | .frd32 d => d.wf
  | .frd64 d => d.wf
  | .fwr32 d => d.wf
  | .fwr64 d => d.wf
  | .stopf d => d.wf
  | .startf d _ => d.wf
  | .epoch d => d.wf
  | .fence d => d.wf
  | .scanCount d => d.wf
  | .scanFlush d => d.wf
  | .heatStartCmd d => d.wf
  | .heatAbortCmd d => d.wf
  | .bayEnable d => d.wf
  | .bayOff d => d.wf
  | .bayClear d _ => d.wf
  | .bayIndicate d => d.wf
  | .bayAuxOn d => d.wf
  | .dma d => d.wf
  | .dmaDone _ _ => true
  | .waitev d => d.wf
  | .postev d => d.wf
  | .fsync d => d.wf
  | .yield d => d.wf
  | .halt d => d.wf
  | .trap d => d.wf
  | .secureRegionLock who => who.wf
  | .tamperAssert _ => true
  | .wipeComplete _ => true
  | .fifoPointerReset _ => true
  | .drainTrackerRestart _ => true
  | .debugAccess addr wide _ _ _ _ => aligned addr.val wide
  | .nocTimeout _ => true
  | .bridgeDown _ => true
  | .bridgeUp _ => true
  | .alertAtRoot => true
  | .alertDelivery _ => true
  | .bar0Request _ r _ _ => r.wf 0x4000000
  | .bar2Request _ r => r.wf 0x800000
  | .initiateFlr _ moved => decide (moved.length ≤ 4)
  | .flrTxCutoff _ _ => true
  | .flrAck who _ => who.wf
  | .flrTimeout _ _ => true
  | .busMasterEnableClear _ moved => decide (moved.length ≤ 4)
  | .dmaResume who _ => who.wf
  | .hsfIrq who _ _ => who.wf
  | .msixPendingSend _ _ => true
  | .d3hotEntry _ moved => decide (moved.length ≤ 4)
  | .dmaCompletionTimeout _ => true
  | .sliceCreate who _ => who.wf
  | .sliceDelete who _ => who.wf
  | .doorbell _ _ => true
  | .commandAreaWrite _ off bytes => decide (1 ≤ bytes.length) && decide (off.val + bytes.length ≤ 256)
  | .mailboxDone who _ _ => who.wf
  | .comparatorTrip _ _ => true
  | .comparatorTripTaken _ _ => true
  | .faultTimerExpiry _ _ _ o => o.wf
  | .overTemperatureTrip _ o _ => o.wf
  | .fallbackLimitTrip _ o _ => o.wf
  | .estimateSourceChange _ o => o.wf
  | .rampTimeout _ _ => true
  | .rampHold _ o => o.wf
  | .rampResume _ o => o.wf
  | .powerGood _ _ _ => true
  | .holdOffExpiry _ => true
  | .rampBegin _ o => o.wf
  | .onRetryReset _ => true
  | .presenceQualified _ => true
  | .presenceLost _ _ => true
  | .attnPress _ => true
  | .attnRelease _ => true
  | .attnLongPress _ => true
  | .inputLoss _ _ _ => true
  | .inputReturn _ _ => true
  | .shareError _ => true
  | .shareClear _ => true
  | .damageFound _ _ => true
  | .indicatorShift _ _ => true
  | .bayLockout => true
  | .bayLockoutRelease => true
  | .faultReport _ _ => true
  | .faultWindowClose _ => true
  | .sourceClear who _ => who.wf
  | .safeRequest who => who.wf
  | .parityError _ => true
  | .safeNoticePort _ => true
  | .safeNoticeEngine => true
  | .safeNoticeBay => true
  | .faultQueuePop _ _ => true
  | .safeQueuePop _ _ => true
  | .pmcFreeze who _ => who.wf
  | .pmcFlush who _ => who.wf
  | .pmcClearAll who _ => who.wf
  | .accumulatorSend _ _ obs => obs.all CycleObs.wf
  | .pmcCounterClear who bank i j _ => who.wf && counterThere bank.val i.val j.val
  | .tdSnap who _ _ => who.wf
  | .tdClear who _ _ => who.wf
  | .dirEidxRead who _ _ _ => who.wf
  | .dirEidxDone _ _ _ => true
  | .refclkLoss _ => true
  | .refclkGood _ => true
  | .hkclkLoss => true
  | .powerOnReset _ => true
  | .coldReset => true
  | .warmReset => true
  | .glbColdResetRequest who => who.wf
  | .glbWarmResetRequest who => who.wf

  | .fuseLoad _ _ _ _ _ _ => true
  | .pllLockTimeout _ => true
  | .bootSequence _ slotA slotB => decide (slotA.length ≤ imageMax) && decide (slotB.length ≤ imageMax)
  | .bootHostGo who _ _ image => who.wf && image.all (fun b => decide (b.length ≤ imageMax))
  | .keySlotProgram who _ _ => who.wf
  | .keySlotRevoke who _ => who.wf
  | .fwMinVersionRaise who => who.wf
  | .userMinVersionRaise who => who.wf
  | .fuseBurnDone _ _ => true
  | .lifecycleTransition who _ _ => who.wf
  | .lifecycleCommitDone => true
  | .thermalSample readings => readings.length == 11
  | .thermtrip => true
  | .railOutOfTolerance => true
  | .hostConfigurationWrite _ _ _ _ _ moved => decide (moved.length ≤ 4)
  | .dmaReadCompletion _ _ c _ _ => c.wf
  | .heatSpareLockTimeout _ _ => true
  | .memoryActiveTimeout _ => true
  | .managerMailboxCommand _ => true

end Sys2Proof
end

