-- ==== Sys2Proof/Tests/Slice0.lean ====
section
/-! SUPPORT. Tests of the model: terms that WellFormed refuses, values of the spec's worked examples, and for every statement with
hypotheses a state and operands that meet them. -/

section
set_option Elab.async false
set_option linter.unusedVariables false

namespace Sys2Proof.Tests

open Sys2Proof Sys2Proof.Machine

/-! States that the tests and witnesses use -/

/-- A state with one port, slice, half link, lane and so on of its own. -/
def w0 : State := State.reset
def wE : State := w0.setSeatState 0 seatReady
def wP (p : Nat) (q : Port) : State := w0.setPort p q
def wS (d : Nat) (q : Slice) : State := w0.setSlice d q
def d1 : Disp := { seat := 0, rd := 2, rs1 := 1 }
def d3 : Disp := { seat := 0, rd := 3, rs1 := 1, rs2 := 2 }
/-- Seat 0 Ready with v in g1. -/
def wG (v : Word) : State := wE.setGreg 0 1 v
/-- A state with an instruction's word at its seat's pc. -/
def wI (i : Instr) (s : State) : State :=
  match i.code with
  | some (d, f, op) => s.setInstr ((s.seat d.seat.val).pc / 8) (d.word f op)
  | none => s
theorem slot0 {s : State} {d pipe dt : Nat} (h : ((s.slice d).cycle dt).slotOpen pipe = true) : s.slotFree d pipe dt := h

theorem writes0 {s : State} {k : RKey} (h : (s.mayWrite (.seat 0) k && !s.blank k && (s.seat 0).posted.isEmpty &&
    (s.seat 0).wait.isNone) = true) : s.Writes (.seat 0) k := by
  simp only [Bool.and_eq_true, Bool.not_eq_true', List.isEmpty_iff, Option.isNone_iff_eq_none] at h
  refine ⟨h.1.1.1, h.1.1.2, ?_⟩
  intro n hn
  cases hn
  exact ⟨h.1.2, fun w hw => by simp [h.2] at hw⟩

theorem settled0 {s : State} {n : Nat} (h : ((s.seat n).posted.isEmpty && (s.seat n).wait.isNone) = true) : s.Settled n := by
  simp only [Bool.and_eq_true, List.isEmpty_iff, Option.isNone_iff_eq_none] at h
  exact ⟨h.1, fun w hw => by simp [h.2] at hw⟩

/-- A host port in use, and things that port and slice witnesses hold. -/
def wHost : State := ((w0.setFld PRT_CTL.ROLE 1 3).setFld PRT_STS.STATE 4 3).setFld PRT_STS.LUP 1 3 |>.setFn (fidPort 3) { run := .running }
def wEnt : OutEntry := { tag := 5, hostTag := 9, kind := .ncRead .s, phase := .sent, feid := 1, crew := 3, mport := 0, addr := 0, slice := 0, epoch := 0 }
def wBack : State := wHost.modPort 3 (fun q => { q with out := [{ wEnt with phase := .backoff, crew := 0xFF }] })
def wSnp : SnpEntry := { slice := 0, crew := 3, feid := 1, mport := 0, addr := 0, kind := .inv, tmo := 9 }
def wReq : Msg := { body := .cohReq .sRead, crew := 3, feid := 1, slice := 5 }
def wTxn : Txn := { kind := .request .sRead, req := wReq, set := 0, way := 0, mport := 0, addr := 0, crew := 3, stage := .snooping, awaiting := [1, 2] }
def wScan : Scan := { seat := none, rd := 0, flush := false, crew := 3, skein := none,
                      left := (List.range 128).map (fun k => (k, 0)) }
/-- Held skein 7 that host port 3 has accepted. -/
def wAccepted : State :=
  ((wHost.wr ⟨.SKN_W1, 7, 0⟩ 0x1000000010000).wr ⟨.SKN_W2, 7, 0⟩ 3).setFld SKN_W0.STATE skHeld 7
def wLoad (s : State) (l : LoadSt) : State := { s with eng := { s.eng with load := some l } }
/-- A firmware image of one word at 0 of the scratchpad, and its load. -/
def wImage : State :=
  wLoad ((((w0.store 0 4 0x1CFE0001).store 12 4 8).store 256 8 0x1122334455667788).setFld ICF_CTL.USPLIT 1)
    { kind := 0, src := 0, dst := 0, lockRefused := false }
def dFill : Desc := { skind := 3, dkind := 0, hport := 0, pv := false, pasid := 0, len := 16, saddr := 0, daddr := 256,
                      pattern := 0x1122334455667788 }
def dDma : Disp := { seat := 0, rd := 2, rs1 := 1, imm := 2 }
/-- A seat with a descriptor of the given first word at 64 of the scratchpad. -/
def wDma (v : Word) : State := (wG 64).store 64 8 v
/-- A host port whose vector 5 can be sent. -/
def wVec : State :=
  (((wHost.setSeatState 0 seatReady).setCfg 3 4 6).setCfg 3 0x90 0x80000000).setHsf 3 { table := [(23, 0)] }
def wBar : State := (wHost.setCfg 3 4 6).setHsf 3 { mgr := true }
/-- A host port with tenant slice 7 in a state. -/
def wSl (st : Nat) : State :=
  (((wHost.setSeatState 0 seatReady).setCfg 3 4 6).setFld SLC_CTL.HPORT 3 7).setFld SLC_STS.STATE st 7
def dHost : Desc := { dFill with skind := 2, hport := 3 }
/-- A host port for which two engines move data. -/
def wBusy : State :=
  ((wHost.setCfg 3 4 6).setDma 1 { desc := some dHost, reads := [(0, 16)] }).setDma 2 { desc := some { dFill with dkind := 2, hport := 3, daddr := 4096 } }
/-- A memory port that serves, and a host port with its link up. -/
def wMem : State := (((w0.setFld PRT_CTL.ROLE 4 3).setFld PRT_STS.STATE 4 3).setFld PRT_STS.LUP 1 3).setFn (fidPort 3) { run := .running }
def wMsg : Msg := { body := .memRead .s, dsts := [256], cls := 2, len := 16 }
def wPart : Part := { msg := wMsg, chunks := 1, head := true, tail := true }
def wStripe : Stripe := { src := 7, cls := 2, targets := [(256, 0)], mc := false, parts := [wPart] }
def wItem : Item := { kind := .data, src := 7, cls := 2, targets := [(256, 0)], mc := false, slot := 0, fill := 1, first := 0 }
def wNotices (n : Nat) : List Notice := (List.range n).map (fun k => ⟨7, 2, 0, k, k, 1, 0, false,
  if k = 0 then none else some k⟩)
/-- A memory port with one message in its queue 62. -/
def wRel : State :=
  ((wMem.setFn (fidShaper 3) { run := .running }).setQueue (64 * 3 + 62) { msgs := [{ msg := wMsg, counted := 16, red := false }] })
def wRelU : State := wRel.each (List.range 64) (fun s n => s.setQueue (64 * 3 + n) ((s.queue (64 * 3 + n)).refill 0))
/-- A switch with SWID 5 whose fabric ports 4 and 8 run with Active links, 8 leading to switch 7. -/
def wFab : State :=
  ((((((((((((w0.setFld PRT_CTL.ROLE 4 4).setFld PRT_CTL.WIDTH 1 4).setFld PRT_CTL.WIDTH 1 8).setFld PRT_STS.STATE 4 4).setFld
    LFL_STS.STATE 10 2).setFn (fidPort 4) { run := .running }).setFld PRT_CTL.ROLE 4 8).setFld LFL_STS.STATE 10 4).setFn (fidPort 8) { run := .running }).setFld CORE_FAB_ID.SWID 5).setFld
    CORE_SW_RT.VLD 1 7).setFld CORE_SW_RT.PORT 8 7).setFld PRT_STS.STATE 4 8
def wHdr : FabHdr := { dswid := 7, sswid := 9, hops := 4, kind := 0, sfeid := 1, dfeid := 2, hcrew := 3, hskein := 0, offset := 0 }
/-- Port 4 with one packet received on channel 1, and after it has left. -/
def wRx (m : Msg) : State := wFab.modHalf 2 (fun q => { q with rx := [(1, m)] })
def wRxU (m : Msg) : State := (wRx m).modHalf 2 (fun q => { q with rx := [] })
def wPkt (b : Body) (h : FabHdr) : Msg := { body := b, fab := some h }
def wByp (l : List BypMsg) : State := wFab.modHalf 2 (fun q => { q with bypRx := l })
def wBypU (l : List BypMsg) : State := l.foldl (fun s _ => s) ((wByp l).modHalf 2 (fun x => Half.giveBack { x with bypRx := l.drop 1 } 5 1))
def wNote : Notice := ⟨7, 2, 0, 0, 0, 1, 0, false, some 0⟩
def wScrub : Msg := { body := .scrub 5, cls := 4, len := 80, eq := 63, mport := 3 }
def wScr : State :=
  ((wMem.setFn (fidShaper 3) { run := .running }).setQueue (64 * 3 + 63) { rate := 1, sc := 64, msgs := [{ msg := wScrub, counted := 16, red := false }] })
def wScrU : State := wScr.each (List.range 64) (fun s n => s.setQueue (64 * 3 + n) ((s.queue (64 * 3 + n)).refill 0))
def wHeatable : State :=
  (((wG 4).setFld PRT_CTL.ROLE 4 4).setFld LFL_STS.STATE 10 (halfOf 4)).setFn (fidPort 4) { run := .running }
def wFlit : Flit := { ftype := 0, seq := 0, rgen := 0, slots := [], byp := none, ctl := ⟨0, false, 0, 0, 0, 0, 0⟩ }
/-- The levels on the far lanes of port 4 that carry 256 symbols, of which the last ones are given and the others 0. -/
def wSyms (t : List Nat) : List Nat := List.replicate (256 - t.length) 0 ++ t
def wLevels (t : List Nat) : List (List (Fin 4)) :=
  (List.range (wFab.portWidth 4)).map (fun k =>
    (laneSymbols (wFab.portWidth 4) k (wSyms t)).flatMap (fun y => (symLevels y).map (Fin.ofNat 4)))
/-- The last symbols of a null flit's codeword, and those of a multiple of fifteen of the generator's sixteen factors. -/
def wNull : List Nat :=
  [2, 598, 935, 346, 516, 409, 805, 907, 375, 294, 602, 569, 477, 38, 874, 896, 949, 688, 308, 648]
def wNoise : List Nat := [1, 792, 769, 477, 965, 180, 5, 833, 936, 650, 38, 594, 684, 266, 944, 688]

theorem gfEval_pad (t : List Nat) (n x : Nat) : gfEval (t ++ List.replicate n 0) x = gfEval t x := by
  have z : ∀ (k b : Nat), gfMulBits 0 b k = 0 := by
    intro k
    induction k with
    | zero => intro b; rfl
    | succ k ih => intro b; simp [gfMulBits, ih, gfDouble]
  have h : ∀ n, gfEval (List.replicate n 0) x = 0 := by
    intro n
    induction n with
    | zero => rfl
    | succ n ih =>
      have ih' : (List.replicate n 0).foldr (fun c v => Nat.xor c (gfMul v x)) 0 = 0 := ih
      show Nat.xor 0 (gfMul ((List.replicate n 0).foldr (fun c v => Nat.xor c (gfMul v x)) 0) x) = 0
      rw [ih']
      show Nat.xor 0 (gfMulBits 0 x 10) = 0
      rw [z]
      rfl
  unfold gfEval at h ⊢
  rw [List.foldr_append, h]

theorem syndromes_pad (t : List Nat) (n : Nat) : syndromes (List.replicate n 0 ++ t) = syndromes t := by
  simp [syndromes, gfEval_pad]

theorem decodes {ys t : List Nat} (h : ys = wSyms t) (z : (syndromes t).all (· == 0) = true) : rsDecode ys = some (0, ys) := by
  subst h
  simp only [rsDecode, wSyms, syndromes_pad, z, if_true]

theorem undecodable {ys t : List Nat} (h : ys = wSyms t) (z : (syndromes t).all (· == 0) = false)
    (l : 8 < ((List.range 16).foldl (Locator.step (syndromes t)) {}).l) : rsDecode ys = none := by
  subst h
  simp only [rsDecode, wSyms, syndromes_pad, z]
  rw [if_neg (by decide), if_neg (fun x => by omega)]
def wLtb : Ltb := { align := .normal, crcGood := true, tstate := 0, lane := 0, spreq := 15, spack := 0, eqOp := 0, preset := 0, pre := 0,
                    post := 0, st := 0, apre := 0, apost := 0, done := false }
def wBlock : BitVec 320 := BitVec.ofNat 320 wLtb.bits
def wHeat (st : HeatStep) (ini : Bool) : Heat := { initiator := ini, todo := [], lane := 1, step := st, thr := 0 }
/-- Port 4 in a state of its link. -/
def wLfl (st : Nat) : State := wFab.setFld LFL_STS.STATE st 2
def wLn : State := (w0.setFld LN_STS.MAP 0 8).setFld LN_STS.RXON 1 8
def wInit : InitMsg := { swid := 9, swvld := true, ackd := true, width := 0, rate := 0 }
/-- A PCIe device port bound to a host port. -/
def wBound : State :=
  ((((wHost.setFld PRT_CTL.ROLE 3 4).setFld PRT_STS.STATE 4 4).setFld PRT_BIND.VLD 1 4).setFld PRT_BIND.HPORT 3 4).setFn (fidPort 4)
    { run := .running }
def wFill : State := wI (.dma dDma) (wDma 0x3000000000000010)
def wNoc (q : NocReq) (s : State) : State := { s with noc := { s.noc with outstanding := [q] } }
def wFlt (f : FltSt → FltSt) (s : State) : State := { s with flt := f s.flt }
def wChip (f : Chip → Chip) (s : State) : State := { s with chip := f s.chip }
def wBay (st : Nat) : State :=
  ((((w0.setFld BAY_STS.STATE st 3).setFld BAY_STS.PRSNT 1 3).setFld BAY_STS.ESTA 0 3).setFld BAY_HOLD.HOLD 0 3).setFn (fidBay 3) { run := .running }
/-- Feeds with a sampled temperature of 30 °C and an ambient one. -/
def wFeed : FeedObs := { drain := 12000, source := 12000, current := 1000, diode := some 30000 }
def wObs : BayObs := { a := wFeed, b := wFeed, vo := 12000, amb := some 25000 }
def wFrd : WaitRec := ⟨.frd 0x1000 true .ok .inTime, 2, true⟩
def wDbg : State := w0.setFld SPD_DBG_CTL.EN 1
def wFused : State := w0.setFld FUSE_STS.DONE 1
def wWarm : State := wChip (fun c => { c with digest := some wFused.regionDigest, entry := 64 }) (wFused.setFld GLB_RST_STS.LAST 3)
def wDev : State := w0.setFld GLB_LIFECYCLE.CODE 1
/-- Slice 5 with an entry of crew 3 for the sector of address 0 of memory port 0, whose line 0 is in a state. -/
def wLine (l : LineState) : DirEntry := (({ v := true, tag := homeTag 0 0, crew := 3 } : DirEntry).record 2).setLine 0 l
def wDir (l : LineState) (q : Slice) : State :=
  ((wS 5 (q.setEntry (homeSet 0 0) 0 (wLine l))).setFld CORE_FEID_MAP.VLD 1 2).setFld CORE_FEID_MAP.PORT 7 2
def wAsk (x : Intent) : Msg := { wReq with body := .cohReq x }
def wIss (x : Intent) : Txn := { wTxn with kind := .request x, req := wAsk x, set := homeSet 0 0, stage := .issued, awaiting := [] }

/-! Terms that WellFormed refuses, one for each check -/

theorem test_wf_seat : Instr.wf (.seatStop (.seat 16) 1) = false := by decide
theorem test_wf_dma_engine : Instr.wf (.seatStop (.dma 4) 1) = false := by decide
theorem test_wf_bar0_port : Instr.wf (.seatStop (.bar0 256) 1) = false := by decide
theorem test_wf_dispatch : Instr.wf (.add { seat := 0, dt := 0 }) = false := by decide
theorem test_wf_write_aligned : Instr.wf (.registerWrite .debug 0x1004 true 0 {}) = false := by decide +kernel
theorem test_wf_clears : Instr.wf (.counterClear .debug 0 0) = false := by decide +kernel
theorem test_wf_host_hpa : Instr.wf (.hostRequest 3 { op := .memRdData, hpa := 2 ^ 52, dpa := none, tag := 0 }) = false := by decide
theorem test_wf_host_tag : Instr.wf (.hostRequest 3 { op := .memRdData, hpa := 0, dpa := none, tag := 65536 }) = false := by decide
theorem test_wf_host_dpa : Instr.wf (.hostRequest 3 { op := .memRdData, hpa := 0, dpa := some (2 ^ 52), tag := 0 }) = false := by
  decide
theorem test_wf_extent : Instr.wf (.addDcResponse 3 [(true, 32)]) = false := by decide
theorem test_wf_policy : Instr.wf (.setEventInterruptPolicy 3 (2 ^ 32)) = false := by decide
theorem test_wf_stamp : Instr.wf (.setTimestamp 3 (2 ^ 64)) = false := by decide
theorem test_wf_fences : Instr.wf (.fenceCause 3 (some 3)) = false := by decide
theorem test_wf_flit : Instr.wf (.flitReceived 3 (List.replicate 4 (List.replicate 319 0)) []) = false := by decide +kernel
theorem test_wf_packets (lanes : List (List (Fin 4))) (m : Msg) :
    Instr.wf (.flitReceived 3 lanes [m, m, m, m, m]) = false := by simp [Instr.wf]
theorem test_wf_init : Instr.wf (.initReceived 3 { wInit with swid := 1024 } []) = false := by decide
theorem test_wf_grants : Instr.wf (.initReceived 3 wInit [0, 0, 0, 0, 0, 0, 0]) = false := by decide
theorem test_wf_causes : Instr.wf (.linkDown 3 []) = false := by decide
theorem test_wf_identifiers : Instr.wf (.enumResponse 3 (.header true 65536 0) false) = false := by decide
theorem test_wf_debug_aligned : Instr.wf (.debugAccess 2 false none false false {}) = false := by decide
theorem test_wf_training :
    Instr.wf (.l0Reached 3 0 0 true true false false false [{ asks := [.coefs 64 0] }]) = false := by decide
theorem test_wf_bar0 : Instr.wf (.bar0Request 3 { off := 0x3FFFFFC, op := .read 8 } false {}) = false := by decide
theorem test_wf_bar2 : Instr.wf (.bar2Request 3 { off := 0, op := .read 0 }) = false := by decide
theorem test_wf_moved : Instr.wf (.initiateFlr 3 [0, 0, 0, 0, 0]) = false := by decide
theorem test_wf_command_area : Instr.wf (.commandAreaWrite 3 255 [0, 0]) = false := by decide
theorem test_wf_samples : Instr.wf (.rampHold 3 { dt := 0 }) = false := by decide
theorem test_wf_counter : Instr.wf (.pmcCounterClear .debug 1 256 0 0) = false := by decide
theorem test_wf_cycles : Instr.wf (.accumulatorSend 0 0 [{ evt := 3, cycles := 1, times := 2 }]) = false := by decide
theorem test_wf_readings : Instr.wf (.thermalSample []) = false := by decide
theorem test_wf_completion : Instr.wf (.dmaReadCompletion 3 none (.data [] false) false {}) = false := by decide
theorem test_wf_image (b : List Byte) (h : imageMax < b.length) : Instr.wf (.bootHostGo .debug 0 0 (some b)) = false := by
  simp [Instr.wf, Nat.not_le.mpr h]

/-! No row of the command table gives bits -/

theorem test_decode_none : decodeTableWord 64 0 = none := rfl

/-! Values of the worked examples (spec/25) and of hand calculation, one step each -/

def after (o : Host.Outcome State Fault Refusal) : State :=
  match o with
  | .next t => t
  | _ => w0

/-- Addresses of the first bring-up table (R579). -/
theorem test_addresses :
    [RKey.addr ⟨.SPD_SEC_LOCK, 0, 0⟩, RKey.addr ⟨.CORE_FAB_ID, 0, 0⟩, RKey.addr ⟨.CORE_FEID_MAP, 0x03C, 0⟩,
     RKey.addr ⟨.CORE_SW_RT, 5, 0⟩, RKey.addr ⟨.HSF_CTL, 0, 0⟩, RKey.addr ⟨.PRT_CTL, 200, 0⟩, RKey.addr ⟨.PRT_DCR, 12, 0⟩,
     RKey.addr ⟨.CRW_MEM, 5, 1⟩, RKey.addr ⟨.BAY_IND, 7, 0⟩, RKey.addr ⟨.TM_QRATE, 12805, 0⟩, RKey.addr ⟨.PRT_SCRB_CTL, 200, 0⟩,
     RKey.addr ⟨.CRW_FINFO, 5, 0⟩] =
    [0x00201000, 0x01020000, 0x010240F0, 0x01028028, 0x02B00800, 0x008C8000, 0x0080C100, 0x01801604, 0x02803914, 0x01CE40A0,
     0x008C8130, 0x01801414] := by decide

/-- EV_PORT_UP of port 36, and EV_BAY of bay 7 as it turns On. -/
theorem test_records :
    eventWord 0x20 (eventPri 0x20) 36 0 = 0x2080002400000000 ∧
    eventWord 0x40 (eventPri 0x40) 7 0x01000032 = 0x40A0000701000032 := by decide

/-- Port 200 of the worked examples, with its memory enumerated. -/
def wPool : State := (w0.setFld PRT_CTL.ROLE 2 200).wr ⟨.PRT_MEM_CAP, 200, 0⟩ 0x98002000

/-- Skein 0x0123 written Free, as the bring-up writes it. -/
theorem test_skein_free :
    (after (exec (.registerWrite (.seat 0) ⟨0x01902460, by decide⟩ true 0x10FF40C800000030 {}) wPool)).rd ⟨.SKN_W0, 0x123, 0⟩ =
      0x10FF40C800000030 := by decide +kernel

/-- Crew 5 created, Stopped without a member (R71), and the membership of FEID 0x03C. -/
theorem test_crew :
    (after (exec (.crewCreate (.seat 0) 5) w0)).rd ⟨.CRW_STS, 5, 0⟩ = 0x10000000 ∧
    ((w0.wr ⟨.CRW_MEM, 5, 1⟩ 0x10000000).member 5 0x03C) = true := by decide +kernel

/-- Bay 7 at ENABLE while its hold-off runs: Cooling, present, feed X on, both estimates from the model. -/
theorem test_bay_enable :
    let s := ((((wG 7).wr ⟨.BAY_STS, 7, 0⟩ 0).setFld BAY_STS.STATE bayPresent 7).setFld BAY_STS.PRSNT 1 7).setFn (fidBay 7)
      { run := .running }
    let s := (s.setFld BAY_STS.ESTA 1 7).setFld BAY_STS.ESTB 1 7
    (after (exec (.bayEnable { d1 with imm := 1 }) (wI (.bayEnable { d1 with imm := 1 }) s))).rd ⟨.BAY_STS, 7, 0⟩ = 0x59500000 := by decide +kernel

/-- Crew 5 fenced by host 16, which lets a snoop of slice 22 run out. -/
theorem test_fence_record :
    let s := wFlt (fun f => { f with fences := [{ cause := 2, unit := 4, crews := .one 5, slice := some 22, feid := 0x040 }] })
      ((w0.setFld CRW_STS.STATE 1 5).setFld CRW_STS.NMEM 2 5)
    let t := after (exec (.fenceCause 0 none) s)
    t.rd ⟨.CRW_FINFO, 5, 0⟩ = 0xD6000040 ∧ t.fld CRW_STS.FCAUSE 5 = 2 := by decide +kernel

/-! The engine's arithmetic, by hand calculation -/

def wTwo (a b : Word) : State := (wE.setGreg 0 1 a).setGreg 0 3 b
def d4 : Disp := { seat := 0, rd := 2, rs1 := 1, rs2 := 3 }
/-- A register of seat 0 after it has run an instruction. -/
def ran (i : Instr) (s : State) (r : Nat) : Word := (after (exec i (wI i s))).greg 0 r

theorem test_add_wraps : ran (.add d4) (wTwo 0xFFFFFFFFFFFFFFFF 2) 2 = 1 := by decide +kernel
theorem test_sub_borrows : ran (.sub d4) (wTwo 1 2) 2 = 0xFFFFFFFFFFFFFFFF := by decide +kernel
theorem test_sra_sign : ran (.sra d4) (wTwo 0x8000000000000000 4) 2 = 0xF800000000000000 := by decide +kernel
theorem test_divu : ran (.divu d4) (wTwo 100 7) 2 = 14 := by decide +kernel
theorem test_source_is_destination : ran (.add { d4 with rd := 1 }) (wTwo 5 6) 1 = 11 := by decide +kernel
theorem test_g0_discards : ran (.add { d4 with rd := 0 }) (wTwo 5 6) 0 = 0 := by decide +kernel

/-! Words written out bit by bit from the formats (R331, R332, R337, R339, R340, R344, R346) -/

/-- ADD g2, g1, g3; ADDI g2, g1, −8; FENCE g1; and words that name no instruction: all 0, FMT 0x6, and OP 0x0B of format A. -/
theorem test_words :
    ((Instr.add d4).code.map (fun (d, f, op) => d.word f op)) = some 0x1001046000000000 ∧
    ((Instr.addi { seat := 0, rd := 2, rs1 := 1, imm := 0xFFFFFFF8 }).code.map (fun (d, f, op) => d.word f op)) =
      some 0x20010400FFFFFFF8 ∧
    ((Instr.fence { seat := 0, rs1 := 1 }).code.map (fun (d, f, op) => d.word f op)) = some 0x5030040000000000 ∧
    illegal 0 = true ∧ illegal 0x6000000000000000 = true ∧ illegal 0x10B0000000000000 = true ∧ illegal 0x1001046000000000 = false := by
  decide +kernel

/-! The wire, by hand calculation and from the spec's own layouts -/

/-- A flit header's FTYPE, SEQ and RGEN stand at its top (R200), and a block begins with ALIGN (R216). -/
theorem test_layouts :
    cut (Flit.header { ftype := 1, seq := 0xABC, rgen := 2, slots := [], byp := none, ctl := ⟨0, false, 0, 0, 0, 0, 0⟩ }) 127 110 =
      0x1ABC * 4 + 2 ∧
    cut wLtb.bits 319 280 = 0x3C5A96E1D2 := by decide +kernel

/-- x^10 is x^3 + 1 in the field, and α^0 is 1 (R202). -/
theorem test_field : gfMul 0x200 2 = 9 ∧ alpha 0 = 1 ∧ gfMul 0x155 (gfInv 0x155) = 1 := by decide +kernel

/-! For each statement with hypotheses, states and operands that meet them, clause by clause -/

theorem witness_IdleStepChangesNothing :
    ∃ (s : State), s.pending = [] :=
  ⟨w0, by decide +kernel⟩

theorem witness_CommandsLeaveTheQueue :
    ∃ (c : Instr), ∃ (s : State), ∃ (t : State), exec c s = .next t :=
  ⟨.hkclkLoss, w0, w0.setFld GLB_CLK_STS.HK_LOST 1, rfl⟩

theorem witness_StepKeepsScratchpadForm :
    ∃ (s : State), ∃ (t : State), Memory.wf s.mem = true ∧ step s = .next t :=
  ⟨w0, w0, by decide +kernel, rfl⟩

theorem witness_ThreeRegisterResults :
    ∃ x, ∃ (d : Disp), ∃ (s : State), (x ∈ ([(Instr.add, fun x y => x + y), (Instr.sub, fun x y => x - y), (Instr.and_,
      fun x y => x &&& y), (Instr.or_, fun x y => x ||| y), (Instr.xor_, fun x y => x ^^^ y), (Instr.andn,
      fun x y => x &&& ~~~y), (Instr.sll, fun x y => x <<< (y.toNat % 64)), (Instr.srl, fun x y => x >>> (y.toNat % 64)),
      (Instr.sra, fun x y => x.sshiftRight (y.toNat % 64)), (Instr.slt, fun x y => if x.toInt < y.toInt then 1 else 0),
      (Instr.sltu, fun x y => if x.toNat < y.toNat then 1 else 0), (Instr.mul, fun x y => x * y), (Instr.mulh,
      fun x y => BitVec.ofInt 64 (x.toInt * y.toInt / 2 ^ 64))] : List ((Disp → Instr) × (Word → Word → Word)))) ∧
      s.Issues (x.1 d) d d.threeReg :=
  ⟨_, d1, wI (.add d1) wE, .head _, by refine ⟨?_, ?_, ?_, ?_, ?_⟩ <;> decide +kernel⟩

theorem witness_OneOperandResults :
    ∃ x, ∃ (d : Disp), ∃ (s : State), (x ∈ ([(Instr.clz, Disp.twoReg, fun s d => clz64 (s.src1 d)), (Instr.ctz, Disp.twoReg,
      fun s d => ctz64 (s.src1 d)), (Instr.popc, Disp.twoReg, fun s d => popc64 (s.src1 d)), (Instr.bswap, Disp.twoReg,
      fun s d => bswap64 (s.src1 d)), (Instr.ext, Disp.fieldOk, fun s d => wordOf ((s.src1 d).toNat / 2 ^ d.pos % 2 ^ d.len)),
      (Instr.exts, Disp.fieldOk, fun s d => BitVec.ofInt 64 (signedOf d.len ((s.src1 d).toNat / 2 ^ d.pos % 2 ^ d.len))),
      (Instr.ins, Disp.fieldOk, fun s d => putBits (s.srcD d) (d.pos + d.len - 1) d.pos (s.src1 d).toNat)] : List ((Disp →
      Instr) × (Disp → Bool) × (State → Disp → Word)))) ∧ s.Issues (x.1 d) d (x.2.1 d) :=
  ⟨_, d1, wI (.clz d1) wE, .head _, by refine ⟨?_, ?_, ?_, ?_, ?_⟩ <;> decide +kernel⟩

theorem witness_ImmediateInstructions :
    (∃ x, ∃ (d : Disp), ∃ (s : State), (x ∈ ([(Instr.addi, Disp.regImm, fun s d => s.src1 d + d.imm.signExtend 64), (Instr.andi,
      Disp.regImm, fun s d => s.src1 d &&& d.imm.zeroExtend 64), (Instr.ori, Disp.regImm,
      fun s d => s.src1 d ||| d.imm.zeroExtend 64), (Instr.xori, Disp.regImm, fun s d => s.src1 d ^^^ d.imm.zeroExtend 64),
      (Instr.slli, Disp.regShift, fun s d => s.src1 d <<< d.imm.toNat), (Instr.srli, Disp.regShift,
      fun s d => s.src1 d >>> d.imm.toNat), (Instr.srai, Disp.regShift, fun s d => (s.src1 d).sshiftRight d.imm.toNat),
      (Instr.slti, Disp.regImm, fun s d => if (s.src1 d).toInt < d.imm.toInt then 1 else 0), (Instr.sltiu, Disp.regImm,
      fun s d => if (s.src1 d).toNat < d.imm.toNat then 1 else 0), (Instr.li, Disp.immOnly, fun _ d => d.imm.zeroExtend 64),
      (Instr.lih, Disp.immOnly, fun s d => wordOf (2 ^ 32 * d.imm.toNat + (s.srcD d).toNat % 2 ^ 32))] : List ((Disp →
      Instr) × (Disp → Bool) × (State → Disp → Word)))) ∧ s.Issues (x.1 d) d (x.2.1 d)) ∧
    (∃ x, ∃ (d : Disp), ∃ (s : State), (x ∈ ([(Instr.addi, Disp.regImm, fun s d => s.src1 d + d.imm.signExtend 64), (Instr.andi,
      Disp.regImm, fun s d => s.src1 d &&& d.imm.zeroExtend 64), (Instr.ori, Disp.regImm,
      fun s d => s.src1 d ||| d.imm.zeroExtend 64), (Instr.xori, Disp.regImm, fun s d => s.src1 d ^^^ d.imm.zeroExtend 64),
      (Instr.slli, Disp.regShift, fun s d => s.src1 d <<< d.imm.toNat), (Instr.srli, Disp.regShift,
      fun s d => s.src1 d >>> d.imm.toNat), (Instr.srai, Disp.regShift, fun s d => (s.src1 d).sshiftRight d.imm.toNat),
      (Instr.slti, Disp.regImm, fun s d => if (s.src1 d).toInt < d.imm.toInt then 1 else 0), (Instr.sltiu, Disp.regImm,
      fun s d => if (s.src1 d).toNat < d.imm.toNat then 1 else 0), (Instr.li, Disp.immOnly, fun _ d => d.imm.zeroExtend 64),
      (Instr.lih, Disp.immOnly, fun s d => wordOf (2 ^ 32 * d.imm.toNat + (s.srcD d).toNat % 2 ^ 32))] : List ((Disp →
      Instr) × (Disp → Bool) × (State → Disp → Word)))) ∧ s.Issues (x.1 d) d (!x.2.1 d)) :=
  ⟨⟨_, { seat := 0, rd := 2 }, wI (.addi { seat := 0, rd := 2 }) wE, .head _,
    by refine ⟨?_, ?_, ?_, ?_, ?_⟩ <;> decide +kernel⟩,
   ⟨_, { seat := 0, rd := 2, rs2 := 1 }, wI (.addi { seat := 0, rd := 2, rs2 := 1 }) wE, .head _,
     by refine ⟨?_, ?_, ?_, ?_, ?_⟩ <;> decide +kernel⟩⟩

theorem witness_BitCountsMeanWhatTheyName :
    (∃ (w : Word), w ≠ 0) ∧
    (∃ (w : Word), ∃ k, w ≠ 0 ∧ 63 - (clz64 w).toNat < k ∧ k < 64) ∧
    (∃ (w : Word), ∃ k, w ≠ 0 ∧ k < (ctz64 w).toNat) ∧
    (∃ (w : Word), ∃ (k : Nat), k < 8) :=
  ⟨⟨1, by decide +kernel⟩,
   ⟨1, 63, by decide +kernel, by decide +kernel, by decide +kernel⟩,
   ⟨8, 2, by decide +kernel, by decide +kernel⟩,
   ⟨8, 7, by decide +kernel⟩⟩

theorem witness_SpecialRegisterReads :
    ∃ (d : Disp), ∃ (s : State), s.Issues (.mfsr d) d (d.immOnly && decide (d.imm.toNat < 4)) :=
  ⟨{ seat := 0, rd := 2, imm := 3 }, wI (.mfsr { seat := 0, rd := 2, imm := 3 }) wE,
    by refine ⟨?_, ?_, ?_, ?_, ?_⟩ <;> decide +kernel⟩

theorem witness_StatusWriteClears :
    ∃ (d : Disp), ∃ (s : State), s.Issues (.mtsr d) d (d.rd == 0 && d.regImm && d.imm == 1) :=
  ⟨{ seat := 0, rs1 := 1, imm := 1 }, wI (.mtsr { seat := 0, rs1 := 1, imm := 1 }) (wG 3),
    by refine ⟨?_, ?_, ?_, ?_, ?_⟩ <;> decide +kernel⟩

theorem witness_SpecialRegisterTraps :
    (∃ (d : Disp), ∃ (s : State), s.Issues (.mfsr d) d (decide (4 ≤ d.imm.toNat))) ∧
    (∃ (d : Disp), ∃ (s : State), s.Issues (.mtsr d) d (d.imm != 1)) :=
  ⟨⟨{ seat := 0, rd := 2, imm := 4 }, wI (.mfsr { seat := 0, rd := 2, imm := 4 }) wE,
    by refine ⟨?_, ?_, ?_, ?_, ?_⟩ <;> decide +kernel⟩,
   ⟨{ seat := 0, rs1 := 1, imm := 0 }, wI (.mtsr { seat := 0, rs1 := 1, imm := 0 }) wE,
     by refine ⟨?_, ?_, ?_, ?_, ?_⟩ <;> decide +kernel⟩⟩

theorem witness_DivisionResults :
    ∃ x, ∃ (d : Disp), ∃ (s : State), (x ∈ ([(Instr.div,
      fun x y => if y = 0 then BitVec.allOnes 64 else BitVec.ofInt 64 (x.toInt.tdiv y.toInt)), (Instr.divu,
      fun x y => if y = 0 then BitVec.allOnes 64 else wordOf (x.toNat / y.toNat)), (Instr.rem,
      fun x y => if y = 0 then x else BitVec.ofInt 64 (x.toInt.tmod y.toInt))] : List ((Disp → Instr) × (Word → Word →
      Word)))) ∧ s.Issues (x.1 d) d d.threeReg :=
  ⟨_, d1, wI (.div d1) wE, .head _, by refine ⟨?_, ?_, ?_, ?_, ?_⟩ <;> decide +kernel⟩

theorem witness_ArithmeticWraps :
    (∃ x, ∃ (d : Disp), ∃ (s : State), (x ∈ ([(Instr.div, 0x8000000000000000), (Instr.rem, 0)] : List ((Disp →
      Instr) × Word))) ∧ s.Issues (x.1 d) d d.threeReg ∧ s.src1 d = 0x8000000000000000 ∧ s.src2 d = BitVec.allOnes 64) ∧
    (∃ x, ∃ (d : Disp), ∃ (s : State), (x ∈ ([(Instr.add, Disp.threeReg, fun s d => (s.src1 d).toNat + (s.src2 d).toNat),
      (Instr.sub, Disp.threeReg, fun s d => (s.src1 d).toNat + (2 ^ 64 - (s.src2 d).toNat)), (Instr.mul, Disp.threeReg,
      fun s d => (s.src1 d).toNat * (s.src2 d).toNat), (Instr.addi, Disp.regImm,
      fun s d => (s.src1 d).toNat + (d.imm.signExtend 64).toNat)] : List ((Disp → Instr) × (Disp → Bool) × (State → Disp →
      Nat)))) ∧ s.Issues (x.1 d) d (x.2.1 d)) :=
  ⟨⟨_, d3, wI (.div d3) ((wG 0x8000000000000000).setGreg 0 2 (BitVec.allOnes 64)), .head _,
    by refine ⟨?_, ?_, ?_, ?_, ?_⟩ <;> decide +kernel, by decide +kernel, by decide +kernel⟩,
   ⟨_, d1, wI (.add d1) (wG 0xFFFFFFFFFFFFFFFF), .head _, by refine ⟨?_, ?_, ?_, ?_, ?_⟩ <;> decide +kernel⟩⟩

theorem witness_ConditionalBranches :
    ∃ x, ∃ (d : Disp), ∃ (s : State), (x ∈ ([(Instr.beq, fun d => d.rd == 0 && d.rs3 == 0, fun s d => s.src1 d == s.src2 d),
      (Instr.bne, fun d => d.rd == 0 && d.rs3 == 0, fun s d => s.src1 d != s.src2 d), (Instr.blt,
      fun d => d.rd == 0 && d.rs3 == 0, fun s d => decide ((s.src1 d).toInt < (s.src2 d).toInt)), (Instr.bge,
      fun d => d.rd == 0 && d.rs3 == 0, fun s d => decide ((s.src2 d).toInt ≤ (s.src1 d).toInt)), (Instr.bltu,
      fun d => d.rd == 0 && d.rs3 == 0, fun s d => decide ((s.src1 d).toNat < (s.src2 d).toNat)), (Instr.bgeu,
      fun d => d.rd == 0 && d.rs3 == 0, fun s d => decide ((s.src2 d).toNat ≤ (s.src1 d).toNat)), (Instr.bbs,
      fun d => d.rd == 0 && d.rs3.val % 16 == 0, fun s d => bitOf (s.src1 d) (2 * d.rs2.val + d.rs3.val / 16)), (Instr.bbc,
      fun d => d.rd == 0 && d.rs3.val % 16 == 0, fun s d => !bitOf (s.src1 d) (2 * d.rs2.val + d.rs3.val / 16))] : List ((Disp →
      Instr) × (Disp → Bool) × (State → Disp → Bool)))) ∧ s.Issues (x.1 d) d (x.2.1 d && d.imm.toNat % 8 == 0) :=
  ⟨_, { seat := 0, rs1 := 1, imm := 16 }, wI (.beq { seat := 0, rs1 := 1, imm := 16 }) wE, .head _,
    by refine ⟨?_, ?_, ?_, ?_, ?_⟩ <;> decide +kernel⟩

theorem witness_JumpsLink :
    (∃ (d : Disp), ∃ (s : State), s.Issues (.jal d) d (d.immOnly && d.imm.toNat % 8 == 0)) ∧
    (∃ (d : Disp), ∃ (s : State), s.Issues (.jalr d) d d.regImm ∧ (s.src1 d + d.imm.signExtend 64).toNat % 8 = 0) :=
  ⟨⟨{ seat := 0, rd := 2, imm := 16 }, wI (.jal { seat := 0, rd := 2, imm := 16 }) wE,
    by refine ⟨?_, ?_, ?_, ?_, ?_⟩ <;> decide +kernel⟩,
   ⟨d1, wI (.jalr d1) (wG 64), by refine ⟨?_, ?_, ?_, ?_, ?_⟩ <;> decide +kernel, by decide +kernel⟩⟩

theorem witness_BranchesTrap :
    (∃ x, ∃ (d : Disp), ∃ (s : State), x ∈ [Instr.beq, Instr.bne, Instr.blt, Instr.bge, Instr.bltu, Instr.bgeu, Instr.bbs,
      Instr.bbc, Instr.jal] ∧ s.Issues (x d) d (d.imm.toNat % 8 != 0)) ∧
    (∃ x, ∃ (d : Disp), ∃ (s : State), x ∈ [Instr.beq, Instr.bne, Instr.blt, Instr.bge, Instr.bltu, Instr.bgeu, Instr.bbs,
      Instr.bbc, Instr.jal] ∧ s.Issues (.jalr d) d (d.regImm && (s.src1 d + d.imm.signExtend 64).toNat % 8 != 0)) ∧
    (∃ x, ∃ (d : Disp), ∃ (s : State), ∃ y, x ∈ [Instr.beq, Instr.bne, Instr.blt, Instr.bge, Instr.bltu, Instr.bgeu, Instr.bbs,
      Instr.bbc, Instr.jal] ∧ y ∈ [x d, .jalr d] ∧ s.dispatches d = true ∧
      s.fetchOk d.seat.val (s.seat d.seat.val).pc = false) :=
  ⟨⟨_, { seat := 0, imm := 1 }, wI (.beq { seat := 0, imm := 1 }) wE, .head _,
    by refine ⟨?_, ?_, ?_, ?_, ?_⟩ <;> decide +kernel⟩,
   ⟨_, { seat := 0, imm := 1 }, wI (.jalr { seat := 0, imm := 1 }) wE, .head _,
     by refine ⟨?_, ?_, ?_, ?_, ?_⟩ <;> decide +kernel⟩,
   ⟨Instr.beq, { seat := 0 }, wE.modSeat 0 (fun q => { q with pc := 0x40000 }), .jalr { seat := 0 }, .head _, .tail _ (.head _),
     by decide +kernel, by decide +kernel⟩⟩

theorem witness_LoadsReadTheScratchpad :
    ∃ x, ∃ (d : Disp), ∃ (s : State), (x ∈ ([(Instr.ld8, 1), (Instr.ld16, 2), (Instr.ld32, 4), (Instr.ld64, 8)] : List ((Disp →
      Instr) × Nat))) ∧ s.Issues (x.1 d) d (d.rs2 == 0 && d.rs3 == 0) ∧ s.SpadOpen d x.2 1 .read :=
  ⟨_, d1, wI (.ld8 d1) (wG 0x1FFFF8), .head _, by refine ⟨?_, ?_, ?_, ?_, ?_⟩ <;> decide +kernel,
    by refine ⟨?_, ?_, ?_, ?_⟩ <;> decide +kernel⟩

theorem witness_LoadPairReadsSixteenBytes :
    ∃ (d : Disp), ∃ (s : State), s.Issues (.ldp d) d (d.rs2 == 0 && d.rs3 == 0 && d.rd.val % 2 == 0 && d.rd != 0) ∧
      s.SpadOpen d 16 16 .read :=
  ⟨d1, wI (.ldp d1) (wG 0x1FFFF0), by refine ⟨?_, ?_, ?_, ?_, ?_⟩ <;> decide +kernel,
    by refine ⟨?_, ?_, ?_, ?_⟩ <;> decide +kernel⟩

theorem witness_StoresWriteTheirBytesAlone :
    ∃ x, ∃ (d : Disp), ∃ (s : State), (x ∈ ([(Instr.st8, 1), (Instr.st16, 2), (Instr.st32, 4), (Instr.st64, 8)] : List ((Disp →
      Instr) × Nat))) ∧ s.Issues (x.1 d) d (d.rd == 0 && d.rs3 == 0) ∧ s.SpadOpen d x.2 1 .write :=
  ⟨_, { seat := 0, rs1 := 1 }, wI (.st8 { seat := 0, rs1 := 1 }) (wG 0x1FFFF8), .head _,
    by refine ⟨?_, ?_, ?_, ?_, ?_⟩ <;> decide +kernel, by refine ⟨?_, ?_, ?_, ?_⟩ <;> decide +kernel⟩

theorem witness_StorePairWritesSixteenBytes :
    ∃ (d : Disp), ∃ (s : State), s.Issues (.stp d) d (d.rd == 0 && d.rs3 == 0 && d.rs2.val % 2 == 0) ∧
      s.SpadOpen d 16 16 .write :=
  ⟨{ seat := 0, rs1 := 1 }, wI (.stp { seat := 0, rs1 := 1 }) (wG 0x1FFFF0), by refine ⟨?_, ?_, ?_, ?_, ?_⟩ <;> decide +kernel,
    by refine ⟨?_, ?_, ?_, ?_⟩ <;> decide +kernel⟩

theorem witness_AtomicsReplaceOneWord :
    ∃ x, ∃ (d : Disp), ∃ (s : State), (x ∈ ([(Instr.cas, fun _ => true,
      fun s d old => if old = s.src3 d then s.src2 d else old), (Instr.fadd, fun d => d.rs3 == 0,
      fun s d old => old + s.src2 d)] : List ((Disp → Instr) × (Disp → Bool) × (State → Disp → Word → Word)))) ∧
      s.Issues (x.1 d) d (x.2.1 d) ∧ s.SpadOpen d 8 8 .atomic :=
  ⟨_, d1, wI (.cas d1) (wG 0x1FFFF8), .head _, by refine ⟨?_, ?_, ?_, ?_, ?_⟩ <;> decide +kernel,
    by refine ⟨?_, ?_, ?_, ?_⟩ <;> decide +kernel⟩

theorem witness_ScratchpadReadAfterWrite :
    ∃ (s : State), ∃ (a : Nat), ∃ (b : Nat), ∃ (v : Byte), a < memSize :=
  ⟨w0, 0x1FFFFF, 0, 1, by decide +kernel⟩

theorem witness_RefusedAccessTraps :
    ∃ x, ∃ (d : Disp), ∃ (s : State), ∃ (r : Nat × Nat), (x ∈ ([(Instr.ld8, 1, Acc.read, fun d => d.rs2 == 0 && d.rs3 == 0),
      (Instr.ld64, 8, Acc.read, fun d => d.rs2 == 0 && d.rs3 == 0), (Instr.st8, 1, Acc.write, fun d => d.rd == 0 && d.rs3 == 0),
      (Instr.st64, 8, Acc.write, fun d => d.rd == 0 && d.rs3 == 0)] : List ((Disp → Instr) × Nat × Acc × (Disp → Bool)))) ∧
      s.Issues (x.1 d) d (x.2.2.2 d) ∧ s.wipeBlocks (s.address d) x.2.1 = false ∧ s.address d + x.2.1 ≤ memSize ∧
      s.refusal (.seat d.seat.val) false x.2.2.1 (s.address d) x.2.1 = some r :=
  ⟨_, { seat := 1, rd := 2 },
    wI (.ld8 { seat := 1, rd := 2 }) ((((w0.setSeatState 1 seatReady).setFld ICF_SEAT_CTL.PRIV 0 1).setFld ICF_CTL.USPLIT 1).modSeat 1 (fun q => { q with pc := 4096 })),
    (0, 0), .head _, by refine ⟨?_, ?_, ?_, ?_, ?_⟩ <;> decide +kernel, by decide +kernel, by decide +kernel, by decide +kernel⟩

theorem witness_FetchesTrap :
    (∃ (i : Instr), ∃ (d : Disp), ∃ (f : Format), ∃ (op : Nat), i.code = some (d, f, op)) ∧
    (∃ (i : Instr), ∃ (d : Disp), ∃ (f : Format), ∃ (op : Nat), ∃ (s : State), i.code = some (d, f, op) ∧
      s.dispatches d = true ∧ s.fetchOk d.seat.val (s.seat d.seat.val).pc = false) ∧
    (∃ (i : Instr), ∃ (d : Disp), ∃ (f : Format), ∃ (op : Nat), ∃ (s : State), i.code = some (d, f, op) ∧
      s.dispatches d = true ∧ s.fetchOk d.seat.val (s.seat d.seat.val).pc = true ∧ d.fetchUe = true) ∧
    (∃ (i : Instr), ∃ (d : Disp), ∃ (f : Format), ∃ (op : Nat), ∃ (s : State), i.code = some (d, f, op) ∧
      s.dispatches d = true ∧ s.fetchOk d.seat.val (s.seat d.seat.val).pc = true ∧ d.fetchUe = false ∧
      illegal (s.fetched d) = true) ∧
    (∃ (i : Instr), ∃ (d : Disp), ∃ (f : Format), ∃ (op : Nat), ∃ (s : State), i.code = some (d, f, op) ∧
      s.dispatches d = true ∧ s.fetchOk d.seat.val (s.seat d.seat.val).pc = true ∧ d.fetchUe = false ∧
      illegal (s.fetched d) = false ∧ s.holds i = false) :=
  ⟨⟨.add d1, d1, .a, 0, by decide +kernel⟩,
   ⟨.add d1, d1, .a, 0, wE.modSeat 0 (fun q => { q with pc := 0x80000 }), by decide +kernel, by decide +kernel,
     by decide +kernel⟩,
   ⟨.add { d1 with fetchUe := true }, { d1 with fetchUe := true }, .a, 0, wE, by decide +kernel, by decide +kernel,
     by decide +kernel, by decide +kernel⟩,
   ⟨.add d1, d1, .a, 0, wE, by decide +kernel, by decide +kernel, by decide +kernel, by decide +kernel, by decide +kernel⟩,
   ⟨.add d1, d1, .a, 0, wI (.sub d1) wE, by decide +kernel, by decide +kernel, by decide +kernel, by decide +kernel,
     by decide +kernel, by decide +kernel⟩⟩

theorem witness_TrapInstructionTraps :
    ∃ (d : Disp), ∃ (s : State), s.Issues (.trap d) d d.bare :=
  ⟨{ seat := 0 }, wI (.trap { seat := 0 }) wE, by refine ⟨?_, ?_, ?_, ?_, ?_⟩ <;> decide +kernel⟩

theorem witness_ControlInstructions :
    (∃ (d : Disp), ∃ (s : State), s.Issues (.halt d) d d.bare) ∧
    (∃ (d : Disp), ∃ (s : State), s.Issues (.yield d) d d.bare) ∧
    (∃ (d : Disp), ∃ (s : State), s.Issues (.fsync d) d d.bare ∧ s.Settled d.seat.val) :=
  ⟨⟨{ seat := 0 }, wI (.halt { seat := 0 }) wE, by refine ⟨?_, ?_, ?_, ?_, ?_⟩ <;> decide +kernel⟩,
   ⟨{ seat := 0 }, wI (.yield { seat := 0 }) wE, by refine ⟨?_, ?_, ?_, ?_, ?_⟩ <;> decide +kernel⟩,
   ⟨{ seat := 0 }, wI (.fsync { seat := 0 }) wE, by refine ⟨?_, ?_, ?_, ?_, ?_⟩ <;> decide +kernel,
     settled0 (by decide +kernel)⟩⟩

theorem witness_OpenWritesHoldWaitingInstructions :
    ∃ x, ∃ (d : Disp), ∃ (s : State), ∃ (o : FOp), (x ∈ ([(Instr.fsync, Disp.bare, false, fun _ _ => some FOp.fsync),
      (Instr.stopf, Disp.twoReg, false, fun s d => some (.stopf (s.src1 d).toNat)), (fun d => Instr.startf d false, Disp.twoReg,
      false, fun s d => some (.startf (s.src1 d).toNat false)), (Instr.epoch, Disp.twoReg, false,
      fun s d => if (s.src1 d).toNat < 256 then some (.epoch (s.src1 d).toNat) else none), (Instr.fence, Disp.twoReg, true,
      fun s d => if (s.src1 d).toNat < 256 then some (.fence (s.src1 d).toNat) else none)] : List ((Disp → Instr) × (Disp →
      Bool) × Bool × (State → Disp → Option FOp)))) ∧ s.Issues (x.1 d) d (x.2.1 d) ∧ (x.2.2.1 = true →
      s.priv d.seat.val = true) ∧ x.2.2.2 s d = some o ∧ (s.seat d.seat.val).posted ≠ [] :=
  ⟨_, { seat := 0 },
    wI (.fsync { seat := 0 }) (wE.modSeat 0 (fun q => { q with posted := [{ addr := 0, wide := false, val := 0 }] })), .fsync,
    .head _, by refine ⟨?_, ?_, ?_, ?_, ?_⟩ <;> decide +kernel, by decide +kernel, by decide +kernel, by decide +kernel⟩

theorem witness_FabricReads :
    ∃ x, ∃ (d : Disp), ∃ (s : State), ∃ way, ∃ held, (x ∈ ([(Instr.frd32, false), (Instr.frd64, true)] : List ((Disp →
      Instr) × Bool))) ∧ s.Issues (x.1 d) d (d.rs2 == 0 && d.rs3 == 0) ∧ s.MgmtOpen d (if x.2 then 8 else 4) .read ∧
      s.Settled d.seat.val ∧ way = s.nocWay (Requester.seat d.seat.val).node (targetOf (s.address d)) ∧
      held = s.nocHeld (Requester.seat d.seat.val).node (targetOf (s.address d)) :=
  ⟨_, d1, wI (.frd32 d1) (wG 0x200000), _, _, .head _, by refine ⟨?_, ?_, ?_, ?_, ?_⟩ <;> decide +kernel,
    by refine ⟨?_, ?_, ?_, ?_⟩ <;> decide +kernel, settled0 (by decide +kernel), rfl, rfl⟩

theorem witness_FabricWritesArePosted :
    ∃ x, ∃ (d : Disp), ∃ (s : State), ∃ way, ∃ held, ∃ (w : PostedWrite), (x ∈ ([(Instr.fwr32, false), (Instr.fwr64,
      true)] : List ((Disp → Instr) × Bool))) ∧ s.Issues (x.1 d) d (d.rd == 0 && d.rs3 == 0) ∧
      s.MgmtOpen d (if x.2 then 8 else 4) .write ∧ way = s.nocWay (Requester.seat d.seat.val).node (targetOf (s.address d)) ∧
      held = s.nocHeld (Requester.seat d.seat.val).node (targetOf (s.address d)) ∧
      (w = { addr := s.address d, wide := x.2, val := if x.2 then s.src2 d else wordOf ((s.src2 d).toNat % 2 ^ 32), resp := d.noc }) :=
  ⟨_, { seat := 0, rs1 := 1 }, wI (.fwr32 { seat := 0, rs1 := 1 }) (wG 0x200000), _, _, _, .head _,
    by refine ⟨?_, ?_, ?_, ?_, ?_⟩ <;> decide +kernel, by refine ⟨?_, ?_, ?_, ?_⟩ <;> decide +kernel, rfl, rfl, rfl⟩

theorem witness_OperationsBeginWaiting :
    ∃ (d : Disp), ∃ (s : State), ∃ (o : FOp), ∃ m, m ≠ d.seat.val :=
  ⟨{ seat := 0 }, wE, .fsync, 1, by decide +kernel⟩

theorem witness_WaitsEndWithTheirResult :
    (∃ (s : State), ∃ (n : Nat), ∃ (rd : Nat), ∃ (v : Word), n < 16 ∧ rd < 32 ∧ s.seatState n = seatWaiting) ∧
    (∃ (s : State), ∃ (n : Nat), ∃ (rd : Nat), ∃ (v : Word), ∃ m, n < 16 ∧ rd < 32 ∧ s.seatState n = seatWaiting ∧ m ≠ n) :=
  ⟨⟨w0.setSeatState 3 seatWaiting, 3, 31, 7, by decide +kernel, by decide +kernel, by decide +kernel⟩,
   ⟨w0.setSeatState 3 seatWaiting, 3, 5, 7, 4, by decide +kernel, by decide +kernel, by decide +kernel, by decide +kernel⟩⟩

theorem witness_StopfTakesTheFunction :
    (∃ (d : Disp), ∃ (s : State), ∃ v, ∃ u, s.Issues (.stopf d) d d.twoReg ∧ s.Settled d.seat.val ∧
      fidOk (s.src1 d).toNat = true ∧ v = (s.src1 d).toNat ∧ u = s.begins d (.stopf v) ∧
      u.mayAct d.seat.val (fidKind v) (fidIndex v) = true ∧ u.outOfPlay v = none ∧ (s.fn v).run = .running) ∧
    (∃ (d : Disp), ∃ (s : State), ∃ v, ∃ u, s.Issues (.stopf d) d d.twoReg ∧ s.Settled d.seat.val ∧
      fidOk (s.src1 d).toNat = true ∧ v = (s.src1 d).toNat ∧ u = s.begins d (.stopf v) ∧
      u.mayAct d.seat.val (fidKind v) (fidIndex v) = true ∧ u.outOfPlay v = none ∧ (s.fn v).run = .stopped ∧
      ((s.fn v).owner = none ∨ (s.fn v).owner = some d.seat.val)) :=
  ⟨⟨d1, wI (.stopf d1) ((wG 0x6005).setFn 0x6005 { run := .running }), _, _, by refine ⟨?_, ?_, ?_, ?_, ?_⟩ <;> decide +kernel,
    settled0 (by decide +kernel), by decide +kernel, rfl, rfl, by decide +kernel, by decide +kernel, by decide +kernel⟩,
   ⟨d1, wI (.stopf d1) ((wG 0x6005).setFn 0x6005 { run := .stopped }), _, _, by refine ⟨?_, ?_, ?_, ?_, ?_⟩ <;> decide +kernel,
     settled0 (by decide +kernel), by decide +kernel, rfl, rfl, by decide +kernel, by decide +kernel, by decide +kernel,
     by decide +kernel⟩⟩

theorem witness_StartfRunsTheFunction :
    (∃ (d : Disp), ∃ (s : State), ∃ v, ∃ u, s.Issues (.startf d false) d d.twoReg ∧ s.Settled d.seat.val ∧
      fidOk (s.src1 d).toNat = true ∧ v = (s.src1 d).toNat ∧ u = s.begins d (.startf v false) ∧
      u.mayAct d.seat.val (fidKind v) (fidIndex v) = true ∧ (s.fn v).run = .stopped ∧ (s.priv d.seat.val = true ∨
      (s.fn v).owner = none ∨ (s.fn v).owner = some d.seat.val) ∧ u.outOfPlay v = none ∧ u.safe = false ∧
      Sys2Proof.Claims.startPasses u v) ∧
    (∃ (d : Disp), ∃ (s : State), ∃ v, ∃ u, s.Issues (.startf d false) d d.twoReg ∧ s.Settled d.seat.val ∧
      fidOk (s.src1 d).toNat = true ∧ v = (s.src1 d).toNat ∧ u = s.begins d (.startf v false) ∧
      u.mayAct d.seat.val (fidKind v) (fidIndex v) = true ∧ (s.fn v).run = .stopped ∧ (s.priv d.seat.val = true ∨
      (s.fn v).owner = none ∨ (s.fn v).owner = some d.seat.val) ∧ u.outOfPlay v = none ∧ u.safe = false ∧
      Sys2Proof.Claims.startPasses u v ∧ 4 ≤ fidKind v) :=
  ⟨⟨d1, wI (.startf d1 false) ((wG 0x6005).setFn 0x6005 { run := .stopped }), _, _,
    by refine ⟨?_, ?_, ?_, ?_, ?_⟩ <;> decide +kernel, settled0 (by decide +kernel), by decide +kernel, rfl, rfl,
    by decide +kernel, by decide +kernel, by decide +kernel, by decide +kernel, by decide +kernel,
    by show State.committed _ _ ≤ State.rawRate _ _; decide +kernel⟩,
   ⟨d1, wI (.startf d1 false) ((wG 0x6005).setFn 0x6005 { run := .stopped }), _, _,
     by refine ⟨?_, ?_, ?_, ?_, ?_⟩ <;> decide +kernel, settled0 (by decide +kernel), by decide +kernel, rfl, rfl,
     by decide +kernel, by decide +kernel, by decide +kernel, by decide +kernel, by decide +kernel,
     by show State.committed _ _ ≤ State.rawRate _ _; decide +kernel, by decide +kernel⟩⟩

theorem witness_EpochJoinsThePort :
    ∃ (d : Disp), ∃ (s : State), ∃ (p : Nat), s.Issues (.epoch d) d d.twoReg ∧ s.Settled d.seat.val ∧ (s.src1 d).toNat = p ∧
      p < 256 ∧ (s.begins d (.epoch p)).mayAct d.seat.val 0 p = true ∧ (s.role p = 1 ∨ s.role p = 4) :=
  ⟨d1, wI (.epoch d1) ((wG 3).setFld PRT_CTL.ROLE 1 3), 3, by refine ⟨?_, ?_, ?_, ?_, ?_⟩ <;> decide +kernel,
    settled0 (by decide +kernel), by decide +kernel, by decide +kernel, by decide +kernel, by decide +kernel⟩

theorem witness_FenceInstructionFences :
    ∃ (d : Disp), ∃ (s : State), ∃ (c : Nat), s.Issues (.fence d) d d.twoReg ∧ s.Settled d.seat.val ∧ s.priv d.seat.val = true ∧
      (s.src1 d).toNat = c ∧ c < 256 ∧ s.crewState c ≠ 0 :=
  ⟨d1, wI (.fence d1) ((wG 3).setFld CRW_STS.STATE 1 3), 3, by refine ⟨?_, ?_, ?_, ?_, ?_⟩ <;> decide +kernel,
    settled0 (by decide +kernel), by decide +kernel, by decide +kernel, by decide +kernel, by decide +kernel⟩

theorem witness_ScansQueueInDispatchOrder :
    ∃ x, ∃ (d : Disp), ∃ (s : State), ∃ (c : Nat), ∃ (k : Option Nat), ∃ u, ∃ (q : Scan), (x ∈ ([(Instr.scanCount, false),
      (Instr.scanFlush, true)] : List ((Disp → Instr) × Bool))) ∧ s.Issues (x.1 d) d (d.rs3 == 0) ∧ s.Settled d.seat.val ∧
      d.imm.toNat = bit x.2 + (if k.isSome then 2 else 0) ∧ (s.src1 d).toNat = c ∧ c < 256 ∧ (k = none ∨
      (k = some (s.src2 d).toNat ∧ (s.src2 d).toNat < 65536)) ∧ u = s.begins d (.scan x.2 c k) ∧
      (q = { seat := some d.seat.val, rd := d.rd.val, flush := x.2, crew := c, skein := k }) ∧ u.mayAct d.seat.val 1 c = true ∧
      (s.eng.scans = [] → u.scanRefused q = none) :=
  ⟨_, { d1 with imm := 2 }, wI (.scanCount { d1 with imm := 2 }) (((wG 3).setFld CRW_STS.STATE 1 3).setFld SKN_W0.CREW 3 0), 3,
    some 0, _, _, .head _, by refine ⟨?_, ?_, ?_, ?_, ?_⟩ <;> decide +kernel, settled0 (by decide +kernel), by decide +kernel,
    by decide +kernel, by decide +kernel, by decide +kernel, rfl, rfl, by decide +kernel, by decide +kernel⟩

theorem witness_HeatInstructionsStartAndAbort :
    (∃ (d : Disp), ∃ (s : State), ∃ (p : Nat), ∃ (u : State), s.Settled d.seat.val ∧ (s.src1 d).toNat = p ∧ p < 256 ∧
      u = s.begins d (.heat p ((s.src2 d).toNat % 256) false) ∧ s.Issues (.heatStartCmd d) d (d.rs3 == 0 && d.imm == 0) ∧
      u.mayAct d.seat.val 0 p = true ∧ u.started p = true ∧ u.fld PRT_CTL.ROLE p = 4 ∧ u.lfl (halfOf p) = lflActive ∧
      (s.half (halfOf p)).heat = none) ∧
    (∃ (d : Disp), ∃ (s : State), ∃ (p : Nat), ∃ (u : State), s.Settled d.seat.val ∧ (s.src1 d).toNat = p ∧ p < 256 ∧
      u = s.begins d (.heat p ((s.src2 d).toNat % 256) true) ∧ s.Issues (.heatAbortCmd d) d (d.rs3 == 0 && d.imm == 1) ∧
      u.mayAct d.seat.val 0 p = true ∧ u.started p = true ∧ u.fld PRT_CTL.ROLE p = 4 ∧ u.lfl (halfOf p) = lflActive ∧
      (s.half (halfOf p)).heat.isSome = true) :=
  ⟨⟨d1, wI (.heatStartCmd d1) wHeatable, 4, _, settled0 (by decide +kernel), by decide +kernel, by decide +kernel, rfl,
    by refine ⟨?_, ?_, ?_, ?_, ?_⟩ <;> decide +kernel, by decide +kernel, by decide +kernel, by decide +kernel,
    by decide +kernel, by decide +kernel⟩,
   ⟨{ d1 with imm := 1 },
     wI (.heatAbortCmd { d1 with imm := 1 }) (wHeatable.modHalf (halfOf 4) (fun h => { h with heat := some ⟨true, [], 0, .out, 0, none, none, false, false⟩ })),
     4, _, settled0 (by decide +kernel), by decide +kernel, by decide +kernel, rfl,
     by refine ⟨?_, ?_, ?_, ?_, ?_⟩ <;> decide +kernel, by decide +kernel, by decide +kernel, by decide +kernel,
     by decide +kernel, by decide +kernel⟩⟩

theorem witness_BayCommandsTakeEffect :
    ∃ x, ∃ (d : Disp), ∃ (s : State), ∃ (k : Nat), ∃ (clean : Bool), ∃ o, (x ∈ ([(fun d _ => Instr.bayEnable d, 1,
      fun st => st = bayPresent ∨ st = bayIsOff, fun u k _ => u.bayEnable k), (fun d _ => Instr.bayOff d, 2,
      fun st => st ≠ bayEmpty ∧ st ≠ bayDamaged, fun u k _ => u.bayOffCmd k), (fun d c => Instr.bayClear d c, 3,
      fun st => st = bayTripped, fun u k _ => u.setFld BAY_STS.RETRY 0 k), (fun d _ => Instr.bayClear d true, 3,
      fun st => st = bayDamaged,
      fun u k _ => (((u.setFld BAY_STS.DMGA 0 k).setFld BAY_STS.DMGB 0 k).setFld BAY_STS.DMGX 0 k).bayTurnOff k 5),
      (fun d _ => Instr.bayIndicate d, 4, fun _ => True,
      fun u k a => (u.setFld BAY_IND.ATTN (a % 4) k).setFld BAY_IND.LOCATE (a / 4 % 4) k), (fun d _ => Instr.bayAuxOn d, 5,
      fun st => st = bayPresent ∨ st = bayIsOff, fun u k _ => u.setGate k 2 true)] : List ((Disp → Bool → Instr) × Nat × (Nat →
      Prop) × (State → Nat → Nat → State)))) ∧ s.Issues (x.1 d clean) d (d.rs3 == 0 && d.imm.toNat == x.2.1) ∧
      s.Settled d.seat.val ∧ s.priv d.seat.val = true ∧ (s.src1 d).toNat = k ∧ k < 32 ∧
      o = FOp.bay k x.2.1 (s.src2 d).toNat (x.2.1 == 3 && (match x.1 d clean with | .bayClear _ c => c | _ => false)) ∧
      s.bayAlive = true ∧ (s.fn (fidBay k)).run = .running ∧ s.baySafe = false ∧ x.2.2.1 (s.bayState k) ∧ (x.2.1 = 4 →
      (s.src2 d).toNat < 16) :=
  ⟨_, { d1 with imm := 1 },
    wI (.bayEnable { d1 with imm := 1 }) (((wG 3).setFld BAY_STS.STATE bayPresent 3).setFn (fidBay 3) { run := .running }), 3,
    false, _, .head _, by refine ⟨?_, ?_, ?_, ?_, ?_⟩ <;> decide +kernel, settled0 (by decide +kernel), by decide +kernel,
    by decide +kernel, by decide +kernel, rfl, by decide +kernel, by decide +kernel, by decide +kernel, by decide +kernel,
    by decide +kernel⟩

theorem witness_EventInstructions :
    (∃ (d : Disp), ∃ (s : State), s.Issues (.waitev d) d (d.regImm && decide (d.imm.toNat < 256)) ∧ s.Settled d.seat.val ∧
      s.effMask d.seat.val d.imm.toNat ≠ 0) ∧
    (∃ (d : Disp), ∃ (s : State),
      s.Issues (.postev d) d (d.regImm && decide (d.imm.toNat < 2 ^ 11) && decide (0x70 ≤ d.imm.toNat % 256) && decide (d.imm.toNat % 256 ≤ 0x7F)) ∧
      fifoRoom 1024 s.eng.evq.length (d.imm.toNat / 256) = true) :=
  ⟨⟨{ d1 with imm := 255 }, wI (.waitev { d1 with imm := 255 }) wE, by refine ⟨?_, ?_, ?_, ?_, ?_⟩ <;> decide +kernel,
    settled0 (by decide +kernel), by decide +kernel⟩,
   ⟨{ seat := 0, rs1 := 1, imm := 0x77F }, wI (.postev { seat := 0, rs1 := 1, imm := 0x77F }) wE,
     by refine ⟨?_, ?_, ?_, ?_, ?_⟩ <;> decide +kernel, by decide +kernel⟩⟩

theorem witness_EventsEndWaits :
    (∃ (s : State), ∃ (w : Word), ∃ (n : Nat), s.handOff = some (w, n)) ∧
    (∃ (s : State), ∃ (n : Fin 16), ∃ (mask : Nat), ∃ (timeout : Nat), ∃ (rd : Nat), ∃ (b : Bool),
      s.seatState n.val = seatWaiting ∧ (s.seat n.val).wait = some ⟨.waitev mask timeout, rd, b⟩ ∧ timeout ≠ 0 ∧
      s.handOff = none) :=
  ⟨⟨((w0.setSeatState 0 seatWaiting).modSeat 0 (fun q => { q with wait := some ⟨.waitev 2 0, 5, true⟩ })).post 0x10 3 0,
    eventWord 0x10 6 3 0, 0, by decide +kernel⟩,
   ⟨(w0.setSeatState 0 seatWaiting).modSeat 0 (fun q => { q with wait := some ⟨.waitev 2 5, 5, true⟩ }), 0, 2, 5, 5, true,
     by decide +kernel, by decide +kernel, by decide +kernel, by decide +kernel⟩⟩

theorem witness_RegisterWritesFollowAccessCodes :
    ∃ (who : Requester), ∃ (k : RKey), ∃ (a : Fin 67108864), ∃ (v : Word), ∃ (s : State), k.r ∈ [Reg.CORE_SW_RT, .CORE_RACL,
      .MPU_RGN, .PRT_EXT, .PRT_EXT_SLC, .PRT_REXT_W1, .PRT_SCRB_PAT, .TM_MTR_BKT, .TM_QBKT, .NOC_CTL, .LFL_HT_THR, .BAY_LIM,
      .ICF_TVEC] ∧ k.i < k.r.row.count ∧ k.j < k.r.row.inner ∧ a.val = k.addr ∧ s.Writes who k :=
  ⟨.seat 0, ⟨.NOC_CTL, 0, 0⟩, ⟨RKey.addr ⟨.NOC_CTL, 0, 0⟩, by decide⟩, 1, w0, by decide +kernel, by decide +kernel,
    by decide +kernel, by decide +kernel, writes0 (by decide +kernel)⟩

theorem witness_WindowWritesReachTheScratchpad :
    ∃ (who : Requester), ∃ (a : Fin 67108864), ∃ (wide : Bool), ∃ (v : Word), ∃ (s : State), 0x400000 ≤ a.val ∧
      a.val < 0x600000 ∧ a.val % (if wide then 8 else 4) = 0 ∧ (∀ n, who = .seat n → s.Settled n) :=
  ⟨.seat 0, 0x5FFFF8, true, 1, w0, by decide +kernel, by decide +kernel, by decide +kernel,
    fun _ h => by cases h; exact settled0 (by decide +kernel)⟩

theorem witness_CounterClearZeroes :
    ∃ (who : Requester), ∃ (k : RKey), ∃ (a : Fin 67108864), ∃ (v : Word), ∃ (s : State), k.r.row.anyWriteClears = true ∧
      k.r ≠ .PMC_GCNT ∧ k.r ≠ .PMC_PCNT ∧ k.r ≠ .PMC_SCNT ∧ k.i < k.r.row.count ∧ k.j < k.r.row.inner ∧ a.val = k.addr ∧
      s.Writes who k :=
  ⟨.seat 0, ⟨.TM_MTR_GRN, 0, 0⟩, ⟨RKey.addr ⟨.TM_MTR_GRN, 0, 0⟩, by decide⟩, 1, w0, by decide +kernel, by decide +kernel,
    by decide +kernel, by decide +kernel, by decide +kernel, by decide +kernel, by decide +kernel, writes0 (by decide +kernel)⟩

theorem witness_SkeinEntryWrites :
    (∃ (who : Requester), ∃ (n : Fin 65536), ∃ (v : Word), ∃ (s : State), s.Writes who ⟨.SKN_W0, n.val, 0⟩ ∧
      bitsOf v 63 60 ≠ s.fld SKN_W0.STATE n.val ∧ s.skeinGuard n.val (s.fld SKN_W0.STATE n.val) (bitsOf v 63 60) v = none) ∧
    (∃ (who : Requester), ∃ (n : Fin 65536), ∃ (v : Word), ∃ (s : State), s.Writes who ⟨.SKN_W1, n.val, 0⟩) ∧
    (∃ (who : Requester), ∃ (n : Fin 65536), ∃ (v : Word), ∃ (s : State), s.Writes who ⟨.SKN_W2, n.val, 0⟩ ∧
      s.fld SKN_W0.STATE n.val ≤ skAllocated) ∧
    (∃ (who : Requester), ∃ (n : Fin 65536), ∃ (v : Word), ∃ (s : State), s.Writes who ⟨.SKN_W3, n.val, 0⟩ ∧
      s.fld SKN_W0.STATE n.val ≤ skAllocated) :=
  ⟨⟨.seat 0, 7, 0x20FF000000000000, w0.setFld SKN_W0.STATE skFree 7, writes0 (by decide +kernel), by decide +kernel,
    by decide +kernel⟩,
   ⟨.seat 0, 7, 0, w0, writes0 (by decide +kernel)⟩,
   ⟨.seat 0, 7, 5, w0, writes0 (by decide +kernel), by decide +kernel⟩,
   ⟨.seat 0, 65535, 5, w0, writes0 (by decide +kernel), by decide +kernel⟩⟩

theorem witness_CapacityCommandsRecord :
    (∃ x, ∃ (who : Requester), ∃ (p : Fin 256), ∃ (n : Fin 65536), ∃ (s : State), (x ∈ ([(Instr.dceAdd, 1),
      (Instr.dceReleaseRequest, 2), (Instr.dceForcedRelease, 3)] : List ((Requester → Fin 256 → Fin 65536 → Instr) × Nat))) ∧
      s.Writes who ⟨.PRT_DCE, p.val, 0⟩ ∧ (s.slotsOf n.val p.val).isEmpty = false ∧ (x.2 = 1 →
      (s.port p.val).ext.any (fun a => a.skein == n.val) = true) ∧ (s.port p.val).dcLog.length < dcLogSize) ∧
    (∃ x, ∃ (who : Requester), ∃ (p : Fin 256), ∃ (i : Fin 32), ∃ (s : State), (x ∈ ([(Instr.rdceAdd, 1),
      (Instr.rdceReleaseRequest, 2), (Instr.rdceForcedRelease, 3)] : List ((Requester → Fin 256 → Fin 32 → Instr) × Nat))) ∧
      s.Writes who ⟨.PRT_RDCE, p.val, 0⟩ ∧ (x.2 = 1 → (s.port p.val).rext.any (fun a => a.idx == i.val) = true) ∧
      (s.port p.val).dcLog.length < dcLogSize) :=
  ⟨⟨_, .seat 0, 3, 7, ((w0.wr ⟨.SKN_W1, 7, 0⟩ 0x10000).wr ⟨.SKN_W2, 7,
    0⟩ 3).setPort 3 { ext := [⟨0, 7, 0, 1, 0, 0, 0, true, none, 0⟩] }, .head _, writes0 (by decide +kernel), by decide +kernel,
    by decide +kernel, by decide +kernel⟩,
   ⟨_, .seat 0, 3, 31, wP 3 { rext := [⟨31, 0, 1, 0, 0, 0, true, none, false⟩] }, .head _, writes0 (by decide +kernel),
     by decide +kernel, by decide +kernel⟩⟩

theorem witness_AddResponsesAccept :
    (∃ (p : Fin 256), ∃ (n : Nat), ∃ (k : Nat), ∃ (rest : List (Bool × Nat)), ∃ (ks : List Nat), ∃ (s : State), n < 65536 ∧
      s.mayAccept p.val (false, n) = true ∧ (s.port p.val).offers = (false, n) :: rest ∧ (false, n) ∉ rest ∧
      s.slotsOf n p.val = k :: ks) ∧
    (∃ (p : Fin 256), ∃ (l : List (Bool × Nat)), ∃ (s : State), l.all (s.mayAccept p.val) = false) :=
  ⟨⟨3, 7, 0, [], [], (((w0.wr ⟨.SKN_W1, 7, 0⟩ 0x10000).wr ⟨.SKN_W2, 7,
    0⟩ 3).setFld SKN_W0.STATE skOffered 7).setPort 3 { offers := [(false, 7)] }, by decide +kernel, by decide +kernel,
    by decide +kernel, by decide +kernel, by decide +kernel⟩,
   ⟨3, [(false, 7)], w0, by decide +kernel⟩⟩

theorem witness_ReleasesClearAcceptance :
    (∃ (p : Fin 256), ∃ (n : Fin 65536), ∃ (s : State), s.mayRelease p.val (false, n.val) = true) ∧
    (∃ (p : Fin 256), ∃ (n : Fin 65536), ∃ (s : State), s.mayRelease p.val (true, n.val) = true) :=
  ⟨⟨3, 7, ((w0.wr ⟨.SKN_W1, 7, 0⟩ 0x1000000010000).wr ⟨.SKN_W2, 7, 0⟩ 3).setFld SKN_W0.STATE skBound 7, by decide +kernel⟩,
   ⟨3, 31, (w0.setFld PRT_REXT_W0.ACC 1 3 31).setFld PRT_REXT_W0.VLD 1 3 31, by decide +kernel⟩⟩

theorem witness_EpochsTakeTheStagedMap :
    (∃ (p : Fin 256), ∃ (e : EpochReq), ∃ (rest : List EpochReq), ∃ (s : State), (s.port p.val).epochs = e :: rest ∧
      e.draining = none ∧ (s.port p.val).trackerDown = false ∧ s.role p.val ≠ 4 ∧ s.epochErr p.val = 0) ∧
    (∃ (p : Fin 256), ∃ (e : EpochReq), ∃ (rest : List EpochReq), ∃ (s : State), (s.port p.val).epochs = e :: rest ∧
      e.draining = none ∧ (s.port p.val).trackerDown = false ∧ s.role p.val ≠ 4 ∧ s.epochErr p.val ≠ 0) ∧
    (∃ (p : Fin 256), ∃ (e : EpochReq), ∃ (rest : List EpochReq), ∃ (s : State), (s.port p.val).epochs = e :: rest ∧
      e.draining = none ∧ (s.port p.val).trackerDown = false ∧ s.role p.val = 4) ∧
    (∃ (p : Fin 256), ∃ (e : EpochReq), ∃ (rest : List EpochReq), ∃ (old : Nat), ∃ (s : State),
      (s.port p.val).epochs = e :: rest ∧ e.draining = some old ∧ (s.port p.val).epochOpen old = false ∧
      (s.port p.val).trackerDown = false) :=
  ⟨⟨3, { seat := none, rd := 0 }, [], (w0.setFld PRT_CTL.ROLE 1 3).setPort 3 { epochs := [{ seat := none, rd := 0 }] },
    by decide +kernel, by decide +kernel, by decide +kernel, by decide +kernel, by decide +kernel⟩,
   ⟨3, { seat := none, rd := 0 }, [],
     ((w0.setFld PRT_CTL.ROLE 1 3).setFld PRT_EXT.VLD 1 3 0).setPort 3 { epochs := [{ seat := none, rd := 0 }] },
     by decide +kernel, by decide +kernel, by decide +kernel, by decide +kernel, by decide +kernel⟩,
   ⟨3, { seat := none, rd := 0 }, [], (w0.setFld PRT_CTL.ROLE 4 3).setPort 3 { epochs := [{ seat := none, rd := 0 }] },
     by decide +kernel, by decide +kernel, by decide +kernel, by decide +kernel⟩,
   ⟨3, { seat := none, rd := 0, draining := some 2 }, [], 2,
     (w0.setFld PRT_CTL.ROLE 1 3).setPort 3 { epochs := [{ seat := none, rd := 0, draining := some 2 }] }, by decide +kernel,
     by decide +kernel, by decide +kernel, by decide +kernel⟩⟩

theorem witness_ScrubsFreeTheSkein :
    (∃ (who : Requester), ∃ (p : Fin 256), ∃ (n : Fin 65536), ∃ (s : State), s.Writes who ⟨.PRT_SCRB_CTL, p.val, 0⟩ ∧
      s.fld SKN_W0.STATE n.val = skScrubbing ∧ s.fld SKN_W0.MPORT n.val = p.val ∧ (s.port p.val).scrub = none) ∧
    (∃ (p : Fin 256), ∃ (x : ScrubSt), ∃ (s : State), (s.port p.val).scrub = some x ∧ s.skeinLines x.skein ≤ x.acked ∧
      s.fld SKN_W0.STATE x.skein = skScrubbing) :=
  ⟨⟨.seat 0, 3, 7, (w0.setFld SKN_W0.STATE skScrubbing 7).setFld SKN_W0.MPORT 3 7, writes0 (by decide +kernel),
    by decide +kernel, by decide +kernel, by decide +kernel⟩,
   ⟨3, { skein := 7, acked := 100000000 },
     (w0.setFld SKN_W0.STATE skScrubbing 7).setPort 3 { scrub := some { skein := 7, acked := 100000000 } }, by decide +kernel,
     by decide +kernel, by decide +kernel⟩⟩

theorem witness_CrewsAreMadeAndUnmade :
    (∃ (who : Requester), ∃ (c : Fin 256), ∃ (s : State), s.Writes who ⟨.CRW_CMD, c.val, 0⟩ ∧ s.crewState c.val = 0 ∧
      s.safe = false) ∧
    (∃ (who : Requester), ∃ (c : Fin 256), ∃ (s : State), s.Writes who ⟨.CRW_CMD, c.val, 0⟩ ∧ (s.crewState c.val = 1 ∨
      s.crewState c.val = 4) ∧ s.skeinCount c.val = 0 ∧ s.fld CRW_ENT_CNT.CNT c.val = 0) ∧
    (∃ (who : Requester), ∃ (c : Fin 256), ∃ (v : BitVec 32), ∃ (s : State), s.Writes who ⟨.CRW_CTL, c.val, 0⟩ ∧
      s.crewState c.val = 1) ∧
    (∃ (who : Requester), ∃ (c : Fin 256), ∃ (w : Fin 128), ∃ (v : BitVec 32), ∃ (s : State), s.Writes who ⟨.CRW_MEM, c.val,
      w.val⟩ ∧ s.crewState c.val = 1) :=
  ⟨⟨.seat 0, 3, w0, writes0 (by decide +kernel), by decide +kernel, by decide +kernel⟩,
   ⟨.seat 0, 3, w0.setFld CRW_STS.STATE 4 3, writes0 (by decide +kernel), by decide +kernel, by decide +kernel,
     by decide +kernel⟩,
   ⟨.seat 0, 3, 0xFFFFFFFF, w0.setFld CRW_STS.STATE 1 3, writes0 (by decide +kernel), by decide +kernel⟩,
   ⟨.seat 0, 3, 127, 0xFFFFFFFF, w0.setFld CRW_STS.STATE 1 3, writes0 (by decide +kernel), by decide +kernel⟩⟩

theorem witness_FencesTakeTheCrew :
    (∃ (i : Nat), ∃ (c : Nat), ∃ (f : FenceReq), ∃ (s : State), s.nextFence i = some f ∧ c ∈ f.crews.crews ∧ c < 256 ∧
      (s.crewState c = 1 ∨ s.crewState c = 2)) ∧
    (∃ (i : Nat), ∃ (j : Nat), ∃ (c : Nat), ∃ (f : FenceReq), ∃ (g : FenceReq), ∃ (s : State), i ≠ j ∧ s.nextFence i = some f ∧
      s.nextFence j = some g ∧ c ∈ f.crews.crews ∧ c ∈ g.crews.crews ∧ c < 256 ∧ (s.crewState c = 1 ∨ s.crewState c = 2)) ∧
    (∃ (c : Fin 256), ∃ (s : State), s.crewState c.val = 3 ∧ (tabGet (fun _ => []) s.flt.purged c.val).length = 64) :=
  ⟨⟨0, 3, { cause := 2, unit := 3, crews := .one 3 },
    wFlt (fun f => { f with fences := [{ cause := 2, unit := 3, crews := .one 3 }] }) (w0.setFld CRW_STS.STATE 1 3),
    by decide +kernel, by decide +kernel, by decide +kernel, by decide +kernel⟩,
   ⟨0, 1, 3, { cause := 4, unit := 3, crews := .one 3 }, { cause := 2, unit := 9, crews := .one 3 },
     wFlt (fun f => { f with fences := [{ cause := 4, unit := 3, crews := .one 3 }, { cause := 2, unit := 9, crews := .one 3 }] }) (w0.setFld CRW_STS.STATE 1 3),
     by decide +kernel, by decide +kernel, by decide +kernel, by decide +kernel, by decide +kernel, by decide +kernel,
     by decide +kernel⟩,
   ⟨3, { w0 with regs := (w0.setFld CRW_STS.STATE 3 3).regs, flt := { w0.flt with purged := [(3, List.range 64)] } },
     by decide +kernel, by decide +kernel⟩⟩

theorem witness_HostRequestsAreCheckedThenTaken :
    (∃ (p : Fin 256), ∃ (r : HostReq), ∃ (s : State), ∃ (cause : Nat), s.hostTakes p.val r.op = true ∧
      (s.port p.val).trackerDown = false ∧ s.check p.val r.op r.dpa = .fail cause false) ∧
    (∃ (p : Fin 256), ∃ (r : HostReq), ∃ (s : State), ∃ (a : ActExt), s.hostTakes p.val r.op = true ∧
      (s.port p.val).trackerDown = false ∧ s.check p.val r.op r.dpa = .local a ∧ r.op = .memRdData ∧ a.crew = noCrew ∧
      s.groupHolds a.group = false ∧ a.slice = none ∧ (∀ x ∈ (s.port p.val).out, x.tag ≠ (s.port p.val).nextTag)) :=
  ⟨⟨3, { op := .memRdData, hpa := 0, dpa := some 0, tag := 5 }, wHost, 4, by decide +kernel, by decide +kernel,
    by decide +kernel⟩,
   ⟨3, { op := .memRdData, hpa := 0, dpa := some 0, tag := 5 },
     (wHost.setFld PRT_DCR.SIZE_G 16 3).modPort 3 (fun q => { q with ext := [⟨0, 7, 0, 1, 0xFF, 9, 0, true, none, 0⟩] }), ⟨0, 7,
     0, 1, 0xFF, 9, 0, true, none, 0⟩, by decide +kernel, by decide +kernel, by decide +kernel, by decide +kernel,
     by decide +kernel, by decide +kernel, by decide +kernel, by decide +kernel⟩⟩

theorem witness_NacksAndParksHoldTheEntry :
    (∃ (p : Fin 256), ∃ (m : Msg), ∃ (rest : List Msg), ∃ (e : OutEntry), ∃ (s : State),
      takeFirst (fun m => m.body == .nack) (s.port p.val).inbox = some (m, rest) ∧ s.entry p.val m.tag = some e ∧
      s.fld CRW_CTL.BO_MIN e.crew ≤ s.fld CRW_CTL.BO_MAX e.crew) ∧
    (∃ (p : Fin 256), ∃ (m : Msg), ∃ (rest : List Msg), ∃ (e : OutEntry), ∃ (s : State),
      takeFirst (fun m => m.body == .parkNotice) (s.port p.val).inbox = some (m, rest) ∧ s.entry p.val m.tag = some e) :=
  ⟨⟨3, { body := .nack, tag := 5 }, [], wEnt, wP 3 { inbox := [{ body := .nack, tag := 5 }], out := [wEnt] }, by decide +kernel,
    by decide +kernel, by decide +kernel⟩,
   ⟨3, { body := .parkNotice, tag := 5 }, [], wEnt, wP 3 { inbox := [{ body := .parkNotice, tag := 5 }], out := [wEnt] },
     by decide +kernel, by decide +kernel⟩⟩

theorem witness_BackoffEndsInASend :
    (∃ (p : Fin 256), ∃ (tag : Nat), ∃ (e : OutEntry), ∃ (s : State), s.entry p.val tag = some e ∧ e.phase = .backoff ∧
      (s.setEntry p.val { e with phase := .held }).sendable p.val { e with phase := .held } = false) ∧
    (∃ (p : Fin 256), ∃ (tag : Nat), ∃ (e : OutEntry), ∃ (s : State), s.entry p.val tag = some e ∧ e.phase = .backoff ∧
      (s.setEntry p.val { e with phase := .held }).sendable p.val { e with phase := .held } = true) :=
  ⟨⟨3, 5, { wEnt with kind := .coh .sRead, phase := .backoff },
    wP 3 { out := [{ wEnt with kind := .coh .sRead, phase := .backoff }] }, by decide +kernel, by decide +kernel,
    by decide +kernel⟩,
   ⟨3, 5, { wEnt with phase := .backoff, crew := 0xFF }, wBack, by decide +kernel, by decide +kernel, by decide +kernel⟩⟩

theorem witness_DataAnswersTheHost :
    ∃ (p : Fin 256), ∃ (m : Msg), ∃ (rest : List Msg), ∃ (e : OutEntry), ∃ (g : MetaVal), ∃ (s : State),
      takeFirst (fun m => (m.body.reply m.poison).isSome) (s.port p.val).inbox = some (m, rest) ∧ s.entry p.val m.tag = some e ∧
      m.body.reply m.poison = some (.data g m.poison) ∧ e.kind.returnHdr e.fab = none ∧ (s.port p.val).snoops = [] :=
  ⟨3, { body := .data .s, tag := 5 }, [], wEnt, .s, wP 3 { inbox := [{ body := .data .s, tag := 5 }], out := [wEnt] },
    by decide +kernel, by decide +kernel, by decide +kernel, by decide +kernel, by decide +kernel⟩

theorem witness_BackInvalidatesReachTheAgent :
    (∃ (p : Fin 256), ∃ (m : Msg), ∃ (rest : List Msg), ∃ (k : Snp), ∃ (s : State),
      takeFirst (fun m => m.body.snp.isSome) (s.port p.val).inbox = some (m, rest) ∧ m.body.snp = some k ∧
      s.fld PRT_CTL.ROLE p.val ≠ 4 ∧ s.linkActive p.val = true ∧ (s.port p.val).maps m = true) ∧
    (∃ (p : Fin 256), ∃ (m : Msg), ∃ (rest : List Msg), ∃ (k : Snp), ∃ (s : State),
      takeFirst (fun m => m.body.snp.isSome) (s.port p.val).inbox = some (m, rest) ∧ m.body.snp = some k ∧
      s.fld PRT_CTL.ROLE p.val ≠ 4 ∧ (s.port p.val).maps m = false) ∧
    (∃ (p : Fin 256), ∃ (m : Msg), ∃ (rest : List Msg), ∃ (k : Snp), ∃ (s : State),
      takeFirst (fun m => m.body.snp.isSome) (s.port p.val).inbox = some (m, rest) ∧ m.body.snp = some k ∧
      s.fld PRT_CTL.ROLE p.val = 4) :=
  ⟨⟨3, { body := .snoop .inv }, [], .inv,
    wHost.modPort 3 (fun q => { q with inbox := [{ body := .snoop .inv }], ext := [⟨0, 7, 0, 1, 0xFF, 0, 0, true, none, 0⟩] }),
    by decide +kernel, by decide +kernel, by decide +kernel, by decide +kernel, by decide +kernel⟩,
   ⟨3, { body := .snoop .inv }, [], .inv, wHost.modPort 3 (fun q => { q with inbox := [{ body := .snoop .inv }] }),
     by decide +kernel, by decide +kernel, by decide +kernel, by decide +kernel⟩,
   ⟨3, { body := .snoop .inv }, [], .inv, (w0.setFld PRT_CTL.ROLE 4 3).setPort 3 { inbox := [{ body := .snoop .inv }] },
     by decide +kernel, by decide +kernel, by decide +kernel⟩⟩

theorem witness_SnoopTimersAndConflicts :
    (∃ (p : Fin 256), ∃ (i : Nat), ∃ (x : SnpEntry), ∃ (s : State), (s.port p.val).snoops[i]? = some x ∧ x.timed = true ∧
      x.expired = false) ∧
    (∃ (p : Fin 256), ∃ (i : Nat), ∃ (x : SnpEntry), ∃ (s : State), (s.port p.val).snoops[i]? = some x ∧
      (∃ e ∈ (s.port p.val).out, sameLine e x = true ∧ e.answered = false)) ∧
    (∃ (p : Fin 256), ∃ (i : Nat), ∃ (x : SnpEntry), ∃ (s : State), (s.port p.val).snoops[i]? = some x ∧
      (s.port p.val).ackable x = true ∧ (∀ y ∈ (s.port p.val).snoops, y.conflict = false)) ∧
    (∃ (p : Fin 256), ∃ (d : Fin 64), ∃ (s : State), (s.fn (fidSlice d.val)).run = .stopping ∧
      (s.port p.val).stops.contains d.val = false) :=
  ⟨⟨3, 0, { wSnp with timed := true }, wP 3 { snoops := [{ wSnp with timed := true }] }, by decide +kernel, by decide +kernel,
    by decide +kernel⟩,
   ⟨3, 0, wSnp, wP 3 { snoops := [wSnp], out := [{ wEnt with kind := .coh .sRead }] }, by decide +kernel,
     ⟨{ wEnt with kind := .coh .sRead }, by decide +kernel, by decide +kernel⟩⟩,
   ⟨3, 0, wSnp, wP 3 { snoops := [wSnp], out := [{ wEnt with answered := true }] }, by decide +kernel, by decide +kernel,
     by decide +kernel⟩,
   ⟨3, 5, w0.setFn (fidSlice 5) { run := .stopping }, by decide +kernel, by decide +kernel⟩⟩

theorem witness_HostAnswersReachTheHome :
    (∃ (p : Fin 256), ∃ (i : Nat), ∃ (a : Ans), ∃ (tie : Bool), ∃ (x : SnpEntry), ∃ (s : State),
      (s.port p.val).snoops[i]? = some x ∧ x.expired = false ∧ x.kind.satisfied a = true ∧ s.awayHdr x = none) ∧
    (∃ (p : Fin 256), ∃ (i : Nat), ∃ (a : Ans), ∃ (tie : Bool), ∃ (s : State),
      ((s.port p.val).snoops[i]?).all (fun x => !x.expired && !x.kind.satisfied a) = true) ∧
    (∃ (p : Fin 256), ∃ (i : Nat), ∃ (a : Ans), ∃ (tie : Bool), ∃ (x : SnpEntry), ∃ (s : State),
      (s.port p.val).snoops[i]? = some x ∧ x.expired = true) :=
  ⟨⟨3, 0, .i, true, wSnp, wP 3 { snoops := [wSnp] }, by decide +kernel, by decide +kernel, by decide +kernel,
    by decide +kernel⟩,
   ⟨3, 0, .e, true, wP 3 { snoops := [wSnp] }, by decide +kernel⟩,
   ⟨3, 0, .i, true, { wSnp with expired := true }, wP 3 { snoops := [{ wSnp with expired := true }] }, by decide +kernel,
     by decide +kernel⟩⟩

theorem witness_FenceNoticesEndTheCrewsRequests :
    (∃ (p : Fin 256), ∃ (m : Msg), ∃ (rest : List Msg), ∃ (s : State),
      takeFirst (fun m => m.body == .fence) (s.port p.val).inbox = some (m, rest) ∧ s.fld PRT_CTL.ROLE p.val = 2) ∧
    (∃ (p : Fin 256), ∃ (m : Msg), ∃ (rest : List Msg), ∃ (s : State),
      takeFirst (fun m => m.body == .fence) (s.port p.val).inbox = some (m, rest) ∧ s.fld PRT_CTL.ROLE p.val ≠ 2) :=
  ⟨⟨3, { body := .fence }, [], (w0.setFld PRT_CTL.ROLE 2 3).setPort 3 { inbox := [{ body := .fence }] }, by decide +kernel,
    by decide +kernel⟩,
   ⟨3, { body := .fence, crew := 3 }, [],
     (w0.setFld PRT_CTL.ROLE 1 3).setPort 3 { inbox := [{ body := .fence, crew := 3 }], out := [{ wEnt with kind := .coh .sRead }], snoops := [wSnp] },
     by decide +kernel, by decide +kernel⟩⟩

theorem witness_AdmittedRequestsActByTheirLine :
    (∃ (d : Fin 64), ∃ (pipe : Fin 2), ∃ (dt : Nat), ∃ (m : Msg), ∃ (rest : List Msg), ∃ (x : Intent), ∃ (g : MetaVal),
      ∃ (w : Nat), ∃ (s : State), s.Serves d.val pipe.val dt m rest x ∧ (s.slice d.val).lookup x m.mport m.addr true = .way w ∧
      (x, (s.dirEntry d.val (homeSet m.mport m.addr) w).line (lineOf m.addr), g) ∈ ([(.sRead, .i, .s), (.sRead, .s, .s),
      (.eRead, .i, .a)] : List (Intent × LineState × MetaVal)) ∧ (s.slice d.val).wipHas m.mport m.addr = false) ∧
    (∃ (d : Fin 64), ∃ (pipe : Fin 2), ∃ (dt : Nat), ∃ (m : Msg), ∃ (rest : List Msg), ∃ (x : Intent), ∃ (k : Snp), ∃ (w : Nat),
      ∃ (ts : List Nat), ∃ (s : State), s.Serves d.val pipe.val dt m rest x ∧
      (s.slice d.val).lookup x m.mport m.addr true = .way w ∧
      x.snoop ((s.dirEntry d.val (homeSet m.mport m.addr) w).line (lineOf m.addr)) = some k ∧
      ts = (s.sharers (s.dirEntry d.val (homeSet m.mport m.addr) w)).filter (fun f => f != m.feid) ∧ ts ≠ [] ∧ (∀ f ∈ ts,
      (s.agentPort f).isSome = true)) ∧
    (∃ (d : Fin 64), ∃ (pipe : Fin 2), ∃ (dt : Nat), ∃ (m : Msg), ∃ (rest : List Msg), ∃ (w : Nat), ∃ (s : State),
      s.Serves d.val pipe.val dt m rest .eOwn ∧ (s.slice d.val).lookup .eOwn m.mport m.addr true = .way w ∧
      (s.dirEntry d.val (homeSet m.mport m.addr) w).line (lineOf m.addr) = .i ∧ (s.slice d.val).wipHas m.mport m.addr = false) ∧
    (∃ (d : Fin 64), ∃ (pipe : Fin 2), ∃ (dt : Nat), ∃ (m : Msg), ∃ (rest : List Msg), ∃ (s : State),
      s.Serves d.val pipe.val dt m rest .iRead ∧ ((s.slice d.val).lookup .iRead m.mport m.addr true = .none ∨ ∃ w,
      (s.slice d.val).lookup .iRead m.mport m.addr true = .way w ∧
      (s.dirEntry d.val (homeSet m.mport m.addr) w).line (lineOf m.addr) ∈ [LineState.i, .s]) ∧
      (s.slice d.val).wipHas m.mport m.addr = false) ∧
    (∃ (d : Fin 64), ∃ (pipe : Fin 2), ∃ (dt : Nat), ∃ (r : Parked), ∃ (x : Intent), ∃ (g : MetaVal), ∃ (w : Nat),
      ∃ (s : State), s.slotFree d.val pipe.val dt ∧ r.req.port < 256 ∧
      (s.slice d.val).retry.find? (fun r => r.ready && r.pipe == pipe.val) = some r ∧ r.req.body = .cohReq x ∧
      s.fencedAt d.val r.req.crew = false ∧ (s.slice d.val).lookup x r.req.mport r.req.addr false = .way w ∧ (x,
      (s.dirEntry d.val (homeSet r.req.mport r.req.addr) w).line (lineOf r.req.addr), g) ∈ ([(.sRead, .i, .s), (.sRead, .s, .s),
      (.eRead, .i, .a)] : List (Intent × LineState × MetaVal)) ∧ (s.slice d.val).wipHas r.req.mport r.req.addr = false) ∧
    (∃ (e : DirEntry), ∃ (f : Nat), f < 4096 ∧ (e.record f).shm = false) ∧
    (∃ (e : DirEntry), ∃ (f : Nat), f < 4096 ∧ (e.record f).shm = true) :=
  ⟨⟨5, 0, 1, wAsk .sRead, [], .sRead, .s, 0, wDir .s { reqIn := [wAsk .sRead] },
    by refine ⟨slot0 ?_, ?_, ?_, ?_, ?_, ?_⟩ <;> decide +kernel, by decide +kernel, by decide +kernel, by decide +kernel⟩,
   ⟨5, 0, 1, wAsk .eRead, [], .eRead, .inv, 0, [2], wDir .e { reqIn := [wAsk .eRead] },
     by refine ⟨slot0 ?_, ?_, ?_, ?_, ?_, ?_⟩ <;> decide +kernel, by decide +kernel, by decide +kernel, by decide +kernel,
     by decide +kernel, by decide +kernel⟩,
   ⟨5, 0, 1, wAsk .eOwn, [], 0, wDir .i { reqIn := [wAsk .eOwn] }, by refine ⟨slot0 ?_, ?_, ?_, ?_, ?_, ?_⟩ <;> decide +kernel,
     by decide +kernel, by decide +kernel, by decide +kernel⟩,
   ⟨5, 0, 1, wAsk .iRead, [], wDir .s { reqIn := [wAsk .iRead] }, by refine ⟨slot0 ?_, ?_, ?_, ?_, ?_, ?_⟩ <;> decide +kernel,
     .inr ⟨0, by decide +kernel⟩, by decide +kernel⟩,
   ⟨5, 0, 1, ⟨wAsk .eRead, 0, .set 0, true⟩, .eRead, .a, 0, wDir .i { retry := [⟨wAsk .eRead, 0, .set 0, true⟩] },
     slot0 (by decide +kernel), by decide +kernel, by decide +kernel, by decide +kernel, by decide +kernel, by decide +kernel,
     by decide +kernel, by decide +kernel⟩,
   ⟨((({} : DirEntry).record 1).record 2).record 3, 4095, by decide +kernel, by decide +kernel⟩,
   ⟨(((({} : DirEntry).record 1).record 2).record 3).record 4, 4095, by decide +kernel, by decide +kernel⟩⟩

theorem witness_RequestsAllocateOrConflict :
    (∃ (d : Fin 64), ∃ (pipe : Fin 2), ∃ (dt : Nat), ∃ (m : Msg), ∃ (rest : List Msg), ∃ (x : Intent), ∃ (w : Nat),
      ∃ (s : State), s.Serves d.val pipe.val dt m rest x ∧ x ∈ [Intent.sRead, .eRead] ∧
      (s.slice d.val).lookup x m.mport m.addr true = .alloc w ∧ (s.dirEntry d.val (homeSet m.mport m.addr) w).v = false ∧
      (s.slice d.val).wipHas m.mport m.addr = false) ∧
    (∃ (d : Fin 64), ∃ (pipe : Fin 2), ∃ (dt : Nat), ∃ (m : Msg), ∃ (rest : List Msg), ∃ (x : Intent), ∃ (c : ParkWait),
      ∃ (s : State), s.Serves d.val pipe.val dt m rest x ∧
      (s.slice d.val).lookup x m.mport m.addr true = .conflict c none false) :=
  ⟨⟨5, 0, 1, wAsk .eRead, [], .eRead, 0, wS 5 { reqIn := [wAsk .eRead] },
    by refine ⟨slot0 ?_, ?_, ?_, ?_, ?_, ?_⟩ <;> decide +kernel, by decide +kernel, by decide +kernel, by decide +kernel,
    by decide +kernel⟩,
   ⟨5, 0, 1, wAsk .eRead, [], .eRead, .line 0 0, wDir .pending { reqIn := [wAsk .eRead] },
     by refine ⟨slot0 ?_, ?_, ?_, ?_, ?_, ?_⟩ <;> decide +kernel, by decide +kernel⟩⟩

theorem witness_SlicesTakeWritebacksAndAnswers :
    (∃ (d : Fin 64), ∃ (pipe : Fin 2), ∃ (dt : Nat), ∃ (m : Msg), ∃ (u : State), ∃ (s : State), ∃ (v : MetaVal), ∃ (w : Nat),
      ∃ (e : DirEntry),
      (s.modSlice d.val (fun q => q.cycle dt)).takeLane d.val pipe.val (fun m => m.body.isWriteback) = some (m, u) ∧
      m.body = .writeback v ∧ m.poison = false ∧ (s.slice d.val).fenced.contains m.crew = false ∧
      s.wayOf d.val m.mport m.addr = some w ∧ e = s.dirEntry d.val (homeSet m.mport m.addr) w ∧
      (s.sharers e).contains m.feid = true ∧ e.line (lineOf m.addr) = .e) ∧
    (∃ (d : Fin 64), ∃ (pipe : Fin 2), ∃ (dt : Nat), ∃ (m : Msg), ∃ (u : State), ∃ (s : State), ∃ (v : MetaVal),
      (s.modSlice d.val (fun q => q.cycle dt)).takeLane d.val pipe.val (fun m => m.body.isWriteback) = some (m, u) ∧
      m.body = .writeback v ∧ (s.slice d.val).fenced.contains m.crew = false ∧ (∀ w, s.wayOf d.val m.mport m.addr = some w →
      (s.sharers (s.dirEntry d.val (homeSet m.mport m.addr) w)).contains m.feid = false)) ∧
    (∃ (d : Fin 64), ∃ (pipe : Fin 2), ∃ (dt : Nat), ∃ (m : Msg), ∃ (u : State), ∃ (s : State), ∃ (x : Txn),
      ∃ (rest : List Txn), ∃ (g : MetaVal),
      (s.modSlice d.val (fun q => q.cycle dt)).takeLane d.val pipe.val (fun m => m.body.snoopAns.isSome) = some (m, u) ∧
      takeFirst (fun (t : Txn) => t.mport == m.mport && t.addr / 64 == m.addr / 64 && t.awaiting.contains m.feid) (s.slice d.val).txns = some (x,
      rest) ∧ x.awaiting.erase m.feid ≠ []) ∧
    (∃ (d : Fin 64), ∃ (pipe : Fin 2), ∃ (dt : Nat), ∃ (m : Msg), ∃ (u : State), ∃ (s : State), ∃ (x : Txn),
      ∃ (rest : List Txn), ∃ (g : MetaVal),
      (s.modSlice d.val (fun q => q.cycle dt)).takeLane d.val pipe.val (fun m => m.body.snoopAns.isSome) = some (m, u) ∧
      takeFirst (fun (t : Txn) => t.mport == m.mport && t.addr / 64 == m.addr / 64 && t.awaiting.contains m.feid) (s.slice d.val).txns = some (x,
      rest) ∧ x.awaiting.erase m.feid = [] ∧ (x.kind, g) ∈ ([(.request .eRead, .a), (.request .sRead,
      .s)] : List (TxnKind × MetaVal)) ∧ (s.slice d.val).wipHas x.mport x.addr = false) ∧
    (∃ (d : Fin 64), ∃ (m : Msg), ∃ (rest : List Msg), ∃ (x : Txn), ∃ (r : List Txn), ∃ (l : LineState), ∃ (s : State),
      takeFirst (fun (m : Msg) => match m.body with | .notice _ => true | _ => false) (s.slice d.val).noticeIn = some (m,
      rest) ∧ m.body = .notice false ∧
      takeFirst (fun (t : Txn) => t.stage == .issued && t.kind != .evict && t.req.port == m.port && t.req.tag == m.tag) (s.slice d.val).txns = some (x,
      r) ∧ x.counted = true ∧ (s.dirEntry d.val x.set x.way).v = true ∧
      (s.dirEntry d.val x.set x.way).tag = homeTag x.mport x.addr ∧ (x.kind, l) ∈ ([(.request .eRead, .e), (.request .sRead,
      .s)] : List (TxnKind × LineState))) ∧
    (∃ (d : Fin 64), ∃ (m : Msg), ∃ (rest : List Msg), ∃ (x : WipEntry), ∃ (r : List WipEntry), ∃ (s : State),
      takeFirst (fun (m : Msg) => match m.body with | .notice _ => true | _ => false) (s.slice d.val).noticeIn = some (m,
      rest) ∧ m.body = .notice true ∧
      takeFirst (fun (w : WipEntry) => w.mport == m.mport && w.addr / 64 == m.addr / 64) (s.slice d.val).wip = some (x, r) ∧
      (s.slice d.val).txns.any (fun t => t.stage == .waitWip || t.stage == .waitRoom) = false) :=
  ⟨⟨5, 0, 1, { body := .writeback .i, feid := 2, crew := 3 }, _,
    wDir .e { wbIn := [{ body := .writeback .i, feid := 2, crew := 3 }] }, .i, 0, wLine .e, rfl, by decide +kernel,
    by decide +kernel, by decide +kernel, by decide +kernel, by decide +kernel, by decide +kernel, by decide +kernel⟩,
   ⟨5, 0, 1, { body := .writeback .i, feid := 1, crew := 3 }, _,
     wDir .e { wbIn := [{ body := .writeback .i, feid := 1, crew := 3 }] }, .i, rfl, by decide +kernel, by decide +kernel,
     by intro w h; obtain rfl : (0 : Nat) = w := Option.some.inj (((by decide +kernel : State.wayOf _ _ _ _ = some 0)).symm.trans h); decide +kernel⟩,
   ⟨5, 0, 1, { body := .answer .inv .i, feid := 1 }, _,
     wS 5 { wbIn := [{ body := .answer .inv .i, feid := 1 }], txns := [wTxn] }, wTxn, [], .i, rfl, by decide +kernel,
     by decide +kernel⟩,
   ⟨5, 0, 1, { body := .answer .inv .i, feid := 1 }, _,
     wS 5 { wbIn := [{ body := .answer .inv .i, feid := 1 }], txns := [{ wTxn with awaiting := [1] }] },
     { wTxn with awaiting := [1] }, [], .s, rfl, by decide +kernel, by decide +kernel, by decide +kernel, by decide +kernel⟩,
   ⟨5, { body := .notice false }, [], wIss .eRead, [], .e,
     wDir .pending { noticeIn := [{ body := .notice false }], txns := [wIss .eRead] }, by decide +kernel, by decide +kernel,
     by decide +kernel, by decide +kernel, by decide +kernel, by decide +kernel, by decide +kernel⟩,
   ⟨5, { body := .notice true }, [], ⟨0, 0, 0⟩, [], wDir .s { noticeIn := [{ body := .notice true }], wip := [⟨0, 0, 0⟩] },
     by decide +kernel, by decide +kernel, by decide +kernel, by decide +kernel⟩⟩

theorem witness_EvictionsFreeTheWay :
    ∃ (d : Fin 64), ∃ (set : Fin 2048), ∃ (way : Fin 16), ∃ (s : State),
      (s.slice d.val).evicts.any (fun e => e.set == set.val && e.way == way.val) = true ∧
      (s.slice d.val).evictDone set.val way.val = true :=
  ⟨5, 7, 15, wS 5 { evicts := [⟨7, 15, 3, false⟩] }, by decide +kernel, by decide +kernel⟩

theorem witness_PurgesWalkTheSets :
    (∃ (d : Fin 64), ∃ (m : Msg), ∃ (rest : List Msg), ∃ (s : State),
      takeFirst (fun (m : Msg) => m.body == .fence) (s.slice d.val).noticeIn = some (m, rest)) ∧
    (∃ (d : Fin 64), ∃ (pipe : Fin 2), ∃ (dt : Nat), ∃ (s : State), s.slotFree d.val pipe.val dt ∧
      ((s.slice d.val).walk pipe.val).crews.any (fun c => decide (1 < c.2)) = true) :=
  ⟨⟨5, { body := .fence, crew := 3 }, [], wS 5 { noticeIn := [{ body := .fence, crew := 3 }] }, by decide +kernel⟩,
   ⟨5, 1, 1, wS 5 { walks := [(1, { pos := 1023, crews := [(3, 2)] })] }, slot0 (by decide +kernel), by decide +kernel⟩⟩

theorem witness_ScansCountTheSets :
    (∃ (d : Fin 64), ∃ (pipe : Fin 2), ∃ (dt : Nat), ∃ (c : Scan), ∃ (rest : List Scan), ∃ (s : State), ∃ (u : State),
      s.eng.scans = c :: rest ∧ c.flush = false ∧ 0 < c.leftIn d.val pipe.val ∧ s.crewFenced c.crew = false ∧
      s.slotFree d.val pipe.val dt ∧ u = s.takesSlot d.val pipe.val dt) ∧
    (∃ (c : Scan), ∃ (rest : List Scan), ∃ (s : State), s.eng.scans = c :: rest ∧ s.crewFenced c.crew = true) ∧
    (∃ (c : Scan), ∃ (rest : List Scan), ∃ (s : State), s.eng.scans = c :: rest ∧ s.crewFenced c.crew = false ∧ (∀ d, d < 64 →
      c.leftIn d 0 = 0 ∧ c.leftIn d 1 = 0) ∧ c.flush = false) :=
  ⟨⟨5, 1, 1, { seat := none, rd := 0, flush := false, crew := 3, skein := none }, [],
    { w0 with eng := { w0.eng with scans := [{ seat := none, rd := 0, flush := false, crew := 3, skein := none }] } }, _,
    by decide +kernel, by decide +kernel, by decide +kernel, by decide +kernel, slot0 (by decide +kernel), rfl⟩,
   ⟨{ seat := none, rd := 0, flush := false, crew := 3, skein := none }, [],
     { w0 with regs := (w0.setFld CRW_STS.STATE 3 3).regs, eng := { w0.eng with scans := [{ seat := none, rd := 0, flush := false, crew := 3, skein := none }] } },
     by decide +kernel, by decide +kernel⟩,
   ⟨wScan, [], { w0 with eng := { w0.eng with scans := [wScan] } }, by decide +kernel, by decide +kernel, by decide +kernel,
     by decide +kernel⟩⟩

theorem witness_SeatStartReadiesTheSeat :
    ∃ (who : Requester), ∃ (n : Fin 16), ∃ (pc : Fin 65536), ∃ (s : State), s.Writes who ⟨.ICF_SEAT_CMD, n.val, 0⟩ ∧
      who ≠ .seat n.val ∧ s.safe = false ∧ (s.seatState n.val = seatHalted ∨ (n.val ≠ 0 ∧ (s.seatState n.val = seatIdle ∨
      s.seatState n.val = seatTrapped))) :=
  ⟨.seat 0, 1, 5, wE, writes0 (by decide +kernel), by decide +kernel, by decide +kernel, by decide +kernel⟩

theorem witness_SeatStopIdlesTheSeat :
    ∃ (who : Requester), ∃ (n : Fin 16), ∃ (s : State), s.Writes who ⟨.ICF_SEAT_CMD, n.val, 0⟩ ∧ who ≠ .seat n.val ∧ n.val ≠ 0 ∧
      s.seatState n.val ≠ seatIdle :=
  ⟨.seat 0, 1, wE.setSeatState 1 seatReady, writes0 (by decide +kernel), by decide +kernel, by decide +kernel,
    by decide +kernel⟩

theorem witness_IntrapClears :
    ∃ (s : State), s.Writes (.seat 0) ⟨.ICF_SEAT_STS, 0, 0⟩ :=
  ⟨wE, writes0 (by decide +kernel)⟩

theorem witness_ImageLoadStarts :
    ∃ (who : Requester), ∃ (user : Bool), ∃ (src : Fin 512), ∃ (dst : Fin 128), ∃ (s : State), s.Writes who ⟨.ICF_LOAD_CTL, 0,
      0⟩ ∧ s.safe = false ∧ s.flag ICF_LOAD_STS.BUSY = false :=
  ⟨.seat 0, true, 1, 2, wE, writes0 (by decide +kernel), by decide +kernel, by decide +kernel⟩

theorem witness_ImageLoadEnds :
    (∃ (l : LoadSt), ∃ (s : State), s.eng.load = some l ∧ s.wipeBlocks l.src (256 + s.imageLen l.src) = false ∧
      s.earlyResult l = 0) ∧
    (∃ (l : LoadSt), ∃ (s : State), s.eng.load = some l ∧ s.wipeBlocks l.src (256 + s.imageLen l.src) = false ∧
      s.earlyResult l ≠ 0) :=
  ⟨⟨{ kind := 0, src := 0, dst := 0, lockRefused := false }, wImage, rfl, by decide +kernel, by decide +kernel⟩,
   ⟨{ kind := 1, src := 0, dst := 0, lockRefused := false },
     wLoad wImage { kind := 1, src := 0, dst := 0, lockRefused := false }, rfl, by decide +kernel, by decide +kernel⟩⟩

theorem witness_StopsEnd :
    ∃ (f : Fin 65536), ∃ (np : Bool), ∃ (s : State), (s.fn f.val).run = .stopping ∧ s.drained f.val np = true ∧
      (s.fn f.val).restart = false :=
  ⟨0x2003, false, w0.setFn 0x2003 { run := .stopping }, by decide +kernel, by decide +kernel, by decide +kernel⟩

theorem witness_DmaBegins :
    (∃ (d : Disp), ∃ (s : State), ∃ x, ∃ v, s.Issues (.dma d) d (d.rs2 == 0 && d.rs3 == 0 && decide (d.imm.toNat < 4)) ∧
      (2 ≤ d.imm.toNat ∨ s.priv d.seat.val = true) ∧ (s.src1 d).toNat % 32 = 0 ∧ (s.src1 d).toNat + 32 ≤ memSize ∧
      s.wipeBlocks (s.src1 d).toNat 32 = false ∧ s.refusal (.seat d.seat.val) false .read (s.src1 d).toNat 32 = none ∧
      d.spad = .ok ∧ x = descOf (s.load (s.src1 d).toNat 32) ∧ v = (s.atDispatch d).cost d.seat.val 4 ∧
      s.flag ICF_DMA_STS.BUSY d.imm.toNat = false ∧ s.descOk x.1 x.2 = true ∧ (s.priv d.seat.val = true ∨ (x.1.skind ≠ 2 ∧
      x.1.dkind ≠ 2)) ∧ (s.dma d.imm.toNat).paused = none) ∧
    (∃ (d : Disp), ∃ (s : State), ∃ x, ∃ v, s.Issues (.dma d) d (d.rs2 == 0 && d.rs3 == 0 && decide (d.imm.toNat < 4)) ∧
      (2 ≤ d.imm.toNat ∨ s.priv d.seat.val = true) ∧ (s.src1 d).toNat % 32 = 0 ∧ (s.src1 d).toNat + 32 ≤ memSize ∧
      s.wipeBlocks (s.src1 d).toNat 32 = false ∧ s.refusal (.seat d.seat.val) false .read (s.src1 d).toNat 32 = none ∧
      d.spad = .ok ∧ x = descOf (s.load (s.src1 d).toNat 32) ∧ v = (s.atDispatch d).cost d.seat.val 4 ∧
      s.flag ICF_DMA_STS.BUSY d.imm.toNat = false ∧ s.descOk x.1 x.2 = true ∧ (s.priv d.seat.val = true ∨ (x.1.skind ≠ 2 ∧
      x.1.dkind ≠ 2)) ∧ (s.dma d.imm.toNat).paused = none ∧ x.1.skind ≠ 2 ∧ x.1.dkind ≠ 2) :=
  ⟨⟨dDma, wFill, _, _, by refine ⟨?_, ?_, ?_, ?_, ?_⟩ <;> decide +kernel, by decide +kernel, by decide +kernel,
    by decide +kernel, by decide +kernel, by decide +kernel, by decide +kernel, rfl, rfl, by decide +kernel, by decide +kernel,
    by decide +kernel, by decide +kernel⟩,
   ⟨dDma, wFill, _, _, by refine ⟨?_, ?_, ?_, ?_, ?_⟩ <;> decide +kernel, by decide +kernel, by decide +kernel,
     by decide +kernel, by decide +kernel, by decide +kernel, by decide +kernel, rfl, rfl, by decide +kernel, by decide +kernel,
     by decide +kernel, by decide +kernel, by decide +kernel, by decide +kernel⟩⟩

theorem witness_DmaEnds :
    (∃ (e : Fin 4), ∃ (d : Desc), ∃ (s : State), (s.dma e.val).desc = some d ∧ d.skind = 3 ∧ d.dkind = 0 ∧ 0 < d.len ∧
      d.len ≤ 16 ∧ d.daddr + d.len ≤ memSize ∧ s.wipeBlocks d.daddr d.len = false ∧
      s.refusal (.dma e.val) false .write d.daddr d.len = none) ∧
    (∃ (e : Fin 4), ∃ (d : Desc), ∃ (obs : DmaObs), ∃ (s : State), (s.dma e.val).desc = some d ∧ d.skind = 2 ∧
      (s.dma e.val).reads = [] ∧ d.len ≤ (s.dma e.val).next) :=
  ⟨⟨1, dFill, w0.setDma 1 { desc := some dFill }, rfl, by decide +kernel, by decide +kernel, by decide +kernel,
    by decide +kernel, by decide +kernel, by decide +kernel, by decide +kernel⟩,
   ⟨1, { dFill with skind := 2 }, {}, w0.setDma 1 { desc := some { dFill with skind := 2 }, next := 16 }, rfl,
     by decide +kernel, by decide +kernel, by decide +kernel⟩⟩

theorem witness_DmaReadsEnd :
    (∃ (p : Fin 256), ∃ (e : Fin 4), ∃ (d : Desc), ∃ (o : Nat), ∃ (n : Nat), ∃ (rest : List (Nat × Nat)), ∃ (obs : DmaObs),
      ∃ (s : State), (s.dma e.val).desc = some d ∧ (s.dma e.val).reads = (o, n) :: rest ∧ d.hport = p.val ∧ d.skind = 2 ∧
      s.dmaWaits e.val d = false) ∧
    (∃ (p : Fin 256), ∃ (a : Nat), ∃ (rest : List Nat), ∃ (c : DmaCpl), ∃ (obs : DmaObs), ∃ (s : State),
      (s.hsf p.val).late = a :: rest) ∧
    (∃ (e : Fin 4), ∃ (d : Desc), ∃ (o : Nat), ∃ (n : Nat), ∃ (rest : List (Nat × Nat)), ∃ (s : State),
      (s.dma e.val).desc = some d ∧ (s.dma e.val).reads = (o, n) :: rest) :=
  ⟨⟨3, 1, dHost, 0, 16, [(16, 4)], {}, wHost.setDma 1 { desc := some dHost, reads := [(0, 16), (16, 4)] }, rfl, rfl, rfl, rfl,
    by decide +kernel⟩,
   ⟨3, 8, [16], .error, {}, wHost.setHsf 3 { late := [8, 16] }, rfl⟩,
   ⟨1, dHost, 0, 16, [(16, 4)], wHost.setDma 1 { desc := some dHost, reads := [(0, 16), (16, 4)] }, rfl, rfl⟩⟩

theorem witness_HsfStopsItsEngines :
    (∃ (p : Fin 256), ∃ (moved : List Nat), ∃ (s : State), s.hsfHere p.val = true ∧ s.flr p.val = false) ∧
    (∃ (p : Fin 256), ∃ (moved : List Nat), ∃ (s : State), s.hsfHere p.val = true ∧ s.flr p.val = false ∧ s.bme p.val = true) ∧
    (∃ (p : Fin 256), ∃ (moved : List Nat), ∃ (s : State), s.hsfHere p.val = true ∧ s.flr p.val = false ∧
      s.d3hot p.val = false) :=
  ⟨⟨3, [0, 0, 8], wBusy, by decide +kernel, by decide +kernel⟩,
   ⟨3, [0, 0, 8], wBusy, by decide +kernel, by decide +kernel, by decide +kernel⟩,
   ⟨3, [0, 0, 8], wBusy, by decide +kernel, by decide +kernel, by decide +kernel⟩⟩

theorem witness_FlrEnds :
    (∃ (p : Fin 256), ∃ (k : Nat), ∃ (s : State), s.flr p.val = true) ∧
    (∃ (who : Requester), ∃ (p : Fin 256), ∃ (s : State), s.Writes who ⟨.HSF_CMD, p.val, 0⟩ ∧ s.fld PRT_CTL.ROLE p.val = 1 ∧
      s.flr p.val = true) ∧
    (∃ (p : Fin 256), ∃ (s : State), s.flr p.val = true) :=
  ⟨⟨3, 1, (wHost.setFld HSF_STS.FLR 1 3).setHsf 3 { tx := [.msix 8 1, .msix 16 2] }, by decide +kernel⟩,
   ⟨.seat 0, 3, ((wHost.setSeatState 0 seatReady).setFld HSF_STS.FLR 1 3).setHsf 3 { pba := [2] }, writes0 (by decide +kernel),
     by decide +kernel, by decide +kernel⟩,
   ⟨3, (wHost.setFld HSF_STS.FLR 1 3).setHsf 3 { pba := [2] }, by decide +kernel⟩⟩

theorem witness_HsfVectorsAndResume :
    (∃ (who : Requester), ∃ (p : Fin 256), ∃ (s : State), s.Writes who ⟨.HSF_CMD, p.val, 0⟩ ∧ s.fld PRT_CTL.ROLE p.val = 1 ∧
      s.bme p.val = true ∧ s.d3hot p.val = false) ∧
    (∃ (who : Requester), ∃ (p : Fin 256), ∃ (v : Fin 64), ∃ (s : State), s.Writes who ⟨.HSF_CMD, p.val, 0⟩ ∧
      s.fld PRT_CTL.ROLE p.val = 1) ∧
    (∃ (p : Fin 256), ∃ (v : Fin 64), ∃ (s : State), (s.hsf p.val).pba.contains v.val = true ∧ s.vecClear p.val v.val = true) :=
  ⟨⟨.seat 0, 3, ((wHost.setSeatState 0 seatReady).setCfg 3 4 6).setDma 2 { paused := some 3 }, writes0 (by decide +kernel),
    by decide +kernel, by decide +kernel, by decide +kernel⟩,
   ⟨.seat 0, 3, 5, wVec, writes0 (by decide +kernel), by decide +kernel⟩,
   ⟨3, 5, wVec.setHsf 3 { pba := [5], table := [(23, 0)], tx := [.msix 8 1] }, by decide +kernel, by decide +kernel⟩⟩

theorem witness_HostRequestsArePerformed :
    (∃ (p : Fin 256), ∃ (r : BarReq), ∃ (lost : Bool), ∃ (obs : WriteObs), ∃ (s : State), s.hsfHere p.val = true ∧
      (s.hsf p.val).mgr = true ∧ s.barStopped p.val r = none ∧ r.aligned = true ∧ r.off < 0x4000000 ∧ (r.op.reads = true →
      s.barWriteOpen p.val = false) ∧ s.nocHeld (Requester.bar0 p.val).node (targetOf r.off) = false ∧ (∀ o,
      windowOffset r.off = some o → s.wipeBlocks o r.op.len = false ∧
      s.refusal (.bar0 p.val) true (if r.op.reads then .read else .write) r.off r.op.len = none)) ∧
    (∃ (p : Fin 256), ∃ (off : Nat), ∃ (n : Nat), ∃ (s : State), s.hsfHere p.val = true ∧
      (s.barStopped p.val { off := off, op := .read n } = none) ∧ (BarReq.bar2Ok { off := off, op := .read n } = true)) ∧
    (∃ (p : Fin 256), ∃ (off : Nat), ∃ (bs : List Byte), ∃ (s : State), s.hsfHere p.val = true ∧
      (s.barStopped p.val { off := off, op := .write bs } = none) ∧ (BarReq.bar2Ok { off := off, op := .write bs } = true) ∧
      off < 0x400000) ∧
    (∃ (p : Fin 256), ∃ (w : Fin 1024), ∃ (v : BitVec 32), ∃ (en : Fin 16), ∃ (moved : List Nat), ∃ (s : State),
      s.hsfHere p.val = true ∧ s.flr p.val = false) ∧
    (∃ (p : Fin 256), ∃ (s : State), s.hsfHere p.val = true ∧ (s.hsf p.val).mgr = true) :=
  ⟨⟨3, ⟨0x2000000, .read 8, false, false⟩, false, {}, wBar, by decide +kernel, by decide +kernel, by decide +kernel,
    by decide +kernel, by decide +kernel, by decide +kernel, by decide +kernel, by decide +kernel⟩,
   ⟨3, 0x1008, 8, wBar, by decide +kernel, by decide +kernel, by decide +kernel⟩,
   ⟨3, 0x1020, [1, 2, 3, 4], wBar, by decide +kernel, by decide +kernel, by decide +kernel, by decide +kernel⟩,
   ⟨3, 1, 6, 1, [], wBar, by decide +kernel, by decide +kernel⟩,
   ⟨3, wBar, by decide +kernel, by decide +kernel⟩⟩

theorem witness_SlicesAreMadeAndUnmade :
    (∃ (who : Requester), ∃ (k : Fin 1024), ∃ (s : State), s.Writes who ⟨.SLC_CMD, k.val, 0⟩ ∧ s.fld SLC_STS.STATE k.val = 0 ∧
      s.safe = false ∧ s.createCause k.val = none) ∧
    (∃ (who : Requester), ∃ (k : Fin 1024), ∃ (s : State), s.Writes who ⟨.SLC_CMD, k.val, 0⟩ ∧ s.fld SLC_STS.STATE k.val = 1 ∧
      s.sliceMapped k.val = false) :=
  ⟨⟨.seat 0, 7, (wHost.setSeatState 0 seatReady).setFld SLC_CTL.HPORT 3 7, writes0 (by decide +kernel), by decide +kernel,
    by decide +kernel, by decide +kernel⟩,
   ⟨.seat 0, 7, (wHost.setSeatState 0 seatReady).setFld SLC_STS.STATE 1 7, writes0 (by decide +kernel), by decide +kernel,
     by decide +kernel⟩⟩

theorem witness_MailboxTakesCommands :
    (∃ (k : Fin 1024), ∃ (tag : Fin 65536), ∃ (s : State), s.sliceMade k.val = true ∧ s.fld SLC_MB_STS.STATE k.val ≠ 1) ∧
    (∃ (k : Fin 1024), ∃ (tag : Fin 65536), ∃ (s : State), s.sliceMade k.val = true ∧ s.fld SLC_MB_STS.STATE k.val = 1) ∧
    (∃ (k : Fin 1024), ∃ (off : Fin 256), ∃ (b : Byte), ∃ (s : State), s.sliceMade k.val = true ∧
      s.fld SLC_MB_STS.STATE k.val ≠ 1) ∧
    (∃ (k : Fin 1024), ∃ (off : Fin 256), ∃ (bs : List Byte), ∃ (s : State), s.sliceMade k.val = true ∧
      s.fld SLC_MB_STS.STATE k.val = 1) ∧
    (∃ (who : Requester), ∃ (k : Fin 1024), ∃ (s : State), s.Writes who ⟨.SLC_MB_DONE, k.val, 0⟩ ∧
      s.fld SLC_MB_STS.STATE k.val = 1 ∧ s.flr (s.fld SLC_CTL.HPORT k.val) = false) :=
  ⟨⟨7, 0x55, wSl 2, by decide +kernel, by decide +kernel⟩,
   ⟨7, 0x55, (wSl 2).setFld SLC_MB_STS.STATE 1 7, by decide +kernel, by decide +kernel⟩,
   ⟨7, 9, 0xAB, wSl 2, by decide +kernel, by decide +kernel⟩,
   ⟨7, 9, [0xAB, 1], (wSl 2).setFld SLC_MB_STS.STATE 1 7, by decide +kernel, by decide +kernel⟩,
   ⟨.seat 0, 7, (wSl 2).setFld SLC_MB_STS.STATE 1 7, writes0 (by decide +kernel), by decide +kernel, by decide +kernel⟩⟩

theorem witness_MailboxAnswers :
    (∃ x, ∃ (p : Fin 256), ∃ (s : State), (x ∈ ([(Instr.identifyMemoryDevice, MbxCode.success, fun _ _ => [0]),
      (.getSupportedLogs, .success, fun _ _ => [1]), (.getLog, .success, fun _ _ => mailboxOpcodes), (.getEventInterruptPolicy,
      .success, fun s p => [(s.port p).policy]), (.getDcConfiguration, .success, fun s p => [1, 0, s.fld PRT_DCR.SIZE_G p, 1,
      1]), (.getDcExtentList, .success, fun s p => s.acceptedExtents p), (.unsupportedMailboxCommand, .unsupported,
      fun _ _ => [])] : List ((Fin 256 → Instr) × MbxCode × (State → Nat → List Nat)))) ∧ s.fld PRT_CTL.ROLE p.val = 1 ∧
      s.flag PRT_STS.LUP p.val = true) ∧
    (∃ (p : Fin 256), ∃ (log : Fin 5), ∃ (n : Fin 65), ∃ (v : Nat), ∃ (s : State), s.fld PRT_CTL.ROLE p.val = 1 ∧
      s.flag PRT_STS.LUP p.val = true) ∧
    (∃ (p : Fin 256), ∃ (log : Fin 5), ∃ (n : Fin 65), ∃ (v : Nat), ∃ (s : State), s.fld PRT_CTL.ROLE p.val = 1 ∧
      s.flag PRT_STS.LUP p.val = true ∧ log.val ≠ 4) :=
  ⟨⟨_, 3, wHost, .head _, by decide +kernel, by decide +kernel⟩,
   ⟨3, 4, 1, 7, wHost.modPort 3 (fun q => { q with dcLog := [⟨0, false, 7, 0, 0⟩] }), by decide +kernel, by decide +kernel⟩,
   ⟨3, 1, 1, 7, wHost, by decide +kernel, by decide +kernel, by decide +kernel⟩⟩

theorem witness_FabricManagerQueriesAnswer :
    (∃ x, ∃ (tag : Fin 256), ∃ (p : Fin 256), ∃ (s : State), (x ∈ ([(fun t _ => Instr.identifySwitchDevice t, FmCode.success,
      fun s _ => [s.startedOf 1, s.startedOf 2, s.startedOf 3, s.startedOf 4, 10 * s.startedOf 1]), (.getPhysicalPortState,
      .success, fun s p => [(s.shown ⟨.PRT_CTL, p, 0⟩).toNat, (s.shown ⟨.PRT_STS, p, 0⟩).toNat]), (.getVirtualCxlSwitchInfo,
      .success, fun s p => (List.range 8).map (fun v => s.boundPort p (v + 2))), (fun t _ => .getDcdInfo t, .success,
      fun s _ => [s.startedOf 1, s.skeins.length,
      (s.skeins.map (fun n => skeinGranules (s.fld SKN_W0.SIZE n))).foldl (· + ·) 0]), (.getHostDcRegionConfiguration, .success,
      fun s p => [1, 0, s.fld PRT_DCR.SIZE_G p, 1, 1]), (.getDcRegionExtentLists, .success, fun s p => s.acceptedExtents p),
      (fun t _ => .unsupportedFmCommand t, .unsupported, fun _ _ => [])] : List ((Fin 256 → Fin 256 → Instr) × FmCode × (State →
      Nat → List Nat)))) ∧ s.eng.evq.length + 8 < 1024) ∧
    (∃ (tag : Fin 256), ∃ (p : Fin 256), ∃ (h : Fin 256), ∃ (v : Fin 16), ∃ (s : State), s.started p.val = false ∧ 2 ≤ v.val ∧
      v.val ≤ 9) ∧
    (∃ (tag : Fin 256), ∃ (p : Fin 256), ∃ (s : State), s.started p.val = false) ∧
    (∃ (tag : Fin 256), ∃ (p : Fin 256), ∃ (a : Fin 4096), ∃ (v : Option Word), ∃ (r : BitVec 32), ∃ (s : State),
      (s.role p.val = 2 ∨ s.role p.val = 3) ∧ s.fld PRT_STS.STATE p.val = 1 ∧ s.flag PRT_STS.LUP p.val = true) :=
  ⟨⟨_, 9, 3, wHost, .head _, by decide +kernel⟩,
   ⟨9, 4, 3, 2, w0, by decide +kernel, by decide +kernel, by decide +kernel⟩,
   ⟨9, 4, w0, by decide +kernel⟩,
   ⟨9, 4, 64, some 5, 0, ((w0.setFld PRT_CTL.ROLE 2 4).setFld PRT_STS.STATE 1 4).setFld PRT_STS.LUP 1 4, by decide +kernel,
     by decide +kernel, by decide +kernel⟩⟩

theorem witness_FabricManagerSequences :
    (∃ (tag : Fin 256), ∃ (p : Fin 256), ∃ (s : State), (s.fn (fidPort p.val)).run = .running ∧
      (¬ (s.fld PRT_CTL.ROLE p.val = 4 ∧ s.lfl (halfOf p.val) ≠ lflActive))) ∧
    (∃ (tag : Fin 256), ∃ (p : Fin 256), ∃ (s : State), (s.fn (fidPort p.val)).run = .stopped) ∧
    (∃ (tag : Fin 256), ∃ (p : Fin 256), ∃ (s : State), (s.fn (fidPort p.val)).run = .stopping) ∧
    (∃ (tag : Fin 256), ∃ (p : Fin 256), ∃ (n : Fin 65536), ∃ (w0 : Word), ∃ (w1 : Word), ∃ (i : Fin 256), ∃ (b : BitVec 18),
      ∃ (u : State), ∃ (s : State), u = writeSkeinW1 (writeSkeinW0 (s.fm tag.val .background []) n.val w0) n.val w1 ∧
      u.fld SKN_W0.STATE n.val ≠ skAllocated) ∧
    (∃ (tag : Fin 256), ∃ (p : Fin 256), ∃ (n : Fin 65536), ∃ (w0 : Word), ∃ (w1 : Word), ∃ (i : Fin 256), ∃ (b : BitVec 18),
      ∃ (u : State), ∃ (s : State), u = writeSkeinW1 (writeSkeinW0 (s.fm tag.val .background []) n.val w0) n.val w1 ∧
      u.fld SKN_W0.STATE n.val = skAllocated) ∧
    (∃ (tag : Fin 256), ∃ (p : Fin 256), ∃ (n : Fin 65536), ∃ (u : State), ∃ (s : State),
      u = (if s.fld SKN_W0.STATE n.val = skHeld then s.fm tag.val .background [] else writeSkeinW0 (s.fm tag.val .background []) n.val (putBits (s.rd ⟨.SKN_W0,
      n.val, 0⟩) 63 60 skReleasing)) ∧ u.accepted n.val p.val = false) ∧
    (∃ (tag : Fin 256), ∃ (p : Fin 256), ∃ (n : Fin 65536), ∃ (u : State), ∃ (s : State),
      u = (if s.fld SKN_W0.STATE n.val = skHeld then s.fm tag.val .background [] else writeSkeinW0 (s.fm tag.val .background []) n.val (putBits (s.rd ⟨.SKN_W0,
      n.val, 0⟩) 63 60 skReleasing)) ∧ u.accepted n.val p.val = true ∧ (u.slotsOf n.val p.val).isEmpty = false ∧
      (u.port p.val).dcLog.length < 64) :=
  ⟨⟨9, 3, wHost, by decide +kernel, by decide +kernel⟩,
   ⟨9, 3, w0.setFn (fidPort 3) { run := .stopped }, by decide +kernel⟩,
   ⟨9, 3, w0.setFn (fidPort 3) { run := .stopping }, by decide +kernel⟩,
   ⟨9, 3, 7, 0, 0, 1, 0, _, wHost, rfl, by decide +kernel⟩,
   ⟨9, 3, 7, 0, 0, 1, 0, _, wHost.setFld SKN_W0.STATE skAllocated 7, rfl, by decide +kernel⟩,
   ⟨9, 3, 7, _, wHost, rfl, by decide +kernel⟩,
   ⟨9, 3, 7, _, wAccepted, rfl, by decide +kernel, by decide +kernel, by decide +kernel⟩⟩

theorem witness_DirectoryReadsAndCounts :
    (∃ (who : Requester), ∃ (d : Fin 64), ∃ (set : Fin 2048), ∃ (way : Fin 16), ∃ (s : State), s.Writes who ⟨.DIR_EIDX, d.val,
      0⟩ ∧ s.flag DIR_EIDX.BUSY d.val = false) ∧
    (∃ (d : Fin 64), ∃ (dt : Nat), ∃ (set : Nat), ∃ (way : Nat), ∃ (s : State), ∃ n, (s.slice d.val).eidx = some (set, way) ∧
      s.slotFree d.val (pipeOf set) dt ∧ n = (s.dirEntry d.val set way).bits (((s.slice d.val).ranks set).getD way 0)) ∧
    (∃ (who : Requester), ∃ (d : Fin 64), ∃ (on : Bool), ∃ (s : State), s.Writes who ⟨.DIR_TD_CTL, d.val, 0⟩) :=
  ⟨⟨.seat 0, 5, 7, 3, w0, writes0 (by decide +kernel), by decide +kernel⟩,
   ⟨5, 1, 7, 3, wS 5 { eidx := some (7, 3) }, _, by decide +kernel, slot0 (by decide +kernel), rfl⟩,
   ⟨.seat 0, 5, true, wS 5 { td := [5, 4, 3, 2, 1] }, writes0 (by decide +kernel)⟩⟩

theorem witness_InputsBuildStripes :
    (∃ (e : Fin 322), ∃ (m : Msg), ∃ (rest : List Msg), ∃ (dst : Nat), ∃ (s : State), (s.coreIn e.val).ready = m :: rest ∧
      m.dsts = [dst] ∧ s.isOutput dst = true ∧ m.chunks < 64 ∧
      (s.coreIn e.val).openStripes.any (fun t => t.ofFlow m.cls dst) = false ∧ (s.coreIn e.val).openStripes.length < 16 ∧
      bitOf (wordOf (s.fld CORE_CTL.EAGER)) m.cls = false) ∧
    (∃ (e : Fin 322), ∃ (k : Nat), ∃ (x : Stripe), ∃ (rest : List Stripe), ∃ (s : State),
      (s.coreIn e.val).openStripes[k]? = some x ∧
      takeFirst (fun y => y.ofFlow x.cls ((x.targets.map (·.1)).headD 0)) (s.coreIn e.val).openStripes = some (x, rest)) ∧
    (∃ (e : Fin 322), ∃ (x : Stripe), ∃ (rest : List Stripe), ∃ (s : State),
      firstStartable s [] (s.coreIn e.val).closed = some (x, rest) ∧ (s.coreIn e.val).affords x = true) :=
  ⟨⟨7, { wMsg with cls := 6 }, [], 256, w0.setCoreIn 7 { ready := [{ wMsg with cls := 6 }] }, by decide +kernel,
    by decide +kernel, by decide +kernel, by decide +kernel, by decide +kernel, by decide +kernel, by decide +kernel⟩,
   ⟨7, 0, wStripe, [], w0.setCoreIn 7 { openStripes := [wStripe] }, by decide +kernel, by decide +kernel⟩,
   ⟨7, wStripe, [], w0.setCoreIn 7 { closed := [wStripe] }, by decide +kernel, by decide +kernel⟩⟩

theorem witness_PlanesAndOutputsDeliver :
    (∃ (p : Fin 16), ∃ (e : Fin 322), ∃ (x : Item), ∃ (rest : List Item), ∃ (o : Nat), ∃ (ssn : Nat), ∃ (s : State), ∃ a,
      tabGet (fun _ => []) (s.coreIn e.val).items p.val = x :: rest ∧ x.mc = false ∧ (∀ k, x.kind ≠ .list k) ∧ x.targets = [(o,
      ssn)] ∧ late ssn ((s.coreOut o).next x.src x.cls) = false ∧
      a = if x.kind = .data then some (s.plane p.val).nextAddr else none) ∧
    (∃ (e : Fin 320), ∃ (room : BitVec 8), ∃ (c : Nat), ∃ (i : Nat), ∃ (s : State),
      ((s.coreOut e.val).window.filter (fun w => !w.lost)).length < 4 * s.slots e.val ∧ s.selectable e.val room = some (c, i)) ∧
    (∃ (e : Fin 320), ∃ (p : Fin 16), ∃ (w : Window), ∃ (n : Notice), ∃ (x : Stripe), ∃ (a : Part), ∃ (s : State), 256 ≤ e.val ∧
      (s.coreOut e.val).window = [w] ∧ w.lost = false ∧ w.unread = [n] ∧ n.plane = p.val ∧ w.poisoned = [] ∧
      s.stripeOf w.src w.cls e.val w.ssn = some x ∧ x.parts = [a] ∧ a.head = true ∧ a.tail = true ∧ (∀ k,
      a.msg.body ≠ .reserved k)) ∧
    (∃ (e : Fin 320), ∃ (src : Fin 322), ∃ (c : Fin 8), ∃ (s : State), (s.coreOut e.val).waiting src.val c.val = true ∧
      (∀ w ∈ (s.coreOut e.val).window, w.lost = false ∧ w.unread ≠ [])) :=
  ⟨⟨0, 7, wItem, [], 256, 0, w0.setCoreIn 7 { items := [(0, [wItem])] }, _, by decide +kernel, by decide +kernel,
    (fun k h => by cases h), by decide +kernel, by decide +kernel, rfl⟩,
   ⟨256, 0xFF, 2, 7, w0.setCoreOut 256 { notices := wNotices 16 }, by decide +kernel, by decide +kernel⟩,
   ⟨256, 0, { src := 7, cls := 2, ssn := 0, unread := [wNote] }, wNote, wStripe, wPart,
     { (w0.setCoreOut 256 { window := [{ src := 7, cls := 2, ssn := 0, unread := [wNote] }] }) with core := { (w0.setCoreOut 256 { window := [{ src := 7, cls := 2, ssn := 0, unread := [wNote] }] }).core with stripes := [wStripe] } },
     by decide +kernel, by decide +kernel, by decide +kernel, by decide +kernel, by decide +kernel, by decide +kernel,
     by decide +kernel, by decide +kernel, by decide +kernel, by decide +kernel, (fun k h => by cases h)⟩,
   ⟨256, 7, 2, w0.setCoreOut 256 { notices := wNotices 3 }, by decide +kernel, by decide +kernel⟩⟩

theorem witness_EgressReleasesAndSamples :
    (∃ (p : Fin 256), ∃ (dt : Nat), ∃ (blocked : List (Fin 64)), ∃ (u : State), ∃ (v : State), ∃ (c : Choice), ∃ (x : QMsg),
      ∃ (xs : List QMsg), ∃ (s : State), ∃ g,
      u = s.each (List.range 64) (fun s n => s.setQueue (64 * p.val + n) ((s.queue (64 * p.val + n)).refill dt)) ∧
      s.egressRuns p.val = true ∧ u.choose p.val blocked = (some c, v) ∧ (v.queue (64 * p.val + c.queue)).msgs = x :: xs ∧
      x.msg.body = .memRead g ∧ c.queue < 63) ∧
    (∃ (p : Fin 256), ∃ (dt : Nat), ∃ (blocked : List (Fin 64)), ∃ (u : State), ∃ (v : State), ∃ (c : Choice), ∃ (x : QMsg),
      ∃ (xs : List QMsg), ∃ (s : State), ∃ k,
      u = s.each (List.range 64) (fun s n => s.setQueue (64 * p.val + n) ((s.queue (64 * p.val + n)).refill dt)) ∧
      s.egressRuns p.val = true ∧ u.choose p.val blocked = (some c, v) ∧ (v.queue (64 * p.val + c.queue)).msgs = x :: xs ∧
      x.msg.body = .scrub k ∧ c.queue = 63) ∧
    (∃ (p : Fin 256), ∃ (q : Fin 64), ∃ (x : QMsg), ∃ (xs : List QMsg), ∃ (s : State),
      (s.queue (64 * p.val + q.val)).msgs = x :: xs ∧ x.red = true ∧ x.aged = false) ∧
    (∃ (q : Fin 16384), ∃ (delay : Nat), ∃ (s : State), ∃ depth, ∃ b, ∃ l, s.flag TM_CTL.SMP_EN = true ∧
      depth = (((s.queue q.val).msgs.map (fun x => x.counted + (s.queue q.val).ovh)).foldl (· + ·) 0) ∧
      b = histBin depth (s.shifts (q.val / 2048)).1 ∧
      l = if (s.queue q.val).msgs.isEmpty then 0 else histBin delay (s.shifts (q.val / 2048)).2) ∧
    (∃ (who : Requester), ∃ (v : BitVec 32), ∃ (s : State), s.Writes who ⟨.TM_CTL, 0, 0⟩) :=
  ⟨⟨3, 0, [], wRelU, wRelU, ⟨62, 1⟩, { msg := wMsg, counted := 16, red := false }, [], wRel, .s, rfl, by decide +kernel,
    by decide +kernel, by decide +kernel, by decide +kernel, by decide +kernel⟩,
   ⟨3, 0, [], wScrU, wScrU, ⟨63, 2⟩, { msg := wScrub, counted := 16, red := false }, [], wScr, 5, rfl, by decide +kernel,
     by decide +kernel, by decide +kernel, by decide +kernel, by decide +kernel⟩,
   ⟨3, 5, { msg := wMsg, counted := 16, red := true }, [],
     w0.setQueue (64 * 3 + 5) { msgs := [{ msg := wMsg, counted := 16, red := true }] }, by decide +kernel, by decide +kernel,
     by decide +kernel⟩,
   ⟨7, 100, (w0.setFld TM_CTL.SMP_EN 1).setQueue 7 { msgs := [{ msg := wMsg, counted := 16, red := true }] }, _, _, _,
     by decide +kernel, rfl, rfl, rfl⟩,
   ⟨.seat 0, 0, w0.setFld TM_QHD.CNT 5 3 2, writes0 (by decide +kernel)⟩⟩

theorem witness_MemoryDevicesAnswer :
    (∃ (p : Fin 256), ∃ (i : Nat), ∃ (r : DevReq), ∃ (poison : Bool), ∃ (s : State), ∃ (d : Msg), ∃ (n : Msg),
      s.flag PRT_STS.LUP p.val = true ∧ (s.port p.val).dev[i]? = some r ∧ r.msg.body.isScrub = false ∧
      (d = { body := if r.write then .cmp .i else .data r.msg.body.grant, src := p.val, dsts := [r.msg.port], cls := 3, len := if r.write then 16 else 80, epoch := r.msg.epoch, feid := r.msg.feid, port := r.msg.port, tag := r.msg.tag, slice := r.msg.slice, crew := r.msg.crew, mport := p.val, addr := r.msg.addr, poison := !r.write && poison }) ∧
      (n = { body := .notice r.write, src := p.val, dsts := [256 + r.msg.slice], cls := 3, feid := r.msg.feid, port := r.msg.port, tag := r.msg.tag, slice := r.msg.slice, crew := r.msg.crew, mport := p.val, addr := r.msg.addr })) ∧
    (∃ (p : Fin 256), ∃ (i : Nat), ∃ (r : DevReq), ∃ (c : ScrubSt), ∃ (s : State), s.flag PRT_STS.LUP p.val = true ∧
      (s.port p.val).dev[i]? = some r ∧ r.write = true ∧ r.msg.body.isScrub = true ∧ (s.port p.val).scrub = some c ∧
      c.mark = r.msg.tag) ∧
    (∃ (p : Fin 256), ∃ (i : Nat), ∃ (r : DevReq), ∃ (s : State), (s.port p.val).dev[i]? = some r) :=
  ⟨⟨3, 0, ⟨false, false, false, wMsg⟩, false, wMem.modPort 3 (fun q => { q with dev := [⟨false, false, false, wMsg⟩] }), _, _,
    by decide +kernel, by decide +kernel, by decide +kernel, rfl, rfl⟩,
   ⟨3, 0, ⟨true, false, false, wScrub⟩, { skein := 7 },
     wMem.modPort 3 (fun q => { q with scrub := some { skein := 7 }, dev := [⟨true, false, false, wScrub⟩] }),
     by decide +kernel, by decide +kernel, by decide +kernel, by decide +kernel, by decide +kernel, by decide +kernel⟩,
   ⟨3, 0, ⟨false, false, false, wMsg⟩, wMem.modPort 3 (fun q => { q with dev := [⟨false, false, false, wMsg⟩] }),
     by decide +kernel⟩⟩

theorem witness_FabricPacketsMove :
    (∃ (p : Fin 256), ∃ (vc : Nat), ∃ (r : Nat), ∃ (m : Msg), ∃ (h : FabHdr), ∃ (u : State), ∃ (s : State),
      s.takeRx p.val (fun _ h => h.dswid != s.swid) = some (vc, m, h, u) ∧ u.routePort h.dswid = some r ∧ 1 < h.hops ∧
      u.linkActive r = true) ∧
    (∃ (p : Fin 256), ∃ (vc : Nat), ∃ (m : Msg), ∃ (h : FabHdr), ∃ (tie : Bool), ∃ (u : State), ∃ (s : State), ∃ op,
      s.takeRx p.val (fun _ h => h.dswid == s.swid && h.kind == 0) = some (vc, m, h, u) ∧ m.body = .remoteReq op) ∧
    (∃ (p : Fin 256), ∃ (vc : Nat), ∃ (m : Msg), ∃ (h : FabHdr), ∃ (tie : Bool), ∃ (u : State), ∃ (s : State), ∃ k, ∃ a,
      s.takeRx p.val (fun _ h => h.dswid == s.swid && h.kind == 0) = some (vc, m, h, u) ∧ m.body = .answer k a) ∧
    (∃ (p : Fin 256), ∃ (vc : Nat), ∃ (m : Msg), ∃ (h : FabHdr), ∃ (u : State), ∃ (s : State),
      s.takeRx p.val (fun _ h => h.dswid == s.swid && (h.kind == 1 || h.kind == 3)) = some (vc, m, h, u) ∧ h.kind = 3) ∧
    (∃ (p : Fin 256), ∃ (vc : Nat), ∃ (m : Msg), ∃ (h : FabHdr), ∃ (u : State), ∃ (s : State),
      s.takeRx p.val (fun _ h => h.dswid == s.swid && (h.kind == 1 || h.kind == 3)) = some (vc, m, h, u) ∧ h.kind = 1 ∧
      u.flag CORE_FEID_MAP.VLD h.dfeid = true) :=
  ⟨⟨4, 1, 8, wPkt (.cmp .s) wHdr, wHdr, wRxU (wPkt (.cmp .s) wHdr), wRx (wPkt (.cmp .s) wHdr), by decide +kernel,
    by decide +kernel, by decide +kernel, by decide +kernel⟩,
   ⟨4, 1, wPkt (.remoteReq .memRdData) { wHdr with dswid := 5 }, { wHdr with dswid := 5 }, false,
     wRxU (wPkt (.remoteReq .memRdData) { wHdr with dswid := 5 }), wRx (wPkt (.remoteReq .memRdData) { wHdr with dswid := 5 }),
     .memRdData, by decide +kernel, by decide +kernel⟩,
   ⟨4, 1, wPkt (.answer .inv .i) { wHdr with dswid := 5 }, { wHdr with dswid := 5 }, false,
     wRxU (wPkt (.answer .inv .i) { wHdr with dswid := 5 }), wRx (wPkt (.answer .inv .i) { wHdr with dswid := 5 }), Snp.inv,
     Ans.i, by decide +kernel, by decide +kernel⟩,
   ⟨4, 1, wPkt .mgmt { wHdr with dswid := 5, kind := 3 }, { wHdr with dswid := 5, kind := 3 },
     wRxU (wPkt .mgmt { wHdr with dswid := 5, kind := 3 }), wRx (wPkt .mgmt { wHdr with dswid := 5, kind := 3 }),
     by decide +kernel, by decide +kernel⟩,
   ⟨4, 1, wPkt (.data .s) { wHdr with dswid := 5, kind := 1 }, { wHdr with dswid := 5, kind := 1 },
     (wRxU (wPkt (.data .s) { wHdr with dswid := 5, kind := 1 })).setFld CORE_FEID_MAP.VLD 1 2,
     ((wFab.setFld CORE_FEID_MAP.VLD 1 2).modHalf 2 (fun q => { q with rx := [(1, wPkt (.data .s) { wHdr with dswid := 5, kind := 1 })] })),
     by decide +kernel, by decide +kernel, by decide +kernel⟩⟩

theorem witness_FabricFencesAndLosses :
    (∃ (c : Nat), ∃ (f : Nat), ∃ (rest : List (Nat × Nat)), ∃ (s : State), s.flt.requests = (c, f) :: rest ∧ c < 256 ∧
      (s.crewState c = 1 ∨ s.crewState c = 2)) ∧
    (∃ (p : Fin 256), ∃ (d : Nat), ∃ (w : Nat), ∃ (n : Nat), ∃ (c : Nat), ∃ (f : Nat), ∃ (r : List BypMsg), ∃ (s : State), ∃ x,
      s.sendFull (octetOf p.val) = false ∧ x ∈ [(BypMsg.fence d w n c, BypMsg.fence d w (n - 1) c), (.fenceReq d w n c f,
      .fenceReq d w (n - 1) c f)] ∧ (s.half (halfOf p.val)).bypRx = x.1 :: r ∧ d = s.swid) ∧
    (∃ (p : Fin 256), ∃ (d : Nat), ∃ (w : Nat), ∃ (n : Nat), ∃ (c : Nat), ∃ (f : Nat), ∃ (r : List BypMsg), ∃ (s : State), ∃ x,
      ∃ q, s.sendFull (octetOf p.val) = false ∧ x ∈ [(BypMsg.fence d w n c, BypMsg.fence d w (n - 1) c), (.fenceReq d w n c f,
      .fenceReq d w (n - 1) c f)] ∧ (s.half (halfOf p.val)).bypRx = x.1 :: r ∧ d ≠ s.swid ∧ 1 < n ∧ s.routePort d = some q ∧
      s.linkActive q = true) ∧
    (∃ (p : Fin 256), ∃ (d : Nat), ∃ (w : Nat), ∃ (n : Nat), ∃ (c : Nat), ∃ (rest : List BypMsg), ∃ (s : State),
      (s.port p.val).alerts = .fence d w n c :: rest) ∧
    (∃ (p : Fin 256), ∃ (o : Nat), ∃ (q : Nat), ∃ (k : Nat), ∃ (n : Nat), ∃ (r : List BypMsg), ∃ (u : State), ∃ (s : State),
      (s.half (halfOf p.val)).bypRx = .linkLoss o q k n :: r ∧
      (u = s.modHalf (halfOf p.val) (fun x => Half.giveBack { x with bypRx := r } 5 1)) ∧ s.lossIsNew o k n = false) ∧
    (∃ (p : Fin 256), ∃ (o : Nat), ∃ (q : Nat), ∃ (k : Nat), ∃ (n : Nat), ∃ (r : List BypMsg), ∃ (u : State), ∃ (s : State),
      (s.half (halfOf p.val)).bypRx = .linkLoss o q k n :: r ∧
      (u = s.modHalf (halfOf p.val) (fun x => Half.giveBack { x with bypRx := r } 5 1)) ∧ s.lossIsNew o k n = true) :=
  ⟨⟨3, 1, [], { (w0.setFld CRW_STS.STATE 1 3) with flt := { w0.flt with requests := [(3, 1)] } }, by decide +kernel,
    by decide +kernel, by decide +kernel⟩,
   ⟨4, 5, 9, 3, 3, 0, [], wByp [.fence 5 9 3 3], _, by decide +kernel, .head _, by decide +kernel, by decide +kernel⟩,
   ⟨4, 7, 9, 3, 3, 0, [], wByp [.fence 7 9 3 3], _, 8, by decide +kernel, .head _, by decide +kernel, by decide +kernel,
     by decide +kernel, by decide +kernel, by decide +kernel⟩,
   ⟨4, 5, 9, 3, 3, [], wFab.modPort 4 (fun q => { q with alerts := [.fence 5 9 3 3] }), by decide +kernel⟩,
   ⟨4, 9, 1, 2, 3, [], _, { wByp [.linkLoss 9 1 2 3] with fab := { wFab.fab with records := [(9, some (3, 2))] } },
     by decide +kernel, rfl, by decide +kernel⟩,
   ⟨4, 9, 1, 2, 3, [], _, wByp [.linkLoss 9 1 2 3], by decide +kernel, rfl, by decide +kernel⟩⟩

theorem witness_FlitsAreCountedAndTaken :
    (∃ (p : Fin 256), ∃ (ls : List (List (Fin 4))), ∃ (ms : List Msg), ∃ (y : List Nat), ∃ (s : State),
      8 ≤ s.lfl (halfOf p.val) ∧ s.lfl (halfOf p.val) ≤ 10 ∧ y = s.codeword (halfOf p.val) (ls.map (fun l => l.map (·.val))) ∧
      rsDecode y = none ∧ (s.half (halfOf p.val)).uncRun < 15) ∧
    (∃ (p : Fin 256), ∃ (ls : List (List (Fin 4))), ∃ (ms : List Msg), ∃ (y : List Nat), ∃ (s : State), ∃ (z : List Nat),
      ∃ (v : Nat), 8 ≤ s.lfl (halfOf p.val) ∧ s.lfl (halfOf p.val) ≤ 10 ∧
      y = s.codeword (halfOf p.val) (ls.map (fun l => l.map (·.val))) ∧ rsDecode y = some (0, z) ∧
      v = ofSymbols (descramble (s.half (halfOf p.val)).rxScr (z.take 240)).1 ∧ crcOk v = false) ∧
    (∃ (p : Fin 256), ∃ (ls : List (List (Fin 4))), ∃ (ms : List Msg), ∃ (y : List Nat), ∃ (s : State), ∃ (z : List Nat),
      ∃ (v : Nat), 8 ≤ s.lfl (halfOf p.val) ∧ s.lfl (halfOf p.val) ≤ 10 ∧
      y = s.codeword (halfOf p.val) (ls.map (fun l => l.map (·.val))) ∧ rsDecode y = some (0, z) ∧
      v = ofSymbols (descramble (s.half (halfOf p.val)).rxScr (z.take 240)).1 ∧ crcOk v = true ∧ (readFlit v).ftype < 3) ∧
    (∃ (p : Fin 256), ∃ (s : State), 3 ≤ s.lfl (halfOf p.val) ∧ s.lfl (halfOf p.val) ≤ 7) ∧
    (∃ (p : Fin 256), ∃ (s : State), s.lfl (halfOf p.val) = 8) ∧
    (∃ (p : Fin 256), ∃ (s : State), s.lfl (halfOf p.val) = 9) ∧
    (∃ (p : Fin 256), ∃ (s : State), s.lfl (halfOf p.val) = 10 ∧ (s.half (halfOf p.val)).replayAt = none ∧
      (s.half (halfOf p.val)).resend = none ∧ (s.half (halfOf p.val)).heat = none) :=
  ⟨⟨4, wLevels wNoise, [], _, wFab, by decide +kernel, by decide +kernel, rfl,
    undecodable (t := wNoise) (by decide +kernel) (by decide +kernel) (by decide +kernel), by decide +kernel⟩,
   ⟨4, [], [], _, wFab, _, _, by decide +kernel, by decide +kernel, rfl,
     decodes (t := []) (by decide +kernel) (by decide +kernel), rfl, by decide +kernel⟩,
   ⟨4, wLevels wNull, [], _, wFab, _, _, by decide +kernel, by decide +kernel, rfl,
     decodes (t := wNull) (by decide +kernel) (by decide +kernel), rfl, by decide +kernel, by decide +kernel⟩,
   ⟨4, wLfl 3, by decide +kernel, by decide +kernel⟩,
   ⟨4, wLfl 8, by decide +kernel⟩,
   ⟨4, wLfl 9, by decide +kernel⟩,
   ⟨4, wFab, by decide +kernel, by decide +kernel, by decide +kernel, by decide +kernel⟩⟩

theorem witness_LinksReplayAndGoDown :
    (∃ (p : Fin 256), ∃ (n : Nat), ∃ (s : State), s.lfl (halfOf p.val) = lflActive ∧ (s.half (halfOf p.val)).replayAt = some n ∧
      (s.half (halfOf p.val)).replays < s.fld LFL_CTL.RPL_MAX (halfOf p.val)) ∧
    (∃ (p : Fin 256), ∃ (s : State), s.lfl (halfOf p.val) = lflActive ∧ (s.half (halfOf p.val)).kept ≠ []) ∧
    (∃ (p : Fin 256), ∃ (vc : Fin 6), ∃ (s : State), s.lfl (halfOf p.val) = lflActive ∧
      (s.half (halfOf p.val)).outstanding vc.val ≠ 0) ∧
    (∃ (p : Fin 256), ∃ (causes : List (Fin 10)), ∃ (c : Fin 10), ∃ (s : State), s.lfl (halfOf p.val) = lflActive ∧ c ∈ causes ∧
      c.val ≠ 0 ∧ (∀ x ∈ causes, x.val ≠ 0 → c.val ≤ x.val)) :=
  ⟨⟨4, 0, wFab.modHalf 2 (fun h => { h with kept := [wFlit], replayAt := some 0 }), by decide +kernel, by decide +kernel,
    by decide +kernel⟩,
   ⟨4, wFab.modHalf 2 (fun h => { h with kept := [wFlit], next := 1 }), by decide +kernel, by decide +kernel⟩,
   ⟨4, 2, wFab.modHalf 2 (fun h => { h with cons := [(2, 3)] }), by decide +kernel, by decide +kernel⟩,
   ⟨4, [5, 3], 3, wFab, by decide +kernel, by decide +kernel, by decide +kernel, by decide +kernel⟩⟩

theorem witness_LinksComeUp :
    (∃ (n : Fin 576), ∃ (x : BitVec 320), ∃ (b : Ltb), ∃ (skewOk : Bool), ∃ (i : Nat), ∃ (s : State),
      s.laneHalf n.val = some i ∧ b = readLtb (if s.flag LN_STS.INV n.val then Nat.xor x.toNat mirrorMask else x.toNat) ∧
      s.lfl i = 3 ∧ b.crcGood = true ∧ b.align ≠ .none) ∧
    (∃ (n : Fin 576), ∃ (x : BitVec 320), ∃ (b : Ltb), ∃ (skewOk : Bool), ∃ (i : Nat), ∃ (s : State),
      s.laneHalf n.val = some i ∧ b = readLtb (if s.flag LN_STS.INV n.val then Nat.xor x.toNat mirrorMask else x.toNat) ∧
      s.lfl i = lflActive ∧ (s.trafficLanes i).contains n.val = true) ∧
    (∃ (p : Fin 256), ∃ (m : InitMsg), ∃ (grants : List (Fin 4096)), ∃ (s : State), s.lfl (halfOf p.val) = 9 ∧
      s.initOk (halfOf p.val) m = true ∧ m.ackd = true) ∧
    (∃ (p : Fin 256), ∃ (s : State), 2 ≤ s.lfl (halfOf p.val) ∧ s.lfl (halfOf p.val) ≤ 9) ∧
    (∃ (p : Fin 256), ∃ (s : State), s.lfl (halfOf p.val) = lflDownHold ∧ (s.fn (fidPort p.val)).run = .running) :=
  ⟨⟨8, wBlock, _, true, 2, wLfl 3, by decide +kernel, rfl, by decide +kernel, by decide +kernel, by decide +kernel⟩,
   ⟨8, wBlock, _, true, 2, wFab, by decide +kernel, rfl, by decide +kernel, by decide +kernel⟩,
   ⟨4, wInit, [], wLfl 9, by decide +kernel, by decide +kernel, by decide +kernel⟩,
   ⟨4, wLfl 5, by decide +kernel, by decide +kernel⟩,
   ⟨4, wLfl 11, by decide +kernel, by decide +kernel⟩⟩

theorem witness_SteeringMessagesAct :
    (∃ (p : Fin 256), ∃ (q : Nat), ∃ (lane : Nat), ∃ (r : List BypMsg), ∃ (s : State),
      (s.half (halfOf p.val)).bypRx = .steer ⟨q, .out, lane⟩ :: r ∧ (s.half (halfOf p.val)).heat = none ∧
      s.declines (halfOf p.val) = false) ∧
    (∃ (p : Fin 256), ∃ (q : Nat), ∃ (lane : Nat), ∃ (y : Heat), ∃ (r : List BypMsg), ∃ (s : State),
      (s.half (halfOf p.val)).bypRx = .steer ⟨q, .back, lane⟩ :: r ∧ (s.half (halfOf p.val)).heat = some y ∧
      y.initiator = false) ∧
    (∃ (p : Fin 256), ∃ (q : Nat), ∃ (h : Nat), ∃ (w : Nat), ∃ (lane : Nat), ∃ (y : Heat), ∃ (r : List BypMsg), ∃ (s : State),
      (s.half (halfOf p.val)).bypRx = .steer ⟨q, .meas h w, lane⟩ :: r ∧ (s.half (halfOf p.val)).heat = some y ∧
      y.initiator = true ∧ y.lane = lane ∧ y.own = none) ∧
    (∃ (p : Fin 256), ∃ (q : Nat), ∃ (lane : Nat), ∃ (y : Heat), ∃ (r : List BypMsg), ∃ (s : State),
      (s.half (halfOf p.val)).bypRx = .steer ⟨q, .retire, lane⟩ :: r ∧ (s.half (halfOf p.val)).heat = some y ∧
      y.initiator = false) ∧
    (∃ (p : Fin 256), ∃ (q : Nat), ∃ (lane : Nat), ∃ (y : Heat), ∃ (r : List BypMsg), ∃ (s : State),
      (s.half (halfOf p.val)).bypRx = .steer ⟨q, .refuse, lane⟩ :: r ∧ (s.half (halfOf p.val)).heat = some y ∧
      y.initiator = true ∧ y.step = .out ∧ y.lane = lane) :=
  ⟨⟨4, 0, 1, [], ((wByp [.steer ⟨0, .out, 1⟩]).setFld LN_STS.LOCK 1 (spareOf 1)).setFld PRT_STS.STATE 4 4, by decide +kernel,
    by decide +kernel, by decide +kernel⟩,
   ⟨4, 0, 1, wHeat .judge false, [], (wByp [.steer ⟨0, .back,
     1⟩]).modHalf 2 (fun h => { h with heat := some (wHeat .judge false) }), by decide +kernel, by decide +kernel,
     by decide +kernel⟩,
   ⟨4, 0, 20, 20, 1, wHeat .judge true, [], (wByp [.steer ⟨0, .meas 20 20,
     1⟩]).modHalf 2 (fun h => { h with heat := some (wHeat .judge true) }), by decide +kernel, by decide +kernel,
     by decide +kernel, by decide +kernel, by decide +kernel⟩,
   ⟨4, 0, 1, wHeat .judge false, [], (wByp [.steer ⟨0, .retire,
     1⟩]).modHalf 2 (fun h => { h with heat := some (wHeat .judge false) }), by decide +kernel, by decide +kernel,
     by decide +kernel⟩,
   ⟨4, 0, 1, wHeat .out true, [], (wByp [.steer ⟨0, .refuse,
     1⟩]).modHalf 2 (fun h => { h with heat := some (wHeat .out true) }), by decide +kernel, by decide +kernel,
     by decide +kernel, by decide +kernel, by decide +kernel⟩⟩

theorem witness_HeatsRunByTheirCommands :
    (∃ (who : Requester), ∃ (i : Fin 128), ∃ (lead : Fin 1024), ∃ (mask : Fin 256), ∃ (s : State), s.Writes who ⟨.LFL_HT_CTL,
      i.val, 0⟩ ∧ 16 ≤ lead.val ∧ s.lfl i.val = lflActive ∧ (s.half i.val).heat = none) ∧
    (∃ (who : Requester), ∃ (i : Fin 128), ∃ (lead : Fin 1024), ∃ (mask : Fin 256), ∃ (s : State), ∃ x,
      s.Writes who ⟨.LFL_HT_CTL, i.val, 0⟩ ∧ 16 ≤ lead.val ∧ (s.half i.val).heat = some x) ∧
    (∃ (p : Fin 256), ∃ (h : BitVec 8), ∃ (w : Fin 65), ∃ (y : Heat), ∃ (s : State), ∃ r, ∃ n,
      (s.half (halfOf p.val)).heat = some y ∧ r = s.ownRx (halfOf p.val) y.lane ∧
      n = s.macroOf (2 * portOfHalf (halfOf p.val) + y.lane) ∧ y.step = .out ∧ (s.half (halfOf p.val)).txSpare = some y.lane ∧
      (s.half (halfOf p.val)).rxSpare = some y.lane ∧ (y.initiator = true → y.answered = true)) ∧
    (∃ (p : Fin 256), ∃ (h : BitVec 8), ∃ (w : Fin 65), ∃ (y : Heat), ∃ (s : State), ∃ r, ∃ n,
      (s.half (halfOf p.val)).heat = some y ∧ r = s.ownRx (halfOf p.val) y.lane ∧
      n = s.macroOf (2 * portOfHalf (halfOf p.val) + y.lane) ∧ y.step = .train ∧ s.lanesUp r = true) ∧
    (∃ (p : Fin 256), ∃ (h : BitVec 8), ∃ (w : Fin 65), ∃ (y : Heat), ∃ (s : State), ∃ r, ∃ n,
      (s.half (halfOf p.val)).heat = some y ∧ r = s.ownRx (halfOf p.val) y.lane ∧
      n = s.macroOf (2 * portOfHalf (halfOf p.val) + y.lane) ∧ y.step = .eq ∧ (s.lane r).done = true ∧ 3 ≤ (s.lane r).farDone) ∧
    (∃ (p : Fin 256), ∃ (h : BitVec 8), ∃ (w : Fin 65), ∃ (y : Heat), ∃ (s : State), ∃ r, ∃ n,
      (s.half (halfOf p.val)).heat = some y ∧ r = s.ownRx (halfOf p.val) y.lane ∧
      n = s.macroOf (2 * portOfHalf (halfOf p.val) + y.lane) ∧ y.step = .settle) ∧
    (∃ (p : Fin 256), ∃ (s : State), s.fld LFL_SP_STS.USE (halfOf p.val / 2) = 1 ∧
      s.fld LFL_SP_STS.HALF (halfOf p.val / 2) = halfOf p.val % 2 ∧ (s.half (halfOf p.val)).heat = none) ∧
    (∃ (p : Fin 256), ∃ (tie : Bool), ∃ (y : Heat), ∃ (s : State), (s.half (halfOf p.val)).heat = some y ∧ y.initiator = true ∧
      y.step = .spare ∧ s.spareLocked (halfOf p.val) = false) ∧
    (∃ (who : Requester), ∃ (o : Fin 64), ∃ (own : Fin 4), ∃ (s : State), s.Writes who ⟨.LFL_SP_CTL, o.val, 0⟩ ∧
      s.octetStarted o.val = false) :=
  ⟨⟨.seat 0, 2, 20, 255, wFab, writes0 (by decide +kernel), by decide +kernel, by decide +kernel, by decide +kernel⟩,
   ⟨.seat 0, 2, 20, 255, wFab.modHalf 2 (fun h => { h with heat := some (wHeat .eq true) }), wHeat .eq true,
     writes0 (by decide +kernel), by decide +kernel, by decide +kernel⟩,
   ⟨4, 9, 9, wHeat .out false,
     wFab.modHalf 2 (fun h => { h with heat := some (wHeat .out false), txSpare := some 1, rxSpare := some 1 }), _, _,
     by decide +kernel, rfl, rfl, by decide +kernel, by decide +kernel, by decide +kernel, by decide +kernel⟩,
   ⟨4, 9, 9, wHeat .train true,
     (((wFab.modHalf 2 (fun h => { h with heat := some (wHeat .train true) })).setLane 8 { good := 3, pol := 3 }).setFld LN_STS.LOCK 1 8).setFld LN_STS.LOS 0 8,
     _, _, by decide +kernel, rfl, rfl, by decide +kernel, by decide +kernel⟩,
   ⟨4, 9, 9, wHeat .eq true,
     (wFab.modHalf 2 (fun h => { h with heat := some (wHeat .eq true) })).setLane 8 { done := true, farDone := 3 }, _, _,
     by decide +kernel, rfl, rfl, by decide +kernel, by decide +kernel, by decide +kernel⟩,
   ⟨4, 9, 9, wHeat .settle true, wFab.modHalf 2 (fun h => { h with heat := some (wHeat .settle true) }), _, _,
     by decide +kernel, rfl, rfl, by decide +kernel⟩,
   ⟨4, (wFab.setFld LFL_SP_STS.USE 1 1).setFld LFL_SP_STS.HALF 0 1, by decide +kernel, by decide +kernel, by decide +kernel⟩,
   ⟨4, true, wHeat .spare true, wFab.modHalf 2 (fun h => { h with heat := some (wHeat .spare true) }), by decide +kernel,
     by decide +kernel, by decide +kernel, by decide +kernel⟩,
   ⟨.seat 0, 3, 2, ((w0.modHalf 6 (fun h => { h with retired := some 2 })).setFld LFL_SP_STS.USE 3 3).setFld PRT_CTL.ROLE 4 12,
     writes0 (by decide +kernel), by decide +kernel⟩⟩

theorem witness_LaneDetectorsReport :
    (∃ (n : Fin 576), ∃ (s : State), s.laneLive n.val = true ∧ s.flag LN_STS.LOS n.val = false) ∧
    (∃ (n : Fin 576), ∃ (s : State), s.laneLive n.val = true ∧ s.flag LN_STS.RXON n.val = true) ∧
    (∃ (n : Fin 576), ∃ (s : State), s.laneLive n.val = true ∧ s.flag LN_STS.LOS n.val = false ∧
      s.flag LN_STS.LOCK n.val = true) ∧
    (∃ (n : Fin 576), ∃ (s : State), s.laneLive n.val = true ∧ s.flag LN_STS.LOS n.val = false ∧
      s.flag LN_STS.RXON n.val = true) :=
  ⟨⟨8, wLn.setFld LN_STS.LOS 0 8, by decide +kernel, by decide +kernel⟩,
   ⟨8, wLn.setFld LN_STS.LOS 1 8, by decide +kernel, by decide +kernel⟩,
   ⟨8, (wLn.setFld LN_STS.LOS 0 8).setFld LN_STS.LOCK 1 8, by decide +kernel, by decide +kernel, by decide +kernel⟩,
   ⟨8, wLn.setFld LN_STS.LOS 0 8, by decide +kernel, by decide +kernel, by decide +kernel⟩⟩

theorem witness_LanesEqualiseScanAndCheck :
    (∃ (n : Fin 576), ∃ (area : Nat), ∃ (pre : Fin 13), ∃ (post : Fin 17), ∃ (s : State), s.evaluating n.val = true ∧
      eqLegal pre.val post.val = true ∧ (s.lane n.val).asked = none) ∧
    (∃ (n : Fin 576), ∃ (area : Nat), ∃ (pre : Fin 13), ∃ (post : Fin 17), ∃ (s : State), ∃ a, ∃ b, s.evaluating n.val = true ∧
      eqLegal pre.val post.val = true ∧ (s.lane n.val).asked = some (a, b) ∧ (s.lane n.val).applied = true ∧
      (s.lane n.val).tried + 1 < s.fld LN_EQ_CFG.MAXREQ n.val) ∧
    (∃ (n : Fin 576), ∃ (s : State), s.evaluating n.val = true ∧ s.cxlLane n.val = true) ∧
    (∃ (n : Fin 576), ∃ (s : State), s.evaluating n.val = true) ∧
    (∃ (n : Fin 576), ∃ (s : State), s.evaluating n.val = true ∧ s.cxlLane n.val = false) ∧
    (∃ (who : Requester), ∃ (n : Fin 576), ∃ (dwell : Fin 8), ∃ (s : State), s.Writes who ⟨.LN_SS_CTL, n.val, 0⟩ ∧
      s.flag LN_SS_CTL.BUSY n.val = false ∧ s.flag LN_STS.RXON n.val = true ∧ s.flag LN_STS.LOCK n.val = true) ∧
    (∃ (n : Fin 576), ∃ (h0 : BitVec 8), ∃ (h1 : BitVec 8), ∃ (h2 : BitVec 8), ∃ (w0 : Fin 65), ∃ (w1 : Fin 65),
      ∃ (w2 : Fin 65), ∃ (s : State), s.flag LN_SS_CTL.BUSY n.val = true) ∧
    (∃ (n : Fin 576), ∃ (h0 : BitVec 8), ∃ (h1 : BitVec 8), ∃ (h2 : BitVec 8), ∃ (w0 : Fin 65), ∃ (w1 : Fin 65),
      ∃ (w2 : Fin 65), ∃ (s : State), ∃ (p : Nat), ∃ (w : Option (BitVec 32)), s.flag LN_SS_CTL.BUSY n.val = true ∧
      s.laneOwner n.val = some p ∧ s.fld PRT_CTL.ROLE p ≠ 4 ∧ s.flag PRT_STS.LUP p = true) ∧
    (∃ (n : Fin 576), ∃ (s : State), s.laneOwner n.val = none ∧ s.fld LN_LB.CHK n.val ≠ 0 ∧ (s.fld LN_LB.CHK n.val ≠ 6 ∨
      s.pam4 n.val = true) ∧ s.flag LN_STS.RXON n.val = true) ∧
    (∃ (n : Fin 576), ∃ (bits : Nat), ∃ (errors : Nat), ∃ (s : State), s.flag LN_LB.CHK_LOCK n.val = true) ∧
    (∃ (n : Fin 576), ∃ (s : State), s.fld LN_LB.MODE n.val = 3 ∧ s.laneOwner n.val = none) :=
  ⟨⟨8, 5, 1, 2, wLfl 7, by decide +kernel, by decide +kernel, by decide +kernel⟩,
   ⟨8, 5, 1, 2, (wLfl 7).setLane 8 { asked := some (1, 2), applied := true }, 1, 2, by decide +kernel, by decide +kernel,
     by decide +kernel, by decide +kernel, by decide +kernel⟩,
   ⟨6, wHost.setFld PRT_STS.STATE 2 3, by decide +kernel, by decide +kernel⟩,
   ⟨8, wLfl 7, by decide +kernel⟩,
   ⟨8, wLfl 7, by decide +kernel, by decide +kernel⟩,
   ⟨.seat 0, 8, 3, (wLn.setFld LN_STS.LOS 0 8).setFld LN_STS.LOCK 1 8, writes0 (by decide +kernel), by decide +kernel,
     by decide +kernel, by decide +kernel⟩,
   ⟨8, 1, 2, 3, 4, 5, 6, wLn.setFld LN_SS_CTL.BUSY 1 8, by decide +kernel⟩,
   ⟨6, 1, 2, 3, 4, 5, 6, wHost.setFld LN_SS_CTL.BUSY 1 6, 3, none, by decide +kernel, by decide +kernel, by decide +kernel,
     by decide +kernel⟩,
   ⟨8, wLn.setFld LN_LB.CHK 1 8, by decide +kernel, by decide +kernel, by decide +kernel, by decide +kernel⟩,
   ⟨8, 100, 3, (wLn.setFld LN_LB.CHK 1 8).setFld LN_LB.CHK_LOCK 1 8, by decide +kernel⟩,
   ⟨8, wLn.setFld LN_LB.MODE 3 8, by decide +kernel, by decide +kernel⟩⟩

theorem witness_PortsTrainAndFall :
    (∃ (p : Fin 256), ∃ (rate : Fin 6), ∃ (width : Fin 5), ∃ (mem : Bool), ∃ (f256 : Bool), ∃ (lopt : Bool), ∃ (f68 : Bool),
      ∃ (rev : Bool), ∃ (ls : List LaneTrained), ∃ (f : Nat), ∃ (s : State), s.fld PRT_STS.STATE p.val = 2 ∧
      s.fld PRT_CTL.ROLE p.val ≠ 4 ∧ rate.val ≤ s.fld PRT_CTL.MAXRATE p.val ∧ width.val ≤ s.fld PRT_CTL.WIDTH p.val + 1 ∧
      s.chip.pllFail.contains (octetOf p.val) = false ∧ s.fld PRT_CTL.MINW p.val ≤ width.val ∧ s.flitMode p.val ⟨rate, width,
      mem, f256, lopt, f68, rev⟩ = some f ∧ s.polarityFails p.val (2 ^ width.val) rev ls = false ∧
      (s.fld PRT_CTL.ROLE p.val ≠ 2 ∨ s.flag PRT_CTL.ENUM p.val = false)) ∧
    (∃ (p : Fin 256), ∃ (s : State), s.fld PRT_STS.STATE p.val = 2 ∧ s.fld PRT_CTL.ROLE p.val ≠ 4) ∧
    (∃ (p : Fin 256), ∃ (far : Bool), ∃ (s : State), s.fld PRT_STS.STATE p.val = 4 ∧ s.fld PRT_CTL.ROLE p.val ≠ 4 ∧
      s.flag PRT_STS.LUP p.val = true) ∧
    (∃ (p : Fin 256), ∃ (s : State), s.fld PRT_STS.STATE p.val = 5 ∧ s.fld PRT_CTL.ROLE p.val ≠ 4 ∧
      (s.fn (fidPort p.val)).run = .running) :=
  ⟨⟨3, 5, 1, true, true, false, false, false, [], 2,
    ((wHost.setFld PRT_STS.STATE 2 3).setFld PRT_CTL.MAXRATE 5 3).setFld PRT_CTL.WIDTH 1 3, by decide +kernel,
    by decide +kernel, by decide +kernel, by decide +kernel, by decide +kernel, by decide +kernel, by decide +kernel,
    by decide +kernel, by decide +kernel⟩,
   ⟨3, wHost.setFld PRT_STS.STATE 2 3, by decide +kernel, by decide +kernel⟩,
   ⟨3, true, wHost, by decide +kernel, by decide +kernel, by decide +kernel⟩,
   ⟨3, wHost.setFld PRT_STS.STATE 5 3, by decide +kernel, by decide +kernel, by decide +kernel⟩⟩

theorem witness_EnumerationsRun :
    (∃ x, ∃ (p : Fin 256), ∃ (e : EnumSt), ∃ (s : State), (x ∈ ([(1, EnumResp.header true 0x1F3A 0x5121,
      fun e : EnumSt => { e with step := 2, ven := 0x1F3A, dev := 0x5121 }), (2, .capable true, fun e => { e with step := 3 }),
      (3, .active true, fun e => { e with step := 4 }), (3, .active false, fun e => { e with step := 3 }), (4,
      .identify true 3 8, fun e => { e with step := 5, volatile := 3, total := 8 }), (5, .enabled,
      fun e => { e with step := 6 })] : List (Nat × EnumResp × (EnumSt → EnumSt)))) ∧ (s.port p.val).enum = some e ∧
      e.step = x.1) ∧
    (∃ (p : Fin 256), ∃ (e : EnumSt), ∃ (s : State), (s.port p.val).enum = some e ∧ e.step = 6) ∧
    (∃ (p : Fin 256), ∃ (e : EnumSt), ∃ (s : State), (s.port p.val).enum = some e) ∧
    (∃ (p : Fin 256), ∃ (e : EnumSt), ∃ (s : State), (s.port p.val).enum = some e ∧ e.step = 3) :=
  ⟨⟨_, 3, { step := 1 }, w0.modPort 3 (fun q => { q with enum := some { step := 1 } }), .head _, by decide +kernel,
    by decide +kernel⟩,
   ⟨3, { step := 6, total := 8 }, w0.modPort 3 (fun q => { q with enum := some { step := 6, total := 8 } }), by decide +kernel,
     by decide +kernel⟩,
   ⟨3, { step := 2 }, w0.modPort 3 (fun q => { q with enum := some { step := 2 } }), by decide +kernel⟩,
   ⟨3, { step := 3 }, w0.modPort 3 (fun q => { q with enum := some { step := 3 } }), by decide +kernel, by decide +kernel⟩⟩

theorem witness_PortServicesAnswer :
    (∃ (p : Fin 256), ∃ (s : State), s.flag PRT_STS.LUP p.val = true ∧ s.fld PRT_CTL.ROLE p.val = 1) ∧
    (∃ (p : Fin 256), ∃ (s : State), s.flag PRT_STS.LUP p.val = true ∧ s.fld PRT_CTL.ROLE p.val = 2 ∧ s.linkRole p.val = 2) ∧
    (∃ (p : Fin 256), ∃ (s : State), ∃ (w : Fin 5), s.flag PRT_STS.LUP p.val = true ∧ s.fld PRT_CTL.ROLE p.val ≠ 4) ∧
    (∃ (p : Fin 256), ∃ (a : Fin 4096), ∃ (ctl : Bool), ∃ (v : Word), ∃ (h : Nat), ∃ (b : Nat), ∃ (s : State),
      s.boundTo p.val = some (h, b)) ∧
    (∃ (p : Fin 256), ∃ (posted : Bool), ∃ (n : Fin 257), ∃ (s : State), s.deviceSends p.val = true) :=
  ⟨⟨3, wHost, by decide +kernel, by decide +kernel⟩,
   ⟨3, wHost.setFld PRT_CTL.ROLE 2 3, by decide +kernel, by decide +kernel, by decide +kernel⟩,
   ⟨3, wHost, 2, by decide +kernel, by decide +kernel⟩,
   ⟨4, 4, true, 5, 3, 0, wBound, by decide +kernel⟩,
   ⟨4, true, 8, wBound, by decide +kernel⟩⟩

theorem witness_SecureRegionLocksAndIsWiped :
    (∃ (who : Requester), ∃ (s : State), s.Writes who ⟨.SPD_SEC_LOCK, 0, 0⟩) ∧
    (∃ (released : List (Fin 2)), ∃ (s : State), s.flag SPD_TAMP_STS.BUSY = true ∧ s.chip.target = none) :=
  ⟨⟨.seat 0, w0, writes0 (by decide +kernel)⟩,
   ⟨[], (w0.setFld SPD_TAMP_STS.BUSY 1).store secureBase 8 0x55, by decide +kernel, by decide +kernel⟩⟩

theorem witness_FifosReset :
    (∃ (s : State), ∃ (p : Fin 256), (s.role p.val = 1 ∨ s.role p.val = 4)) ∧
    (∃ (p : Fin 256), ∃ (s : State), (s.port p.val).trackerDown = true ∧ (s.port p.val).out = [] ∧ (s.port p.val).epochs = []) ∧
    (∃ (p : Fin 256), ∃ (s : State), ∃ e, ∃ rest, (s.port p.val).trackerDown = true ∧ (s.port p.val).out = [] ∧
      (s.port p.val).epochs = e :: rest ∧ e.draining.isSome = true) :=
  ⟨⟨w0.setFld PRT_CTL.ROLE 1 3, 3, by decide +kernel⟩,
   ⟨3, w0.modPort 3 (fun q => { q with trackerDown := true }), by decide +kernel, by decide +kernel, by decide +kernel⟩,
   ⟨3, w0.modPort 3 (fun q => { q with trackerDown := true, epochs := [{ seat := none, rd := 0, draining := some 2 }] }),
     { seat := none, rd := 0, draining := some 2 }, [], by decide +kernel, by decide +kernel, by decide +kernel,
     by decide +kernel⟩⟩

theorem witness_DebugAccessesAreChecked :
    (∃ (a : Fin 67108864), ∃ (wide : Bool), ∃ (w : Option Word), ∃ (lost : Bool), ∃ (session : Bool), ∃ (o : WriteObs),
      ∃ (s : State), ∃ (u : State), ∃ x, s.chip.dead = false ∧ s.debugReaches = true ∧ a.val % (if wide then 8 else 4) = 0 ∧
      windowOffset a.val = none ∧ s.nocHeld (Requester.debug).node (targetOf a.val) = false ∧
      u = s.setFld SPD_DBG_CTL.SESS (bit session) ∧
      u.refusal .debug true (if w.isSome then .write else .read) a.val (if wide then 8 else 4) = some x) ∧
    (∃ (a : Fin 67108864), ∃ (wide : Bool), ∃ (w : Option Word), ∃ (lost : Bool), ∃ (session : Bool), ∃ (o : WriteObs),
      ∃ (s : State), ∃ (u : State), ∃ n, ∃ v, s.chip.dead = false ∧ s.debugReaches = true ∧
      a.val % (if wide then 8 else 4) = 0 ∧ windowOffset a.val = none ∧
      s.nocHeld (Requester.debug).node (targetOf a.val) = false ∧ u = s.setFld SPD_DBG_CTL.SESS (bit session) ∧
      u.refusal .debug true (if w.isSome then .write else .read) a.val (if wide then 8 else 4) = none ∧
      u.nocTry .debug a.val wide w.isSome o.noc = (.ok, n) ∧ w = some v) ∧
    (∃ (a : Fin 67108864), ∃ (wide : Bool), ∃ (w : Option Word), ∃ (lost : Bool), ∃ (session : Bool), ∃ (o : WriteObs),
      ∃ (s : State), ∃ (u : State), ∃ n, s.chip.dead = false ∧ s.debugReaches = true ∧ a.val % (if wide then 8 else 4) = 0 ∧
      windowOffset a.val = none ∧ s.nocHeld (Requester.debug).node (targetOf a.val) = false ∧
      u = s.setFld SPD_DBG_CTL.SESS (bit session) ∧
      u.refusal .debug true (if w.isSome then .write else .read) a.val (if wide then 8 else 4) = none ∧
      u.nocTry .debug a.val wide w.isSome o.noc = (.ok, n) ∧ w = none) :=
  ⟨⟨⟨0x1000, by decide⟩, false, none, false, false, {}, wDbg, _, (0x1000, 0), by decide +kernel, by decide +kernel,
    by decide +kernel, by decide +kernel, by decide +kernel, rfl, by decide +kernel⟩,
   ⟨⟨RKey.addr ⟨.NOC_CTL, 0, 0⟩, by decide⟩, false, some 1, false, true, {}, wDev, _, _, _, by decide +kernel,
     by decide +kernel, by decide +kernel, by decide +kernel, by decide +kernel, rfl, by decide +kernel, rfl, rfl⟩,
   ⟨⟨RKey.addr ⟨.NOC_CTL, 0, 0⟩, by decide⟩, false, none, false, true, {}, wDev, _, _, by decide +kernel, by decide +kernel,
     by decide +kernel, by decide +kernel, by decide +kernel, rfl, by decide +kernel, rfl, by decide +kernel⟩⟩

theorem witness_NocErrorsAndAlerts :
    (∃ (i : Nat), ∃ (q : NocReq), ∃ (s : State), ∃ p, s.noc.outstanding[i]? = some q ∧ (∀ m, m < 16 → (∀ w ∈ (s.seat m).posted,
      w.held = false) ∧ ∀ w, (s.seat m).wait = some w → w.begun = true) ∧ q.who = .bar0 p ∧ q.write = false) ∧
    (∃ (i : Nat), ∃ (q : NocReq), ∃ (s : State), ∃ n, ∃ x, ∃ r, ∃ rd, s.noc.outstanding[i]? = some q ∧ (∀ m, m < 16 →
      (∀ w ∈ (s.seat m).posted, w.held = false) ∧ ∀ w, (s.seat m).wait = some w → w.begun = true) ∧ q.who = .seat n ∧
      q.write = false ∧ s.seatState n = seatWaiting ∧ (s.seat n).wait = some ⟨.frd q.addr q.wide x r, rd, true⟩) ∧
    (∃ (b : Fin 18), ∃ (s : State), s.flag NOC_BR_STS.UP b.val = true) ∧
    (∃ (a : Alert), ∃ (rest : List Alert), ∃ (s : State), s.noc.send = a :: rest ∧ alertKind a.msg = 0) ∧
    (∃ (a : Alert), ∃ (rest : List Alert), ∃ (s : State), s.noc.send = a :: rest ∧ alertKind a.msg ≠ 0 ∧ (∀ n ∈ s.named a,
      (s.railIn n).length < 16)) ∧
    (∃ (n : Fin 238), ∃ (a : Alert), ∃ (rest : List Alert), ∃ (s : State), s.railIn n.val = a :: rest) :=
  ⟨⟨0, ⟨1, 2, .bar0 3, 0x1000, true, false, false, 0, false⟩, wNoc ⟨1, 2, .bar0 3, 0x1000, true, false, false, 0, false⟩ w0, 3,
    by decide +kernel, by decide +kernel, by decide +kernel, by decide +kernel⟩,
   ⟨0, ⟨1, 2, .seat 0, 0x1000, true, false, false, 0, false⟩, wNoc ⟨1, 2, .seat 0, 0x1000, true, false, false, 0,
     false⟩ ((w0.setSeatState 0 seatWaiting).modSeat 0 (fun q => { q with wait := some wFrd })), 0, .ok, .inTime, 2,
     by decide +kernel, by decide +kernel, by decide +kernel, by decide +kernel, by decide +kernel, by decide +kernel⟩,
   ⟨4, w0.setFld NOC_BR_STS.UP 1 4, by decide +kernel⟩,
   ⟨⟨3, 1, 0, .reserved 7⟩, [], { w0 with noc := { w0.noc with send := [⟨3, 1, 0, .reserved 7⟩] } }, by decide +kernel,
     by decide +kernel⟩,
   ⟨⟨3, 1, 0, .fence 5 9 3 3⟩, [], { w0 with noc := { w0.noc with send := [⟨3, 1, 0, .fence 5 9 3 3⟩] } }, by decide +kernel,
     by decide +kernel, by decide +kernel⟩,
   ⟨3, ⟨3, 1, 0, .fence 5 9 3 3⟩, [], w0.setRailIn 3 [⟨3, 1, 0, .fence 5 9 3 3⟩], by decide +kernel⟩⟩

theorem witness_BaysRampAndRetry :
    (∃ (b : Fin 32), ∃ (o : BayObs), ∃ (s : State), s.bayAlive = true) ∧
    (∃ (b : Fin 32), ∃ (o : BayObs), ∃ (s : State), s.bayAlive = true ∧ (s.bayState b.val = bayRamping ∨
      s.bayState b.val = bayOn) ∧ ((s.sample b.val o).estAtLeast b.val 0 (bitsOf ((s.bay b.val).set 1) 15 8) = true ∨
      (s.sample b.val o).estAtLeast b.val 1 (bitsOf ((s.bay b.val).set 1) 15 8) = true)) ∧
    (∃ (b : Fin 32), ∃ (o : BayObs), ∃ (s : State), s.bayAlive = true ∧ (s.bay b.val).held = true ∧ (∀ f, f < 2 →
      s.estSource b.val f = 2 ∨ (s.sample b.val o).estCode b.val f ≤ 4 * (bitsOf ((s.bay b.val).set 1) 15 8 - 5 + 40))) ∧
    (∃ (b : Fin 32), ∃ (o : BayObs), ∃ (s : State), ∃ (vo : Fin 65536), s.bayAlive = true ∧ s.bayState b.val = bayRamping ∧
      100 * bitsOf ((s.bay b.val).set 2) 23 16 ≤ vo.val ∧ vo.val ≤ 100 * bitsOf ((s.bay b.val).set 2) 15 8) ∧
    (∃ (b : Fin 32), ∃ (o : BayObs), ∃ (s : State), s.bayAlive = true ∧ s.fld BAY_HOLD.HOLD b.val ≠ 0) ∧
    (∃ (b : Fin 32), ∃ (o : BayObs), ∃ (s : State), s.bayAlive = true ∧ s.bayState b.val = bayCooling ∧
      s.fld BAY_HOLD.HOLD b.val = 0 ∧ (s.sample b.val o).cooled b.val 0 = true ∧ (s.sample b.val o).cooled b.val 1 = true ∧
      s.baySafe = false) ∧
    (∃ (b : Fin 32), ∃ (o : BayObs), ∃ (s : State), s.bayAlive = true ∧ s.bayState b.val = bayOn) :=
  ⟨⟨3, wObs, wBay bayOn, by decide +kernel⟩,
   ⟨3, { wObs with a := { wFeed with diode := some 170000 } },
     (wBay bayOn).modBay 3 (fun q => { q with inForce := [(0, 0xC0000000)] }), by decide +kernel, by decide +kernel,
     by decide +kernel⟩,
   ⟨3, wObs, (wBay bayRamping).modBay 3 (fun q => { q with held := true }), by decide +kernel, by decide +kernel,
     by decide +kernel⟩,
   ⟨3, wObs, (wBay bayRamping), 12000, by decide +kernel, by decide +kernel, by decide +kernel, by decide +kernel⟩,
   ⟨3, wObs, (wBay bayTripped).setFld BAY_HOLD.HOLD 5 3, by decide +kernel, by decide +kernel⟩,
   ⟨3, { wObs with rested := true }, wBay bayCooling, by decide +kernel, by decide +kernel, by decide +kernel,
     by decide +kernel, by decide +kernel, by decide +kernel⟩,
   ⟨3, wObs, (wBay bayOn).setFld BAY_STS.RETRY 2 3, by decide +kernel, by decide +kernel⟩⟩

theorem witness_BaysWatchTheirDevices :
    (∃ (b : Fin 32), ∃ (s : State), ∃ x, s.bayAlive = true ∧ s.flag BAY_STS.PRSNT b.val = false ∧ x ∈ [(bayEmpty, bayPresent),
      (bayDamaged, bayDamaged)] ∧ s.bayState b.val = x.1) ∧
    (∃ (b : Fin 32), ∃ (s : State), ∃ (tie : Bool), s.bayAlive = true ∧ (s.flag BAY_STS.PRSNT b.val = true ∨
      (s.bayState b.val ≠ bayEmpty ∧ s.bayState b.val ≠ bayDamaged))) ∧
    (∃ (b : Fin 32), ∃ (s : State), s.bayAlive = true ∧ s.flag BAY_STS.ATTN b.val = false) ∧
    (∃ (b : Fin 32), ∃ (s : State), s.bayAlive = true) ∧
    (∃ (b : Fin 32), ∃ (s : State), s.bayAlive = true ∧ s.flag BAY_STS.ATTN b.val = true ∧
      bitOf ((s.bay b.val).set 0) 29 = true ∧ (s.bayState b.val = bayRamping ∨ s.bayState b.val = bayOn)) ∧
    (∃ (b : Fin 32), ∃ (s : State), ∃ (f : Fin 2), ∃ (tie : Bool), s.bayAlive = true ∧ (s.bay b.val).lost = []) ∧
    (∃ (b : Fin 32), ∃ (s : State), ∃ (f : Fin 2), ∃ (tie : Bool), s.bayAlive = true ∧ (s.bay b.val).lost = [f.val]) ∧
    (∃ (b : Fin 32), ∃ (s : State), s.bayAlive = true ∧ s.gate b.val 0 = true ∧ s.gate b.val 1 = true ∧
      s.flag BAY_STS.SHARE b.val = false) ∧
    (∃ (b : Fin 32), ∃ (s : State), s.bayAlive = true ∧ s.flag BAY_STS.SHARE b.val = true) ∧
    (∃ (b : Fin 32), ∃ (s : State), ∃ x, s.bayAlive = true ∧ x ∈ [((0 : Fin 3), BAY_STS.DMGA, false), (1, BAY_STS.DMGB, false),
      (2, BAY_STS.DMGX, true)] ∧ s.gate b.val x.1.val = x.2.2 ∧ s.bayState b.val ≠ bayDamaged) ∧
    (∃ (slow : Bool), ∃ (fast : Bool), ∃ (s : State), s.bayAlive = true) ∧
    (∃ (s : State), s.bayAlive = true) ∧
    (∃ (s : State), s.bayAlive = false) :=
  ⟨⟨3, w0, _, by decide +kernel, by decide +kernel, .head _, by decide +kernel⟩,
   ⟨3, wBay bayOn, false, by decide +kernel, by decide +kernel⟩,
   ⟨3, wBay bayOn, by decide +kernel, by decide +kernel⟩,
   ⟨3, (wBay bayOn).setFld BAY_STS.ATTN 1 3, by decide +kernel⟩,
   ⟨3, ((wBay bayOn).setFld BAY_STS.ATTN 1 3).modBay 3 (fun q => { q with inForce := [(0, 0x20000000)] }), by decide +kernel,
     by decide +kernel, by decide +kernel, by decide +kernel⟩,
   ⟨3, wBay bayOn, 1, false, by decide +kernel, by decide +kernel⟩,
   ⟨3, (wBay bayOn).modBay 3 (fun q => { q with lost := [1] }), 1, false, by decide +kernel, by decide +kernel⟩,
   ⟨3, (wBay bayOn).modBay 3 (fun q => { q with gateA := true, gateB := true }), by decide +kernel, by decide +kernel,
     by decide +kernel, by decide +kernel⟩,
   ⟨3, (wBay bayOn).setFld BAY_STS.SHARE 1 3, by decide +kernel, by decide +kernel⟩,
   ⟨3, wBay bayOn, _, by decide +kernel, .head _, by decide +kernel, by decide +kernel⟩,
   ⟨true, false, wBay bayDamaged, by decide +kernel⟩,
   ⟨wBay bayOn, by decide +kernel⟩,
   ⟨(wBay bayOn).setFld GLB_PWR_STS.BAY_LOCK 1, by decide +kernel⟩⟩

theorem witness_FaultReportsAreClassified :
    (∃ (n : Fin 1536), ∃ (tie : Bool), ∃ (s : State), slotReserved n.val = false ∧
      s.flt.reports.find? (fun m => slotUnit m == slotUnit n.val) = some n.val ∧ s.safe = true ∧ s.flt.safeQ.length + 8 < 32) ∧
    (∃ (n : Fin 1536), ∃ (tie : Bool), ∃ (s : State), ∃ w, slotReserved n.val = false ∧
      s.flt.reports.find? (fun m => slotUnit m == slotUnit n.val) = some n.val ∧ s.safe = false ∧
      s.flag FLT_SRC_CFG.EN n.val = true ∧ s.flag FLT_SRC_STS.SEVERE n.val = false ∧
      w = (if s.flag FLT_SRC_STS.WOPEN n.val then min 0xFF (s.fld FLT_SRC_STS.WCNT n.val + 1) else 1) ∧
      w < s.fld FLT_SRC_CFG.NSEV n.val) ∧
    (∃ (n : Fin 1536), ∃ (tie : Bool), ∃ (s : State), ∃ w, slotReserved n.val = false ∧
      s.flt.reports.find? (fun m => slotUnit m == slotUnit n.val) = some n.val ∧ s.safe = false ∧
      s.flag FLT_SRC_CFG.EN n.val = true ∧ s.flag FLT_SRC_STS.SEVERE n.val = false ∧
      w = (if s.flag FLT_SRC_STS.WOPEN n.val then min 0xFF (s.fld FLT_SRC_STS.WCNT n.val + 1) else 1) ∧
      s.fld FLT_SRC_CFG.NSEV n.val ≤ w) ∧
    (∃ (n : Fin 1536), ∃ (s : State), s.flag FLT_SRC_STS.WOPEN n.val = true) ∧
    (∃ (who : Requester), ∃ (n : Fin 1536), ∃ (s : State), s.Writes who ⟨.FLT_SRC_STS, n.val, 0⟩ ∧ slotReserved n.val = false ∧
      s.causePresent n.val = true) ∧
    (∃ (who : Requester), ∃ (n : Fin 1536), ∃ (s : State), s.Writes who ⟨.FLT_SRC_STS, n.val, 0⟩ ∧ slotReserved n.val = false ∧
      s.causePresent n.val = false) :=
  ⟨⟨3, false, wFlt (fun f => { f with reports := [3] }) (w0.setFld FLT_GSTS.SAFE 1), by decide +kernel, by decide +kernel,
    by decide +kernel, by decide +kernel⟩,
   ⟨3, false, wFlt (fun f => { f with reports := [3] }) ((w0.setFld FLT_SRC_CFG.EN 1 3).setFld FLT_SRC_CFG.NSEV 4 3), 1,
     by decide +kernel, by decide +kernel, by decide +kernel, by decide +kernel, by decide +kernel, by decide +kernel,
     by decide +kernel⟩,
   ⟨3, false, wFlt (fun f => { f with reports := [3] }) ((w0.setFld FLT_SRC_CFG.EN 1 3).setFld FLT_SRC_CFG.NSEV 1 3), 1,
     by decide +kernel, by decide +kernel, by decide +kernel, by decide +kernel, by decide +kernel, by decide +kernel,
     by decide +kernel⟩,
   ⟨3, w0.setFld FLT_SRC_STS.WOPEN 1 3, by decide +kernel⟩,
   ⟨.seat 0, 3, wHost.setFld PRT_STS.LUP 0 3, writes0 (by decide +kernel), by decide +kernel, by decide +kernel⟩,
   ⟨.seat 0, 3, wHost, writes0 (by decide +kernel), by decide +kernel, by decide +kernel⟩⟩

theorem witness_TheSafeStateIsTaken :
    (∃ (who : Requester), ∃ (s : State), s.Writes who ⟨.FLT_CTL, 0, 0⟩ ∧ s.safe = false) ∧
    (∃ (w : Fin 67108864), ∃ (k : RKey), ∃ (off : Nat), ∃ (c : Nat), ∃ (s : State), regAt (w.val / 4 * 4) = some (k, off) ∧
      parityCause k.r = some c ∧ w.val / 4 * 4 ∉ s.flt.bad) ∧
    (∃ (o : Fin 64), ∃ (s : State), o.val ∈ s.flt.notices.ports) ∧
    (∃ (s : State), s.flt.notices.engine = true) ∧
    (∃ (n : Fin 16), ∃ (rd : Fin 32), ∃ (w : Word), ∃ (q : List Word), ∃ (s : State), s.seatState n.val ≠ seatIdle ∧
      s.priv n.val = true ∧ fifoPop s.flt.faultQ = some (w, q)) ∧
    (∃ (n : Fin 16), ∃ (rd : Fin 32), ∃ (w : Word), ∃ (q : List Word), ∃ (s : State), s.seatState n.val ≠ seatIdle ∧
      s.priv n.val = true ∧ fifoPop s.flt.safeQ = some (w, q)) :=
  ⟨⟨.seat 0, w0, writes0 (by decide +kernel), by decide +kernel⟩,
   ⟨⟨RKey.addr ⟨.FLT_SAFE_VEC, 0, 0⟩, by decide⟩, ⟨.FLT_SAFE_VEC, 0, 0⟩, 0, 1, w0, by decide +kernel, by decide +kernel,
     by decide +kernel⟩,
   ⟨3, wFlt (fun f => { f with notices := { f.notices with ports := [3] } }) w0, by decide +kernel⟩,
   ⟨wFlt (fun f => { f with notices := { f.notices with engine := true } }) (wE.setSeatState 1 seatWaiting), by decide +kernel⟩,
   ⟨0, 2, 7, [9], wFlt (fun f => { f with faultQ := [7, 9] }) wE, by decide +kernel, by decide +kernel, by decide +kernel⟩,
   ⟨0, 2, 7, [9], wFlt (fun f => { f with safeQ := [7, 9] }) wE, by decide +kernel, by decide +kernel, by decide +kernel⟩⟩

theorem witness_CountersFreezeFlushAndClear :
    (∃ (who : Requester), ∃ (f : Bool), ∃ (s : State), s.Writes who ⟨.PMC_CTL, 0, 0⟩) ∧
    (∃ (i : Fin 157), ∃ (s : State), ∃ k, ∃ n, s.pmc.acc.filter (fun e => e.1.island == i.val) = [(k, n)]) ∧
    (∃ (who : Requester), ∃ (bank : Fin 3), ∃ (i : Fin 1024), ∃ (j : Fin 8), ∃ (v : Word), ∃ (s : State),
      s.Writes who (counterKey bank i.val j.val)) :=
  ⟨⟨.seat 0, true, w0, writes0 (by decide +kernel)⟩,
   ⟨3, { w0 with pmc := { w0.pmc with acc := [(⟨3, 1, 12, 0⟩, 9)] } }, ⟨3, 1, 12, 0⟩, 9, by decide +kernel⟩,
   ⟨.seat 0, 1, 3, 2, 5, w0.wr (counterKey 1 3 2) 77, writes0 (by decide +kernel)⟩⟩

theorem witness_ResetsLeaveTheirState :
    (∃ (c : Instr), ∃ (k : ResetKind), ∃ (s : State), ((∃ b, c = .powerOnReset b ∧ k = .powerOn) ∨ (s.chip.burn = none ∧
      s.chip.target = none ∧ ((c = .coldReset ∧ k = .coldPin) ∨ ∃ who, c = .glbColdResetRequest who ∧
      k = .coldReg who.resetReq ∧ s.Writes who ⟨.GLB_RST_CTL, 0, 0⟩)))) ∧
    (∃ (c : Instr), ∃ (k : ResetKind), ∃ (s : State), s.chip.burn = none ∧ s.chip.target = none ∧ s.chip.dead = false ∧
      ((c = .warmReset ∧ k = .warmPin) ∨ ∃ who, c = .glbWarmResetRequest who ∧ k = .warmReg who.resetReq ∧
      s.Writes who ⟨.GLB_RST_CTL, 0, 0⟩)) ∧
    (∃ (s : State), (s.chip.burn.isSome = true ∨ s.chip.target.isSome = true) ∧ s.chip.resetHeld = none) ∧
    (∃ (s : State), (s.chip.burn.isSome = true ∨ s.chip.target.isSome = true) ∧ s.chip.resetHeld = none ∧
      s.chip.dead = false) :=
  ⟨⟨.coldReset, .coldPin, wE, Or.inr ⟨by decide +kernel, by decide +kernel, Or.inl ⟨rfl, rfl⟩⟩⟩,
   ⟨.warmReset, .warmPin, wE, by decide +kernel, by decide +kernel, by decide +kernel, Or.inl ⟨rfl, rfl⟩⟩,
   ⟨wChip (fun c => { c with burn := some (3, 0, 0) }) w0, by decide +kernel, by decide +kernel⟩,
   ⟨wChip (fun c => { c with burn := some (3, 0, 0) }) w0, by decide +kernel, by decide +kernel, by decide +kernel⟩⟩

theorem witness_ClocksAndFusesAreRecorded :
    (∃ (row : Fin 256), ∃ (keyBad : List (Fin 4)), ∃ (fw : Bool), ∃ (user : Bool), ∃ (pwr : Bool), ∃ (s : State),
      s.flag FUSE_STS.DONE = false ∧ s.flag FUSE_STS.FAIL = false ∧ fuseCause s.chip.fuses = 0) ∧
    (∃ (row : Fin 256), ∃ (keyBad : List (Fin 4)), ∃ (fw : Bool), ∃ (user : Bool), ∃ (pwr : Bool), ∃ (s : State), ∃ (c : Fin 5),
      ∃ (n : Nat), s.flag FUSE_STS.DONE = false ∧ s.flag FUSE_STS.FAIL = false ∧
      n = (if c.val ≠ 0 then c.val else fuseCause s.chip.fuses) ∧ n ≠ 0) :=
  ⟨⟨0, [1], false, false, true, w0, by decide +kernel, by decide +kernel, by decide +kernel⟩,
   ⟨7, [1], false, false, true, w0, 2, 2, by decide +kernel, by decide +kernel, by decide +kernel, by decide +kernel⟩⟩

theorem witness_TheRomBoots :
    (∃ (sel : Fin 4), ∃ (a : List Byte), ∃ (b : List Byte), ∃ (s : State), s.chip.dead = false ∧ s.chip.boot = .rom ∧
      s.flag FUSE_STS.DONE = true ∧ 3 ≤ s.fld GLB_RST_STS.LAST ∧ s.chip.digest = some s.regionDigest) ∧
    (∃ (sel : Fin 4), ∃ (a : List Byte), ∃ (b : List Byte), ∃ (s : State), s.chip.dead = false ∧ s.chip.boot = .rom ∧
      s.flag FUSE_STS.DONE = true ∧ s.fld GLB_RST_STS.LAST < 3 ∧ sel ≠ 2) ∧
    (∃ (sel : Fin 4), ∃ (a : List Byte), ∃ (b : List Byte), ∃ (s : State), s.chip.dead = false ∧ s.chip.boot = .rom ∧
      s.flag FUSE_STS.DONE = true ∧ s.fld GLB_RST_STS.LAST < 3 ∧ sel = 2) ∧
    (∃ (who : Requester), ∃ (addr : BitVec 32), ∃ (len : Fin 1048576), ∃ (image : Option (List Byte)), ∃ (s : State),
      ∃ (u : State), s.Writes who ⟨.GLB_BOOT_HOST, 0, 0⟩ ∧ u = (s.dropLatch who (RKey.addr ⟨.GLB_BOOT_HOST, 0,
      0⟩) true).plainWrite ⟨.GLB_BOOT_HOST, 0, 0⟩ (fieldAt 63 1 + fieldAt 20 addr.toNat + fieldAt 0 len.val)) :=
  ⟨⟨0, [], [], wWarm, by decide +kernel, by decide +kernel, by decide +kernel, by decide +kernel, rfl⟩,
   ⟨1, [], [], wFused, by decide +kernel, by decide +kernel, by decide +kernel, by decide +kernel, by decide +kernel⟩,
   ⟨2, [], [], wFused, by decide +kernel, by decide +kernel, by decide +kernel, by decide +kernel, by decide +kernel⟩,
   ⟨.seat 0, 0x1000, 64, none, wFused, _, writes0 (by decide +kernel), rfl⟩⟩

theorem witness_FuseBurnsRun :
    (∃ (who : Requester), ∃ (slot : Fin 4), ∃ (src : Fin 131072), ∃ (s : State), ∃ x, s.Writes who ⟨.FUSE_PGM, 0, 0⟩ ∧
      s.flag FUSE_PGM.BUSY = false ∧ x ∈ [(Instr.keySlotProgram who slot src, 1, slot.val, src.val), (.keySlotRevoke who slot,
      2, slot.val, 0), (.fwMinVersionRaise who, 3, 0, 0), (.userMinVersionRaise who, 4, 0, 0)]) ∧
    (∃ (op : Nat), ∃ (slot : Nat), ∃ (hash : Nat), ∃ (s : State), s.chip.burn = some (op, slot, hash) ∧
      s.chip.resetHeld = none) :=
  ⟨⟨.seat 0, 1, 5, w0, _, writes0 (by decide +kernel), by decide +kernel, .head _⟩,
   ⟨3, 0, 0, wChip (fun c => { c with burn := some (3, 0, 0) }) w0, by decide +kernel, by decide +kernel⟩⟩

theorem witness_LifecycleTransitionsCommit :
    (∃ (who : Requester), ∃ (target : Fin 16), ∃ (v : Bool), ∃ (s : State), ∃ g, s.Writes who ⟨.GLB_LIFECYCLE, 0, 0⟩ ∧
      s.flag GLB_LIFECYCLE.BUSY = false ∧ g = (if target.val ≤ lcReturned then target.val else s.fld GLB_LIFECYCLE.TARGET)) ∧
    (∃ (target : Nat), ∃ (s : State), s.chip.target = some target ∧ target < 16 ∧ s.chip.resetHeld = none) :=
  ⟨⟨.seat 0, 4, true, w0.setFld GLB_PWR_STS.FUSE_PWR 1, _, writes0 (by decide +kernel), by decide +kernel, rfl⟩,
   ⟨4, (wChip (fun c => { c with target := some 4 }) w0).store secureBase 8 0x55, by decide +kernel, by decide +kernel,
     by decide +kernel⟩⟩

theorem witness_OtherCommandsLeaveTheScratchpad :
    ∃ (c : Instr), ∃ (s : State), ∃ (t : State), Sys2Proof.Claims.mayWriteScratchpad c = false ∧ exec c s = .next t :=
  ⟨.hkclkLoss, w0, _, by decide +kernel, rfl⟩

end Sys2Proof.Tests

end
end

section
/-! PROOFS. What an instruction of the A, I and B formats does where it issues: the seat it runs on, its traps, its fetch. -/

namespace Sys2Proof.Machine

/-! The issuing seat at its dispatch (R305, R334) -/

/-- The engine's cycle after the dispatch is the cycle of the dispatch. -/
@[simp] theorem cycle_atDispatch (s : State) (d : Disp) (c : Nat) :
    ((s.atDispatch d).cost d.seat.val c).eng.cycle = s.issueCycle d := rfl

/-- The issuing seat at its dispatch: its cost runs from the dispatch's cycle, its YIELD is over, all else is as before. -/
@[simp] theorem seat_atDispatch (s : State) (d : Disp) (c : Nat) :
    ((s.atDispatch d).cost d.seat.val c).seat d.seat.val =
      { s.seat d.seat.val with yielded := false, busy := s.issueCycle d + c } := by
  obtain ⟨k, hk⟩ := atDispatch_cost_self s d c
  have hbusy : (((s.atDispatch d).cost d.seat.val c).seat d.seat.val).busy = s.issueCycle d + c :=
    congrArg Seat.busy (State.seat_modSeat_same (s.atDispatch d) d.seat.val _)
  rw [hk] at hbusy ⊢
  rw [← hbusy]

/-- The dispatch leaves the seat's region of the store as it is. -/
@[simp] theorem fetchOk_atDispatch (s : State) (d : Disp) (c n pc : Nat) :
    ((s.atDispatch d).cost d.seat.val c).fetchOk n pc = s.fetchOk n pc := by
  obtain ⟨g, acc, hu⟩ := atDispatch_cost s d c
  rw [hu]
  rfl

/-- What an issuing instruction's fields meet. -/
theorem State.Issues.fields {s : State} {i : Instr} {d : Disp} {ok : Bool} (h : s.Issues i d ok) : ok = true := by
  obtain ⟨-, -, -, -, hok⟩ := h
  exact hok

/-- An instruction issues under any test that its fields meet. -/
theorem State.Issues.of_fields {s : State} {i : Instr} {d : Disp} {ok ok' : Bool} (h : s.Issues i d ok) (h' : ok' = true) :
    s.Issues i d ok' := by
  obtain ⟨hd, hf, hue, hword, -⟩ := h
  exact ⟨hd, hf, hue, hword, h'⟩

/-- A register file with the same contents gives the same registers. -/
theorem greg_of_g {s t : State} {n : Nat} (h : (t.seat n).g = (s.seat n).g) (r : Nat) : t.greg n r = s.greg n r := by
  simp only [State.greg, h]

/-- The dispatch is a step of the engine's seats. -/
theorem seatStep_atDispatch (s : State) (d : Disp) (c : Nat) : SeatStep s ((s.atDispatch d).cost d.seat.val c) d.seat.val := by
  obtain ⟨g, acc, hu⟩ := atDispatch_cost s d c
  refine ⟨⟨by rw [hu], by rw [hu]⟩, by rw [hu], fun m hm => ?_⟩
  obtain ⟨b, hb⟩ := atDispatch_cost_other s d c hm
  rw [hb]

/-- A change of the seat itself keeps a step of the seats one. -/
theorem SeatStep.modSeat {s t : State} {n : Nat} (h : SeatStep s t n) (f : Seat → Seat) : SeatStep s (t.modSeat n f) n := by
  obtain ⟨⟨hstate, hpmc⟩, heng, hseats⟩ := h
  refine ⟨⟨hstate, hpmc⟩, heng, fun m hm => ?_⟩
  rw [State.seat_modSeat_ne _ _ hm]
  exact hseats m hm

theorem SeatStep.setGreg {s t : State} {n : Nat} (h : SeatStep s t n) (r : Nat) (v : Word) :
    SeatStep s (t.setGreg n r v) n := by
  unfold State.setGreg
  split
  · exact h
  · exact h.modSeat _

theorem SeatStep.advancePc {s t : State} {n : Nat} (h : SeatStep s t n) : SeatStep s (t.advancePc n) n := h.modSeat _

/-! A register written -/

/-- A write of a general register changes nothing else of the seat. -/
theorem seat_setGreg (s : State) (n r : Nat) (v : Word) : ∃ g, (s.setGreg n r v).seat n = { s.seat n with g := g } := by
  unfold State.setGreg
  split
  · exact ⟨_, rfl⟩
  · exact ⟨_, State.seat_modSeat_same _ _ _⟩

/-- A write of register rd, g0 among them. -/
theorem writesReg_setGreg (s : State) (n rd : Nat) (v : Word) : WritesReg s (s.setGreg n rd v) n rd v := by
  intro r
  split
  · next h =>
    obtain ⟨rfl, h0⟩ := h
    exact greg_setGreg_same s n v h0
  · next h =>
    by_cases hr : r = rd
    · have h0 : rd = 0 := by_contra fun h0 => h ⟨hr, h0⟩
      simp [hr, h0, State.greg]
    · exact greg_setGreg_ne s n v hr

/-- What WritesReg says rests on the two register files alone. -/
theorem WritesReg.congr {s t s' t' : State} {n rd : Nat} {v : Word} (h : WritesReg s t n rd v)
    (hs : (s'.seat n).g = (s.seat n).g) (ht : (t'.seat n).g = (t.seat n).g) : WritesReg s' t' n rd v := by
  intro r
  rw [greg_of_g hs, greg_of_g ht]
  exact h r

/-- An instruction that writes v to RD and then leaves the register file alone. -/
theorem writesReg_dispatched {s t : State} {d : Disp} {c : Nat} {v : Word}
    (h : (t.seat d.seat.val).g = ((((s.atDispatch d).cost d.seat.val c).setGreg d.seat.val d.rd.val v).seat d.seat.val).g) :
    WritesReg s t d.seat.val d.rd.val v :=
  (writesReg_setGreg _ _ _ v).congr (by rw [seat_atDispatch]) h

/-- The cost of an instruction that writes one result. -/
theorem busy_compute {s : State} {i : Instr} {d : Disp} {ok : Bool} (h : s.Issues i d ok) (c : Nat) (f : State → Word) :
    ((s.compute d c ok f).seat d.seat.val).busy = s.issueCycle d + c := by
  unfold State.compute
  rw [dispatch_issues h]
  obtain ⟨g, hg⟩ := seat_setGreg ((s.atDispatch d).cost d.seat.val c) d.seat.val d.rd.val
    (f ((s.atDispatch d).cost d.seat.val c))
  simp [State.advancePc, hg]

/-! Traps (R314) -/

/-- A posted event leaves the seats and their registers alone. -/
@[simp] theorem seat_post (s : State) (code src detail m : Nat) : (s.post code src detail).seat m = s.seat m := by
  unfold State.post State.postRecord
  split <;> rfl

theorem fld_post (s : State) (code src detail : Nat) {f : Fld} (hf : f.r = .ICF_SEAT_STS) (i j : Nat) :
    (s.post code src detail).fld f i j = s.fld f i j := by
  unfold State.post State.postRecord
  split
  · show ((({ s with eng := _ } : State).setFld ICF_EVQ_CNT.COUNT _).setFld ICF_EVQ_STS.FULL _).fld f i j = _
    rw [State.fld_setFld_ne _ _ _ _ _ _ _ _ (.inl (by simp [hf])), State.fld_setFld_ne _ _ _ _ _ _ _ _ (.inl (by simp [hf]))]
    rfl
  · exact State.fld_setFld_ne _ _ _ _ _ _ _ _ (.inl (by simp [hf]))

/-- Of the seat itself a trap changes the program counter alone. -/
theorem seat_trapAt (s : State) (n cause pc : Nat) : ∃ pc', (s.trapAt n cause pc).seat n = { s.seat n with pc := pc' } := by
  unfold State.trapAt
  dsimp only
  split
  · exact ⟨(s.seat n).pc, by simp [State.setSeatState]⟩
  split
  · exact ⟨_, rfl⟩
  · next hn _ =>
    obtain rfl : n = 0 := not_not.1 hn
    exact ⟨_, State.seat_modSeat_same _ _ _⟩

/-- The fields of ICF_SEAT_STS below INTRAP after a trap: the cause and the address are recorded. -/
theorem fld_trapAt (s : State) (n cause pc : Nat) {f : Fld} (hr : f.r = .ICF_SEAT_STS) (hhi : f.hi < 28) :
    (s.trapAt n cause pc).fld f n = ((s.setFld ICF_SEAT_STS.CAUSE cause n).setFld ICF_SEAT_STS.EPC pc n).fld f n := by
  unfold State.trapAt
  dsimp only
  split
  · rw [fld_post _ _ _ _ hr]
    exact State.fld_setFld_field _ ICF_SEAT_STS.STATE f _ _ _ hr (by decide) (.inl (by simp; omega))
  next hn =>
  obtain rfl : n = 0 := not_not.1 hn
  split
  · exact State.fld_setFld_field _ ICF_SEAT_STS.STATE f _ _ _ hr (by decide) (.inl (by simp; omega))
  · exact State.fld_setFld_field _ ICF_SEAT_STS.INTRAP f _ _ _ hr (by decide) (.inl hhi)

/-- A trap at the dispatch records cause and address, and has no other effect on memory, registers and posted writes. -/
theorem traps_atDispatch (s : State) (d : Disp) (c : Nat) {cause : Nat} (hc : cause < 16) :
    Traps s (((s.atDispatch d).cost d.seat.val c).trapAt d.seat.val cause (s.seat d.seat.val).pc) d cause := by
  obtain ⟨pc', hseat⟩ := seat_trapAt ((s.atDispatch d).cost d.seat.val c) d.seat.val cause (s.seat d.seat.val).pc
  rw [seat_atDispatch] at hseat
  refine ⟨?_, ?_, by simp, greg_of_g (by rw [hseat]), by rw [hseat]⟩
  · rw [fld_trapAt _ _ _ _ rfl (by decide),
      State.fld_setFld_field _ ICF_SEAT_STS.EPC ICF_SEAT_STS.CAUSE _ _ _ rfl (by decide) (by decide),
      State.fld_setFld_same _ _ _ _ _ (by decide)]
    exact Nat.mod_eq_of_lt hc
  · exact (fld_trapAt _ _ _ _ rfl (by decide)).trans (State.fld_setFld_same _ _ _ _ _ (by decide))

/-- Where the instruction issues but its fields are not in form, it traps with cause 0x1 (R333). -/
theorem dispatch_traps {s : State} {i : Instr} {d : Disp} {bad ok : Bool} (h : s.Issues i d bad) (hok : ok = false) (c : Nat)
    (run : State → Ran) : Traps s (s.dispatch d c ok run) d 1 := by
  obtain ⟨hd, hf, hue, -, -⟩ := h
  have htrap : s.dispatch d c ok run =
      ((s.atDispatch d).cost d.seat.val c).trapAt d.seat.val 1 (s.seat d.seat.val).pc := by
    simp [State.dispatch, hd, hf, hue, hok]
  rw [htrap]
  exact traps_atDispatch s d c (by decide)

/-- A seat that stands outside its region of the store traps with cause 0x3 whatever the store holds (R307, R310). -/
theorem fetching_traps {s : State} {d : Disp} (hd : s.dispatches d = true)
    (hf : s.fetchOk d.seat.val (s.seat d.seat.val).pc = false) (k : Format) (op : Nat) (run : State → State) :
    Traps s (fetching d k op run s) d 3 := by
  have htrap : fetching d k op run s =
      ((s.atDispatch d).cost d.seat.val 1).trapAt d.seat.val 3 (s.seat d.seat.val).pc := by
    simp [fetching, hf, State.dispatch, hd]
  rw [htrap]
  exact traps_atDispatch s d 1 (by decide)

/-! The instruction that a command names -/

/-- The command is the instruction of a format and one of its OP codes, and run is what it does once fetched (R331, R332). -/
def Runs (mk : Disp → Instr) (k : Format) (op : Nat) (run : Disp → State → State) : Prop :=
  op ∈ k.ops ∧ ∀ d, (mk d).code = some (d, k, op) ∧ ∀ s, exec (mk d) s = .next (fetching d k op (run d) s)

theorem Runs.exec_eq {mk : Disp → Instr} {k : Format} {op : Nat} {run : Disp → State → State} (hi : Runs mk k op run)
    {s : State} {d : Disp} {ok : Bool} (h : s.Issues (mk d) d ok) : exec (mk d) s = .next (run d s) := by
  obtain ⟨hop, hi⟩ := hi
  obtain ⟨hcode, hexec⟩ := hi d
  rw [hexec, fetching_issues h hcode hop]

theorem Runs.fetch_traps {mk : Disp → Instr} {k : Format} {op : Nat} {run : Disp → State → State} (hi : Runs mk k op run)
    {s : State} {d : Disp} (hd : s.dispatches d = true) (hf : s.fetchOk d.seat.val (s.seat d.seat.val).pc = false) :
    ∃ t, exec (mk d) s = .next t ∧ Traps s t d 3 :=
  ⟨_, (hi.2 d).2 s, fetching_traps hd hf _ _ _⟩

/-- An instruction that only dispatches traps where its fields are not in form. -/
theorem Runs.form_traps {mk : Disp → Instr} {k : Format} {op c : Nat} {ok : Disp → Bool} {body : Disp → State → Ran}
    (hi : Runs mk k op (fun d s => s.dispatch d c (ok d) (body d))) {s : State} {d : Disp} {bad : Bool}
    (h : s.Issues (mk d) d bad) (hok : ok d = false) : ∃ t, exec (mk d) s = .next t ∧ Traps s t d 1 :=
  ⟨_, hi.exec_eq h, dispatch_traps h hok _ _⟩

/-- An instruction that writes one result: it yields the result's value at the state before it, at its cost. -/
theorem Runs.compute_yields {mk : Disp → Instr} {k : Format} {op c : Nat} {ok : Disp → Bool} {g val : State → Disp → Word}
    (hi : Runs mk k op (fun d s => s.compute d c (ok d) (fun s => g s d)))
    (hval : ∀ s d, g ((s.atDispatch d).cost d.seat.val c) d = val s d) {s : State} {d : Disp} (h : s.Issues (mk d) d (ok d)) :
    ∃ t, exec (mk d) s = .next t ∧ Yields s t d (val s d) ∧ (t.seat d.seat.val).busy = s.issueCycle d + c :=
  ⟨_, hi.exec_eq h, hval s d ▸ Machine.compute_yields h c _, busy_compute h c _⟩

end Sys2Proof.Machine
end

section
/-! PROOFS. The I-format instructions (spec/13 R339). -/

namespace Sys2Proof.Machine

/-- The word of a comparison. -/
@[simp] theorem boolWord_decide (p : Prop) [Decidable p] : boolWord (decide p) = if p then 1 else 0 := by
  simp [boolWord]

/-- Sign extension keeps the number that an immediate spells. -/
theorem toInt_simm (d : Disp) : d.simm.toInt = d.imm.toInt := BitVec.toInt_signExtend_of_le (by decide)

/-- Zero extension keeps the unsigned number that it spells. -/
theorem toNat_zimm (d : Disp) : d.zimm.toNat = d.imm.toNat := by simp [Disp.zimm]; omega

/-- LIH puts its immediate above the low half of RD. -/
theorem joinHalves_zimm (d : Disp) (w : Word) : joinHalves d.zimm w = wordOf (2 ^ 32 * d.imm.toNat + w.toNat % 2 ^ 32) := by
  rw [joinHalves, toNat_zimm, Nat.mod_eq_of_lt d.imm.isLt, wordOf]

/-- An instruction of 1 cycle whose fields are in form yields a value, and traps with cause 0x1 where they are not (R339). -/
def ComputesOrTraps (s : State) (i : Instr) (d : Disp) (ok : Bool) (v : Word) : Prop :=
  (s.Issues i d ok → ∃ t, exec i s = .next t ∧ Yields s t d v ∧ (t.seat d.seat.val).busy = s.issueCycle d + 1) ∧
  (s.Issues i d (!ok) → ∃ t, exec i s = .next t ∧ Traps s t d 1)

/-- An instruction of 1 cycle that writes one result, or traps where its fields are not in form. -/
theorem Runs.computes_or_traps {mk : Disp → Instr} {k : Format} {op : Nat} {ok : Disp → Bool}
    {g val : State → Disp → Word} (hi : Runs mk k op (fun d s => s.compute d 1 (ok d) (fun s => g s d)))
    (hval : ∀ s d, g ((s.atDispatch d).cost d.seat.val 1) d = val s d) (d : Disp) (s : State) :
    ComputesOrTraps s (mk d) d (ok d) (val s d) :=
  ⟨hi.compute_yields hval, fun h => hi.form_traps h (by simpa using h.fields)⟩

/-- An instruction of a register and an immediate. -/
theorem Runs.immediate {mk : Disp → Instr} {op : Nat} {f : Disp → Word → Word}
    (hi : Runs mk .i op (fun d => arithImm d (f d))) (d : Disp) (s : State) :
    ComputesOrTraps s (mk d) d d.regImm (f d (s.src1 d)) :=
  Runs.computes_or_traps (ok := Disp.regImm) (g := fun s d => f d (s.src1 d)) hi (fun s d => by rw [src1_atDispatch]) d s

/-- A shift by an immediate. -/
theorem Runs.shift {mk : Disp → Instr} {op : Nat} {f : Word → Nat → Word}
    (hi : Runs mk .i op (fun d => arithShift d f)) (d : Disp) (s : State) :
    ComputesOrTraps s (mk d) d d.regShift (f (s.src1 d) d.imm.toNat) :=
  Runs.computes_or_traps (ok := Disp.regShift) (g := fun s d => f (s.src1 d) d.imm.toNat) hi
    (fun s d => by rw [src1_atDispatch]) d s

/-! The rows of R339: each command is its OP and its result -/

theorem runs_addi : Runs .addi .i 0x00 (fun d => arithImm d (· + d.simm)) :=
  ⟨by decide, fun _ => ⟨rfl, fun _ => rfl⟩⟩
theorem runs_andi : Runs .andi .i 0x02 (fun d => arithImm d (· &&& d.zimm)) :=
  ⟨by decide, fun _ => ⟨rfl, fun _ => rfl⟩⟩
theorem runs_ori : Runs .ori .i 0x03 (fun d => arithImm d (· ||| d.zimm)) :=
  ⟨by decide, fun _ => ⟨rfl, fun _ => rfl⟩⟩
theorem runs_xori : Runs .xori .i 0x04 (fun d => arithImm d (· ^^^ d.zimm)) :=
  ⟨by decide, fun _ => ⟨rfl, fun _ => rfl⟩⟩
theorem runs_slli : Runs .slli .i 0x06 (fun d => arithShift d (fun x k => x <<< k)) :=
  ⟨by decide, fun _ => ⟨rfl, fun _ => rfl⟩⟩
theorem runs_srli : Runs .srli .i 0x07 (fun d => arithShift d (fun x k => x >>> k)) :=
  ⟨by decide, fun _ => ⟨rfl, fun _ => rfl⟩⟩
theorem runs_srai : Runs .srai .i 0x08 (fun d => arithShift d (fun x k => x.sshiftRight k)) :=
  ⟨by decide, fun _ => ⟨rfl, fun _ => rfl⟩⟩
theorem runs_slti : Runs .slti .i 0x09 (fun d => arithImm d (fun x => boolWord (decide (x.toInt < d.simm.toInt)))) :=
  ⟨by decide, fun _ => ⟨rfl, fun _ => rfl⟩⟩
theorem runs_sltiu : Runs .sltiu .i 0x0A (fun d => arithImm d (fun x => boolWord (decide (x.toNat < d.zimm.toNat)))) :=
  ⟨by decide, fun _ => ⟨rfl, fun _ => rfl⟩⟩
theorem runs_li : Runs .li .i 0x40 (fun d s => s.compute d 1 d.immOnly (fun _ => d.zimm)) :=
  ⟨by decide, fun _ => ⟨rfl, fun _ => rfl⟩⟩
theorem runs_lih : Runs .lih .i 0x41 (fun d s => s.compute d 1 d.immOnly (fun s => joinHalves d.zimm (s.srcD d))) :=
  ⟨by decide, fun _ => ⟨rfl, fun _ => rfl⟩⟩

/-- Settles O6: each instruction computes its result from the registers before its dispatch, and traps where a field is out of
form. -/
theorem immediateInstructions : Obligations.ImmediateInstructions := by
  unfold Obligations.ImmediateInstructions
  simp only [List.forall_mem_cons, List.not_mem_nil, false_implies, implies_true, and_true]
  refine ⟨?addi, ?andi, ?ori, ?xori, ?slli, ?srli, ?srai, ?slti, ?sltiu, ?li, ?lih⟩
  case addi => exact runs_addi.immediate
  case andi => exact runs_andi.immediate
  case ori => exact runs_ori.immediate
  case xori => exact runs_xori.immediate
  case slli => exact runs_slli.shift
  case srli => exact runs_srli.shift
  case srai => exact runs_srai.shift
  case slti => simpa only [ComputesOrTraps, boolWord_decide, toInt_simm] using runs_slti.immediate
  case sltiu => simpa only [ComputesOrTraps, boolWord_decide, toNat_zimm] using runs_sltiu.immediate
  case li => exact runs_li.computes_or_traps fun _ _ => rfl
  case lih => exact runs_lih.computes_or_traps fun s d => by rw [srcD_atDispatch, joinHalves_zimm]

end Sys2Proof.Machine
end

section
/-! PROOFS. The special registers (spec/13 R335, R336). -/

namespace Sys2Proof.Machine

/-- A seat's STATUS is as before its dispatch. -/
@[simp] theorem status_atDispatch (s : State) (d : Disp) (c : Nat) :
    ((s.atDispatch d).cost d.seat.val c).status d.seat.val = s.status d.seat.val := by
  obtain ⟨g, acc, hu⟩ := atDispatch_cost s d c
  have hpriv : ((s.atDispatch d).cost d.seat.val c).priv d.seat.val = s.priv d.seat.val := by rw [hu]; rfl
  simp only [State.status, hpriv, seat_atDispatch]

/-- What each index of MFSR reads at the dispatch: index 3 the cycle of the dispatch, the others what stood before it. -/
theorem special_atDispatch (s : State) (d : Disp) (c k : Nat) :
    ((s.atDispatch d).cost d.seat.val c).special d.seat.val k =
      if k = 0 then wordOf (s.seat d.seat.val).pc
      else if k = 1 then s.status d.seat.val
      else if k = 2 then wordOf d.seat.val
      else wordOf (s.issueCycle d) := by
  match k with
  | 0 | 1 | 2 => simp [State.special]
  | k + 3 => simp [State.special]

theorem runs_mfsr : Runs .mfsr .a 0x30 (fun d s => s.compute d 2 (d.immOnly && decide (d.imm.toNat < 4))
    (fun s => s.special d.seat.val d.imm.toNat)) :=
  ⟨by decide, fun _ => ⟨rfl, fun _ => rfl⟩⟩

/-- STATUS.DZ and STATUS.UE cleared where bits 1 and 0 of a word are set (R336). -/
def Seat.clearSticky (v : Word) (q : Seat) : Seat := { q with dz := q.dz && !bitOf v 1, ue := q.ue && !bitOf v 0 }

theorem runs_mtsr : Runs .mtsr .a 0x31 (fun d s => s.dispatch d 2 (d.rd == 0 && d.regImm && d.imm == 1)
    (fun s => .done ((s.modSeat d.seat.val (Seat.clearSticky (s.src1 d))).advancePc d.seat.val))) :=
  ⟨by decide, fun _ => ⟨rfl, fun _ => rfl⟩⟩

/-- The part SpecialRegisterReads of O7. -/
theorem specialRegisterReads : Claims.SpecialRegisterReads := by
  intro d s h
  obtain ⟨t, ht, hy, -⟩ := runs_mfsr.compute_yields (fun s d => special_atDispatch s d 2 d.imm.toNat) h
  exact ⟨t, ht, hy⟩

/-- The part StatusWriteClears of O7. -/
theorem statusWriteClears : Claims.StatusWriteClears := by
  intro d s h
  refine ⟨_, (runs_mtsr.exec_eq h).trans (congrArg _ (dispatch_issues h 2 _)), ?_⟩
  dsimp only
  rw [src1_atDispatch]
  have hseat : ((((s.atDispatch d).cost d.seat.val 2).modSeat d.seat.val (Seat.clearSticky (s.src1 d))).advancePc
      d.seat.val).seat d.seat.val = { Seat.clearSticky (s.src1 d) (s.seat d.seat.val) with
        pc := (s.seat d.seat.val).pc + 8, yielded := false, busy := s.issueCycle d + 2 } := by
    simp [State.advancePc, Seat.clearSticky]
  refine ⟨((seatStep_atDispatch s d 2).modSeat _).advancePc, ?_, ?_, ?_, greg_of_g ?_, ?_, ?_⟩
  all_goals rw [hseat, Seat.clearSticky]

/-- The part SpecialRegisterTraps of O7. -/
theorem specialRegisterTraps : Claims.SpecialRegisterTraps := by
  refine ⟨fun d s h => runs_mfsr.form_traps h ?_, fun d s h => runs_mtsr.form_traps h ?_⟩
  · simp [Nat.not_lt.2 (of_decide_eq_true h.fields)]
  · have himm : (d.imm == 1) = false := by simpa using h.fields
    rw [himm, Bool.and_false]

/-- Settles O7: what MFSR reads, what MTSR clears, and the indexes that trap. -/
theorem specialRegisters : Obligations.SpecialRegisters :=
  ⟨specialRegisterReads, statusWriteClears, specialRegisterTraps⟩

end Sys2Proof.Machine
end

section
/-! PROOFS. Arithmetic that never traps: divisions and wrapping results (spec/13 R338). -/

namespace Sys2Proof.Machine

/-- The state after a division with the result v and the divisor z, from the state t at its dispatch. -/
def State.divided (t : State) (n rd : Nat) (v z : Word) : State :=
  if z = 0 then ((t.setGreg n rd v).advancePc n).modSeat n (fun q => { q with dz := true })
  else (t.setGreg n rd v).advancePc n

/-- Of the seat a division changes a register, the program counter, and DZ for a zero divisor. -/
theorem seat_divided (t : State) (n rd : Nat) (v z : Word) :
    (t.divided n rd v z).seat n = { (t.setGreg n rd v).seat n with
      pc := (t.seat n).pc + 8, dz := (t.seat n).dz || decide (z = 0) } := by
  obtain ⟨g, hg⟩ := seat_setGreg t n rd v
  unfold State.divided
  split
  · next hz => rw [decide_eq_true hz]; simp [State.advancePc, hg]
  · next hz => rw [decide_eq_false hz]; simp [State.advancePc, hg]

theorem SeatStep.divided {s t : State} {n : Nat} (h : SeatStep s t n) (rd : Nat) (v z : Word) :
    SeatStep s (t.divided n rd v z) n := by
  unfold State.divided
  split
  · exact (h.setGreg rd v).advancePc.modSeat _
  · exact (h.setGreg rd v).advancePc

/-- A division where it issues. -/
theorem dispatch_divide {s : State} {i : Instr} {d : Disp} (h : s.Issues i d d.threeReg) (f : Word → Word → Word) :
    divide d f s = ((s.atDispatch d).cost d.seat.val 34).divided d.seat.val d.rd.val (f (s.src1 d) (s.src2 d)) (s.src2 d) := by
  unfold divide State.divided
  rw [dispatch_issues h]
  simp only [src1_atDispatch, src2_atDispatch]

/-- What a division does where it issues. -/
theorem Runs.divides {mk : Disp → Instr} {op : Nat} {f : Word → Word → Word} (hi : Runs mk .a op (fun d => divide d f))
    (d : Disp) (s : State) (h : s.Issues (mk d) d d.threeReg) :
    ∃ t, exec (mk d) s = .next t ∧ WritesReg s t d.seat.val d.rd.val (f (s.src1 d) (s.src2 d)) ∧
      (t.seat d.seat.val).dz = ((s.seat d.seat.val).dz || decide (s.src2 d = 0)) ∧
      (t.seat d.seat.val).pc = (s.seat d.seat.val).pc + 8 ∧ SeatStep s t d.seat.val ∧
      (t.seat d.seat.val).ue = (s.seat d.seat.val).ue ∧ (t.seat d.seat.val).nm = (s.seat d.seat.val).nm := by
  refine ⟨_, (hi.exec_eq h).trans (congrArg _ (dispatch_divide h f)), ?_⟩
  have hseat := seat_divided ((s.atDispatch d).cost d.seat.val 34) d.seat.val d.rd.val (f (s.src1 d) (s.src2 d)) (s.src2 d)
  obtain ⟨g, hg⟩ := seat_setGreg ((s.atDispatch d).cost d.seat.val 34) d.seat.val d.rd.val (f (s.src1 d) (s.src2 d))
  refine ⟨writesReg_dispatched (by rw [hseat]), ?_, ?_, (seatStep_atDispatch s d 34).divided _ _ _, ?_, ?_⟩ <;>
    simp [hseat, hg]

theorem runs_div : Runs .div .a 0x13 (fun d => divide d quot) := ⟨by decide, fun _ => ⟨rfl, fun _ => rfl⟩⟩
theorem runs_divu : Runs .divu .a 0x14 (fun d => divide d quotU) := ⟨by decide, fun _ => ⟨rfl, fun _ => rfl⟩⟩
theorem runs_rem : Runs .rem .a 0x15 (fun d => divide d remS) := ⟨by decide, fun _ => ⟨rfl, fun _ => rfl⟩⟩

/-- The part DivisionResults of O8, row by row. -/
theorem divisionResults : Claims.DivisionResults := by
  unfold Claims.DivisionResults
  simp only [List.forall_mem_cons, List.not_mem_nil, false_implies, implies_true, and_true]
  exact ⟨runs_div.divides, runs_divu.divides, runs_rem.divides⟩

/-- An instruction of three registers. -/
theorem Runs.arith3 {mk : Disp → Instr} {op c : Nat} {f : Word → Word → Word} (hi : Runs mk .a op (fun d => arith3 d c f))
    (d : Disp) (s : State) (h : s.Issues (mk d) d d.threeReg) :
    ∃ t, exec (mk d) s = .next t ∧ Yields s t d (f (s.src1 d) (s.src2 d)) ∧
      (t.seat d.seat.val).busy = s.issueCycle d + c :=
  Runs.compute_yields (ok := Disp.threeReg) (g := fun s d => f (s.src1 d) (s.src2 d)) hi
    (fun s d => by rw [src1_atDispatch, src2_atDispatch]) h

theorem runs_add : Runs .add .a 0x00 (fun d => Machine.arith3 d 1 (· + ·)) := ⟨by decide, fun _ => ⟨rfl, fun _ => rfl⟩⟩
theorem runs_sub : Runs .sub .a 0x01 (fun d => Machine.arith3 d 1 (· - ·)) := ⟨by decide, fun _ => ⟨rfl, fun _ => rfl⟩⟩
theorem runs_mul : Runs .mul .a 0x10 (fun d => Machine.arith3 d 3 (· * ·)) := ⟨by decide, fun _ => ⟨rfl, fun _ => rfl⟩⟩

/-- A result that is a number modulo 2^64. -/
theorem yields_wrapped {mk : Disp → Instr} {s : State} {d : Disp} {v : Word} {m b : Nat}
    (h : ∃ t, exec (mk d) s = .next t ∧ Yields s t d v ∧ (t.seat d.seat.val).busy = b) (hm : v.toNat = m % 2 ^ 64) :
    ∃ t v, exec (mk d) s = .next t ∧ WritesReg s t d.seat.val d.rd.val v ∧ v.toNat = m % 2 ^ 64 ∧
      RegsOnly s t d.seat.val := by
  obtain ⟨t, ht, ⟨hw, -, -, hr⟩, -⟩ := h
  exact ⟨t, v, ht, hw, hm, hr⟩

/-- The smallest number divided by −1 (R338). -/
theorem quot_smallest : quot 0x8000000000000000 (BitVec.allOnes 64) = 0x8000000000000000 := by decide

/-- Its remainder. -/
theorem remS_smallest : remS 0x8000000000000000 (BitVec.allOnes 64) = 0 := by decide

/-- A division of the smallest number by −1, by the value that its function gives. -/
theorem Runs.divides_smallest {mk : Disp → Instr} {op : Nat} {f : Word → Word → Word}
    (hi : Runs mk .a op (fun d => divide d f)) {v : Word} (hv : f 0x8000000000000000 (BitVec.allOnes 64) = v)
    (d : Disp) (s : State) (h : s.Issues (mk d) d d.threeReg) (h1 : s.src1 d = 0x8000000000000000)
    (h2 : s.src2 d = BitVec.allOnes 64) : ∃ t, exec (mk d) s = .next t ∧ WritesReg s t d.seat.val d.rd.val v := by
  obtain ⟨t, ht, hw, -⟩ := hi.divides d s h
  rw [h1, h2, hv] at hw
  exact ⟨t, ht, hw⟩

/-- The part ArithmeticWraps of O8, row by row. -/
theorem arithmeticWraps : Claims.ArithmeticWraps := by
  unfold Claims.ArithmeticWraps
  simp only [List.forall_mem_cons, List.not_mem_nil, false_implies, implies_true, and_true]
  refine ⟨⟨runs_div.divides_smallest quot_smallest, runs_rem.divides_smallest remS_smallest⟩, ?add, ?sub, ?mul, ?addi⟩
  case add => exact fun d s h => yields_wrapped (runs_add.arith3 d s h) (BitVec.toNat_add _ _)
  case sub =>
    exact fun d s h => yields_wrapped (runs_sub.arith3 d s h) ((BitVec.toNat_sub _ _).trans (by rw [Nat.add_comm]))
  case mul => exact fun d s h => yields_wrapped (runs_mul.arith3 d s h) (BitVec.toNat_mul _ _)
  case addi => exact fun d s h => yields_wrapped ((runs_addi.immediate d s).1 h) (BitVec.toNat_add _ _)

/-- Settles O8: the divisions with their corners, and the results that wrap. -/
theorem arithmeticNeverTraps : Obligations.ArithmeticNeverTraps := ⟨divisionResults, arithmeticWraps⟩

end Sys2Proof.Machine
end

section
/-! PROOFS. The B-format instructions (spec/13 R340). -/

namespace Sys2Proof.Machine

/-! Conditional branches -/

/-- A cost changes the seat's cost alone. -/
theorem seat_cost (s : State) (n c : Nat) : (s.cost n c).seat n = { s.seat n with busy := s.eng.cycle + c } :=
  State.seat_modSeat_same _ _ _

/-- A conditional branch where it issues. -/
theorem dispatch_condBranch {s : State} {i : Instr} {d : Disp} {fields : Bool} (h : s.Issues i d (fields && d.immAligned))
    (taken : State → Bool) :
    condBranch d fields taken s =
      if taken ((s.atDispatch d).cost d.seat.val 1) then
        (((s.atDispatch d).cost d.seat.val 1).cost d.seat.val 2).modSeat d.seat.val (fun q => { q with pc := d.target q.pc })
      else ((s.atDispatch d).cost d.seat.val 1).advancePc d.seat.val := by
  unfold condBranch
  rw [dispatch_issues h]
  cases taken ((s.atDispatch d).cost d.seat.val 1) <;> rfl

/-- The seat after a conditional branch: the program counter and the cost are by the condition, all else is as before. -/
theorem seat_condBranch {s : State} {i : Instr} {d : Disp} {fields : Bool} (h : s.Issues i d (fields && d.immAligned))
    (taken : State → Bool) :
    (condBranch d fields taken s).seat d.seat.val =
      let b := taken ((s.atDispatch d).cost d.seat.val 1)
      { s.seat d.seat.val with
        yielded := false
        pc := if b then d.target (s.seat d.seat.val).pc else (s.seat d.seat.val).pc + 8
        busy := s.issueCycle d + if b then 2 else 1 } := by
  rw [dispatch_condBranch h]
  cases taken ((s.atDispatch d).cost d.seat.val 1)
  case true => rw [if_pos rfl, State.seat_modSeat_same, seat_cost, seat_atDispatch, cycle_atDispatch]; rfl
  case false => simp [State.advancePc]

/-- Nothing but the engine's seats takes part in a conditional branch. -/
theorem seatStep_condBranch {s : State} {i : Instr} {d : Disp} {fields : Bool} (h : s.Issues i d (fields && d.immAligned))
    (taken : State → Bool) : SeatStep s (condBranch d fields taken s) d.seat.val := by
  rw [dispatch_condBranch h]
  split
  · exact ((seatStep_atDispatch s d 1).modSeat _).modSeat _
  · exact (seatStep_atDispatch s d 1).advancePc

/-- The effect of a conditional branch: the program counter and the cost by the condition, else no effect but its dispatch. -/
def Branches (s t : State) (d : Disp) (taken : Bool) : Prop :=
  (t.seat d.seat.val).pc = (if taken then d.target (s.seat d.seat.val).pc else (s.seat d.seat.val).pc + 8) ∧
  (t.seat d.seat.val).busy = s.issueCycle d + (if taken then 2 else 1) ∧
  (∀ r, t.greg d.seat.val r = s.greg d.seat.val r) ∧ SeatStep s t d.seat.val ∧ RegsOnly s t d.seat.val

/-- A conditional branch on a condition that its dispatch leaves as it is. -/
theorem Runs.branches {mk : Disp → Instr} {op : Nat} {fields : Disp → Bool} {taken : State → Disp → Bool}
    (hi : Runs mk .b op (fun d => condBranch d (fields d) (fun s => taken s d)))
    (htaken : ∀ s d, taken ((s.atDispatch d).cost d.seat.val 1) d = taken s d) (d : Disp) (s : State)
    (h : s.Issues (mk d) d (fields d && d.immAligned)) :
    ∃ t, exec (mk d) s = .next t ∧ Branches s t d (taken s d) := by
  have hseat := seat_condBranch h (fun s => taken s d)
  rw [htaken] at hseat
  refine ⟨_, hi.exec_eq h, ?pc, ?busy, greg_of_g ?g, seatStep_condBranch h _, ?regsOnly⟩
  case regsOnly => rw [RegsOnly, hseat]
  all_goals rw [hseat]

/-- A branch that compares RS1 with RS2. -/
theorem Runs.compares {mk : Disp → Instr} {op : Nat} {f : Word → Word → Bool}
    (hi : Runs mk .b op (fun d => compareBranch d f)) (d : Disp) (s : State)
    (h : s.Issues (mk d) d (d.rd == 0 && d.rs3 == 0 && d.immAligned)) :
    ∃ t, exec (mk d) s = .next t ∧ Branches s t d (f (s.src1 d) (s.src2 d)) :=
  Runs.branches (fields := fun d => d.rd == 0 && d.rs3 == 0) (taken := fun s d => f (s.src1 d) (s.src2 d)) hi
    (fun s d => by rw [src1_atDispatch, src2_atDispatch]) d s h

/-- A branch on a bit of RS1. -/
theorem Runs.tests_bit {mk : Disp → Instr} {op : Nat} {want : Bool} (hi : Runs mk .b op (fun d => bitBranch d want))
    (d : Disp) (s : State) (h : s.Issues (mk d) d (d.rd == 0 && d.rs3.val % 16 == 0 && d.immAligned)) :
    ∃ t, exec (mk d) s = .next t ∧
      Branches s t d (bif want then bitOf (s.src1 d) d.bitNumber else !bitOf (s.src1 d) d.bitNumber) := by
  have hbr := Runs.branches (fields := fun d => d.rd == 0 && d.rs3.val % 16 == 0)
    (taken := fun s d => bitOf (s.src1 d) d.bitNumber == want) hi (fun s d => by rw [src1_atDispatch]) d s h
  cases want
  case true => rwa [beq_true] at hbr
  case false => rwa [beq_false] at hbr

/-! The rows of R340: each command is its OP and its branch -/

theorem runs_beq : Runs .beq .b 0x00 (fun d => compareBranch d (fun x y => x == y)) :=
  ⟨by decide, fun _ => ⟨rfl, fun _ => rfl⟩⟩
theorem runs_bne : Runs .bne .b 0x01 (fun d => compareBranch d (fun x y => x != y)) :=
  ⟨by decide, fun _ => ⟨rfl, fun _ => rfl⟩⟩
theorem runs_blt : Runs .blt .b 0x02 (fun d => compareBranch d (fun x y => decide (x.toInt < y.toInt))) :=
  ⟨by decide, fun _ => ⟨rfl, fun _ => rfl⟩⟩
theorem runs_bge : Runs .bge .b 0x03 (fun d => compareBranch d (fun x y => decide (y.toInt ≤ x.toInt))) :=
  ⟨by decide, fun _ => ⟨rfl, fun _ => rfl⟩⟩
theorem runs_bltu : Runs .bltu .b 0x04 (fun d => compareBranch d (fun x y => decide (x.toNat < y.toNat))) :=
  ⟨by decide, fun _ => ⟨rfl, fun _ => rfl⟩⟩
theorem runs_bgeu : Runs .bgeu .b 0x05 (fun d => compareBranch d (fun x y => decide (y.toNat ≤ x.toNat))) :=
  ⟨by decide, fun _ => ⟨rfl, fun _ => rfl⟩⟩
theorem runs_bbs : Runs .bbs .b 0x06 (fun d => bitBranch d true) := ⟨by decide, fun _ => ⟨rfl, fun _ => rfl⟩⟩
theorem runs_bbc : Runs .bbc .b 0x07 (fun d => bitBranch d false) := ⟨by decide, fun _ => ⟨rfl, fun _ => rfl⟩⟩

/-- The part ConditionalBranches of O9, row by row. -/
theorem conditionalBranches : Claims.ConditionalBranches := by
  unfold Claims.ConditionalBranches
  simp only [List.forall_mem_cons, List.not_mem_nil, false_implies, implies_true, and_true]
  refine ⟨?beq, ?bne, ?blt, ?bge, ?bltu, ?bgeu, ?bbs, ?bbc⟩
  case beq => exact runs_beq.compares
  case bne => exact runs_bne.compares
  case blt => exact runs_blt.compares
  case bge => exact runs_bge.compares
  case bltu => exact runs_bltu.compares
  case bgeu => exact runs_bgeu.compares
  case bbs => exact runs_bbs.tests_bit
  case bbc => exact runs_bbc.tests_bit

/-! Jumps -/

/-- The state after a jump: RD takes the link, and the seat goes on at the target. -/
def State.jump (s : State) (n rd : Nat) (link : Word) (target : Nat) : State :=
  (s.setGreg n rd link).modSeat n (fun q => { q with pc := target })

/-- What a jump does, from the state at its dispatch. -/
theorem jump_effect (s : State) (d : Disp) (link : Word) (target : Nat) :
    let t := ((s.atDispatch d).cost d.seat.val 2).jump d.seat.val d.rd.val link target
    WritesReg s t d.seat.val d.rd.val link ∧ (t.seat d.seat.val).pc = target ∧
      (t.seat d.seat.val).busy = s.issueCycle d + 2 ∧ SeatStep s t d.seat.val ∧ RegsOnly s t d.seat.val := by
  intro t
  obtain ⟨g, hg⟩ := seat_setGreg ((s.atDispatch d).cost d.seat.val 2) d.seat.val d.rd.val link
  have hseat : t.seat d.seat.val =
      { s.seat d.seat.val with g := g, pc := target, yielded := false, busy := s.issueCycle d + 2 } := by
    simp [t, State.jump, hg]
  refine ⟨writesReg_dispatched (c := 2) ?_, ?_, ?_, ((seatStep_atDispatch s d 2).setGreg _ _).modSeat _, ?_⟩
  · rw [hseat, hg]
  · rw [hseat]
  · rw [hseat]
  · rw [RegsOnly, hseat]

theorem runs_jal : Runs .jal .b 0x10 (fun d s => s.dispatch d 2 (d.immOnly && d.immAligned) (fun s =>
    .done (s.jump d.seat.val d.rd.val (wordOf ((s.seat d.seat.val).pc + 8)) (d.target (s.seat d.seat.val).pc)))) :=
  ⟨by decide, fun _ => ⟨rfl, fun _ => rfl⟩⟩

theorem runs_jalr : Runs .jalr .b 0x11 (fun d s => s.dispatch d 2 d.regImm (fun s =>
    if (s.src1 d + d.simm).toNat % 8 ≠ 0 then .trap 1 s
    else .done (s.jump d.seat.val d.rd.val (wordOf ((s.seat d.seat.val).pc + 8)) (s.src1 d + d.simm).toNat))) :=
  ⟨by decide, fun _ => ⟨rfl, fun _ => rfl⟩⟩

/-- The part JumpsLink of O9. -/
theorem jumpsLink : Claims.JumpsLink := by
  refine ⟨fun d s h => ?jal, fun d s h haligned => ?jalr⟩
  case jal =>
    refine ⟨_, (runs_jal.exec_eq h).trans (congrArg _ (dispatch_issues h 2 _)), ?_⟩
    dsimp only
    rw [seat_atDispatch]
    exact jump_effect s d _ _
  case jalr =>
    have hgo : ¬ (s.src1 d + d.simm).toNat % 8 ≠ 0 := not_not.2 haligned
    refine ⟨_, (runs_jalr.exec_eq h).trans (congrArg _ (dispatch_issues h 2 _)), ?_⟩
    simp only [src1_atDispatch, seat_atDispatch, if_neg hgo]
    exact jump_effect s d _ _

/-! Traps -/

/-- A conditional branch whose IMM is out of form traps, taken or not. -/
theorem condBranch_traps {s : State} {i : Instr} {d : Disp} {bad fields : Bool} {taken : State → Bool} (h : s.Issues i d bad)
    (hoff : d.immAligned = false) : Traps s (condBranch d fields taken s) d 1 :=
  dispatch_traps h (by rw [hoff, Bool.and_false]) _ _

/-- JALR is judged by its target alone. -/
theorem jalr_unaligned_traps (d : Disp) (s : State)
    (h : s.Issues (.jalr d) d (d.regImm && (s.src1 d + d.imm.signExtend 64).toNat % 8 != 0)) :
    ∃ t, exec (.jalr d) s = .next t ∧ Traps s t d 1 := by
  obtain ⟨hform, hoff⟩ := Bool.and_eq_true_iff.1 h.fields
  have hoff : (s.src1 d + d.simm).toNat % 8 ≠ 0 := bne_iff_ne.1 hoff
  refine ⟨_, (runs_jalr.exec_eq h).trans (congrArg _ (dispatch_issues (h.of_fields hform) 2 _)), ?_⟩
  simp only [src1_atDispatch, if_pos hoff]
  exact traps_atDispatch s d 2 (by decide)

/-- What BranchesTrap says of a branch that traps where its IMM is out of form. -/
theorem Runs.branch_traps {mk : Disp → Instr} {op : Nat} {run : Disp → State → State} (hi : Runs mk .b op run)
    (hoff : ∀ {s : State} {d : Disp} {bad : Bool}, s.Issues (mk d) d bad → d.immAligned = false → Traps s (run d s) d 1)
    (d : Disp) (s : State) :
    (s.Issues (mk d) d (d.imm.toNat % 8 != 0) → ∃ t, exec (mk d) s = .next t ∧ Traps s t d 1) ∧
    (s.Issues (.jalr d) d (d.regImm && (s.src1 d + d.imm.signExtend 64).toNat % 8 != 0) →
      ∃ t, exec (.jalr d) s = .next t ∧ Traps s t d 1) ∧
    (s.dispatches d = true → s.fetchOk d.seat.val (s.seat d.seat.val).pc = false →
      ∃ t, exec (mk d) s = .next t ∧ Traps s t d 3) ∧
    (s.dispatches d = true → s.fetchOk d.seat.val (s.seat d.seat.val).pc = false →
      ∃ t, exec (.jalr d) s = .next t ∧ Traps s t d 3) := by
  refine ⟨fun h => ⟨_, hi.exec_eq h, hoff h ?_⟩, jalr_unaligned_traps d s, hi.fetch_traps, runs_jalr.fetch_traps⟩
  simpa [Disp.immAligned] using h.fields

/-- The part BranchesTrap of O9, row by row. -/
theorem branchesTrap : Claims.BranchesTrap := by
  unfold Claims.BranchesTrap
  simp only [List.forall_mem_cons, List.not_mem_nil, false_implies, implies_true, and_true]
  refine ⟨?beq, ?bne, ?blt, ?bge, ?bltu, ?bgeu, ?bbs, ?bbc, ?jal⟩
  case beq => exact runs_beq.branch_traps condBranch_traps
  case bne => exact runs_bne.branch_traps condBranch_traps
  case blt => exact runs_blt.branch_traps condBranch_traps
  case bge => exact runs_bge.branch_traps condBranch_traps
  case bltu => exact runs_bltu.branch_traps condBranch_traps
  case bgeu => exact runs_bgeu.branch_traps condBranch_traps
  case bbs => exact runs_bbs.branch_traps condBranch_traps
  case bbc => exact runs_bbc.branch_traps condBranch_traps
  case jal => exact runs_jal.branch_traps fun h hoff => dispatch_traps h (by rw [hoff, Bool.and_false]) _ _

/-- Settles O9: its three parts, each from what a branch or a jump does where it issues and where it traps. -/
theorem branchesAndJumps : Obligations.BranchesAndJumps := ⟨conditionalBranches, jumpsLink, branchesTrap⟩

end Sys2Proof.Machine
end
